-- ==== Sys2Proof/Word.lean ====
section
/-! DEFINITION. The plainest words of the part: a byte of a line, and the four ports. -/

namespace Sys2Proof

/-- A byte of the host link or of a drive line (R176, R190). -/
abbrev Byte := BitVec 8

/-- The four ports A to D, numbered 0 to 3 in messages (00_scope.md, Conventions). -/
inductive PortId where
  | a | b | c | d
  deriving DecidableEq, Repr

/-- A byte as a line delivers it: its value, or an error byte, received with a missing stop bit (R177). -/
inductive LineByte where
  | byte (v : Byte)
  | error
  deriving DecidableEq, Repr

end Sys2Proof
end

