-- ==== Sys2Proof/Config.lean ====
section
/-! DEFINITION. What the manual fixes for every HT-4: capacities, ranges and times. The manual calls no result of
a step undefined, so no free value stands here. -/

namespace Sys2Proof.Config

/-- Places of the request buffer (R175). -/
def requestPlaces : Nat := 8
/-- Immediate refusals the reply queue takes (R175, R179). -/
def refusalPlaces : Nat := 8
/-- Places of the report queue (R175). -/
def reportPlaces : Nat := 16
/-- The most content a received frame may hold, in bytes (R175, R177). -/
def contentMax : Nat := 1031
/-- Frames of a stream ring (R166). -/
def ringFrames : Nat := 32
/-- Places of a drive queue (R152). -/
def driveQueuePlaces : Nat := 8
/-- Slots of the record pool (R130). -/
def recordSlots : Nat := 12
/-- Entries of a landmark list (R124). -/
def landmarkEntries : Nat := 40
/-- Entries of an indication list (R139). -/
def indicationEntries : Nat := 64
/-- Entries of a gap list (R141). -/
def gapEntries : Nat := 8
/-- Entries one RECORD_FETCH returns (R147). -/
def fetchEntries : Nat := 16
/-- Raw channels, slots and null-table entries of a port (R1, R74). -/
def rawChannels : Nat := 12

/-- The run count at which a coil fault is declared (R10). -/
def coilFaultRun : Nat := 3
/-- Scans of a null operation (R87). -/
def nullScans : Nat := 16
/-- The longest landmark window, in scans (R117). -/
def landmarkWindowMax : Nat := 1024
/-- The saturation run that makes a tube end (R118). -/
def tubeEndRun : Nat := 4
/-- The illegal-transition count that sets ENCODER_SUSPECT (R58). -/
def suspectCount : Nat := 16
/-- The push excursion that a reversal exceeds, in micrometres (R68). -/
def reversalTravel : Nat := 2000

/-- Positions in messages and records, in tenths of a millimetre (00_scope.md). -/
def positionMax : Nat := 300000
/-- The lowest raw position, in micrometres (R55). -/
def rawMin : Int := -1000000
/-- The highest raw position, in micrometres (R55). -/
def rawMax : Int := 31000000
/-- The lowest sample value (00_scope.md). -/
def sampleMin : Int := -32768
/-- The highest sample value (00_scope.md). -/
def sampleMax : Int := 32767
/-- The top of a 32-bit counter. -/
def counterMax : Nat := 4294967295
/-- The top of the illegal-transition count (R55). -/
def illegalMax : Nat := 65535

/-- The switch time of a slot, in ticks (R40). -/
def switchTicks : Nat := 80
/-- Ticks of the 40 MHz reference clock in a microsecond. -/
def ticksPerMicro : Nat := 40
/-- Ticks of the reference clock in a millisecond. -/
def ticksPerMilli : Nat := 40000
/-- The accept deadline, in ticks after the end of sending: 20 ms (R154, R156, R159, R160). -/
def acceptTicks : Nat := 20 * ticksPerMilli
/-- The slack of the done deadline, in ms (R155). -/
def doneSlackMilli : Nat := 2000
/-- The slowest and the fastest speed of the drive line, in mm/s (R151). -/
def speedMin : Nat := 10
/-- The fastest speed of the drive line, in mm/s (R151). -/
def speedMax : Nat := 3000

end Sys2Proof.Config
end

