-- ==== Sys2Proof/Syntax.lean ====
section
/-! DEFINITION. The commands of the part: one constructor of Instr for each row of spec/opcode_table.json, with the
operands the row's rule gives it. A request carries its tag, its port byte and the fields of its payload as
received, before any clamp (R188, R189). An event of the world carries the tick at which it happens. An event of one
of the part's own timers carries the port alone, because that timer holds its time. -/

namespace Sys2Proof

/-- One slot of PLAN_SLOTS as received (R189): frequency index, mode code, settle periods, integrate periods. -/
structure SlotFields where
  freq : Nat
  mode : Nat
  settle : Nat
  integrate : Nat
  deriving DecidableEq, Repr

/-- One raw channel of CAL: rotation in tenths of a degree, gain in Q8.8 (R20, R189). -/
structure CalFields where
  rotation : Nat
  gain : Nat
  deriving DecidableEq, Repr

/-- One present mix entry (R20, R189). -/
structure MixFields where
  primary : Nat
  secondary : Nat
  kxx : Int
  kxy : Int
  kyx : Int
  kyy : Int
  rotation : Nat
  gain : Nat
  deriving DecidableEq, Repr

/-- The DETECT section (R20, R189). -/
structure DetectFields where
  channel : Nat
  tOpen : Nat
  tClose : Nat
  qClose : Nat
  lMax : Nat
  aMin : Nat
  gateLow : Nat
  gateHigh : Nat
  deriving DecidableEq, Repr

/-- The LANDMARK section as received (R189); auto-close-on-end is a code (R22). -/
structure LandmarkFields where
  channel : Nat
  lOpen : Nat
  lClose : Nat
  qLand : Nat
  autoClose : Nat
  tolerance : Nat
  exitPos : Nat
  deriving DecidableEq, Repr

/-- One point of the phase-to-depth curve (R20, R189). -/
structure CurvePoint where
  phase : Nat
  depth : Nat
  deriving DecidableEq, Repr

/-- The TRAVEL section as received (R189); sense and speed guard are codes (R22). -/
structure TravelFields where
  step : Nat
  scale : Nat
  sense : Nat
  startTravel : Nat
  period : Nat
  deglitch : Nat
  speedGuard : Nat
  deriving DecidableEq, Repr

/-- The STREAM section (R20, R189). -/
structure StreamFields where
  channels : List Nat
  decimation : Nat
  width : Nat
  deriving DecidableEq, Repr

/-- One move of DRIVE_QUEUE as received (R153, R189): direction code, END byte, speed, distance. -/
structure MoveFields where
  direction : Nat
  endByte : Nat
  speed : Nat
  distance : Nat
  deriving DecidableEq, Repr

/-- The two drive conditions a slot's measurement can find (R44). -/
inductive DriveFault where
  | openLead | short
  deriving DecidableEq, Repr

/-- The 29 request kinds, in code order (R188). -/
inductive RequestKind where
  | portEnable | portDisable | clearFault | portStatus
  | planFreq | planSlots | planCal | planMix | planDetect | planLandmark | planSupports | planCurve | planTravel
  | planStream | planCommit | planDiscard | planRead
  | nullChannels | openTube | closeTube | mark
  | recordList | recordFetch | recordRelease
  | driveQueue | driveAbort | driveStatus
  | linkStatus | reset
  deriving DecidableEq, Repr

/-- The commands of the part, one constructor for each row of spec/opcode_table.json. -/
inductive Instr where
  /-- POWER_ON (R18): power is applied. -/
  | powerOn
  /-- HOST_FRAME_RECEIVED (R178): a delimiter arrives at the tick `time` and ends the frame the deframer holds. -/
  | hostFrameReceived (time : Nat)
  /-- PORT_ENABLE (R5). -/
  | portEnable (tag port : Byte)
  /-- PORT_DISABLE (R6). -/
  | portDisable (tag port : Byte)
  /-- CLEAR_FAULT (R12). -/
  | clearFault (tag port : Byte)
  /-- PORT_STATUS (R17). -/
  | portStatus (tag port : Byte)
  /-- PLAN_FREQ (R21): four entries, each absent or an f_code as received. -/
  | planFreq (tag port : Byte) (entries : List (Option Nat))
  /-- PLAN_SLOTS (R21). -/
  | planSlots (tag port : Byte) (entries : List SlotFields)
  /-- PLAN_CAL (R21). -/
  | planCal (tag port : Byte) (entries : List CalFields)
  /-- PLAN_MIX (R21): four entries, each absent or its fields as received. -/
  | planMix (tag port : Byte) (entries : List (Option MixFields))
  /-- PLAN_DETECT (R21). -/
  | planDetect (tag port : Byte) (fields : DetectFields)
  /-- PLAN_LANDMARK (R21). -/
  | planLandmark (tag port : Byte) (fields : LandmarkFields)
  /-- PLAN_SUPPORTS (R21). -/
  | planSupports (tag port : Byte) (positions : List Nat)
  /-- PLAN_CURVE (R21). -/
  | planCurve (tag port : Byte) (points : List CurvePoint)
  /-- PLAN_TRAVEL (R21). -/
  | planTravel (tag port : Byte) (fields : TravelFields)
  /-- PLAN_STREAM (R21). -/
  | planStream (tag port : Byte) (fields : StreamFields)
  /-- PLAN_COMMIT (R25). -/
  | planCommit (tag port : Byte)
  /-- PLAN_DISCARD (R33). -/
  | planDiscard (tag port : Byte)
  /-- PLAN_READ (R34): the section code and the copy code as received. -/
  | planRead (tag port : Byte) (sec copy : Nat)
  /-- NULL_CHANNELS (R85). -/
  | nullChannels (tag port : Byte)
  /-- OPEN_TUBE (R134): the tube identity and P0 as received. -/
  | openTube (tag port : Byte) (row column sec p0 : Nat)
  /-- CLOSE_TUBE (R142). -/
  | closeTube (tag port : Byte)
  /-- MARK (R126). -/
  | mark (tag port : Byte)
  /-- RECORD_LIST (R146). -/
  | recordList (tag port : Byte)
  /-- RECORD_FETCH (R147): record number, section code and first index as received. -/
  | recordFetch (tag port : Byte) (number sec first : Nat)
  /-- RECORD_RELEASE (R148). -/
  | recordRelease (tag port : Byte) (number : Nat)
  /-- DRIVE_QUEUE (R153). -/
  | driveQueue (tag port : Byte) (entries : List MoveFields)
  /-- DRIVE_ABORT (R161). -/
  | driveAbort (tag port : Byte)
  /-- DRIVE_STATUS (R163). -/
  | driveStatus (tag port : Byte)
  /-- LINK_STATUS (R184). -/
  | linkStatus (tag port : Byte)
  /-- RESET (R186). -/
  | reset (tag port : Byte)
  /-- TRANSMIT_FRAME_DONE (R183): the closing delimiter of the frame being sent leaves the line. -/
  | transmitFrameDone (time : Nat)
  /-- TRACK_INPUT_CHANGE (R56): the levels of the port's two encoder tracks after the change. -/
  | trackInputChange (time : Nat) (p : PortId) (level1 level2 : Bool)
  /-- TRACK_FILTER_EXPIRY (R56): the earliest running filter of the port completes its hold. -/
  | trackFilterExpiry (p : PortId)
  /-- TIME_MODE_EXPIRY (R49). -/
  | timeModeExpiry (p : PortId)
  /-- SWITCH_END (R42). -/
  | switchEnd (p : PortId)
  /-- SETTLE_END (R42). -/
  | settleEnd (p : PortId)
  /-- INTEGRATE_END (R45): the two means in whole counts before any clamp, whether the front end clipped during the
  integrate periods (R43), and the drive conditions found, in the order found (R44). -/
  | integrateEnd (p : PortId) (x y : Int) (clipped : Bool) (found : List DriveFault)
  /-- DRIVE_MESSAGE_SENT (R151): the last byte of the oldest message waiting on the drive line leaves the part. -/
  | driveMessageSent (time : Nat) (p : PortId)
  /-- ACCEPT (R155). -/
  | accept (time : Nat) (p : PortId) (number : Byte)
  /-- REFUSE (R155), with the pusher-puller's own reason code. -/
  | refuse (time : Nat) (p : PortId) (number reason : Byte)
  /-- DONE (R156). -/
  | done (time : Nat) (p : PortId) (number : Byte)
  /-- DRIVE_MESSAGE_DAMAGED (R151, R190): the line bytes received between two delimiters. -/
  | driveMessageDamaged (time : Nat) (p : PortId) (raw : List LineByte)
  /-- ACCEPT_DEADLINE (R155). -/
  | acceptDeadline (p : PortId)
  /-- LIMIT_ACCEPT_DEADLINE (R159). -/
  | limitAcceptDeadline (p : PortId)
  /-- DONE_DEADLINE (R156). -/
  | doneDeadline (p : PortId)
  /-- HOST_LINK_BYTE_RECEIVED (R177). -/
  | hostLinkByteReceived (time : Nat) (b : LineByte)
  deriving DecidableEq, Repr

end Sys2Proof
end

