-- ==== Sys2Proof/Machine/State.lean ====
section
/-! DEFINITION. The state of the part, block by block as the state tables R1, R20, R37, R55, R74, R93, R113, R130,
R152, R166 and R175 list it, the two reasons a step could stop, and the state after power-on. Plain data throughout. -/

namespace Sys2Proof.Machine

/-! ### Port controller (R1) -/

/-- The port states (R1). -/
inductive PortMode where
  | off | idle | nulling | armed | acquiring | fault
  deriving DecidableEq, Repr

/-- The causes of PORT_EVENTs and of the last transition, in code order (R15, R188). -/
inductive Cause where
  | enable | disable | nullStart | nullDone | tubeOpen | startTravel | closeHost | closeExit | closeTubeEnd | clear
  | coilFault | missedTrigger | commit | stateEntry | powerOn | reset
  deriving DecidableEq, Repr

/-- The drive status of a sample, in code order (R44, R188). -/
inductive DriveStatus where
  | ok | openLead | short
  deriving DecidableEq, Repr

/-- The fault detail (R1, R10). -/
structure FaultDetail where
  slot : Nat
  status : DriveStatus
  declaredIn : PortMode
  record : Option Nat
  deriving DecidableEq, Repr

/-- The port controller (R1); `runs` holds one coil-fault run count for each slot index 0 to 11. -/
structure PortController where
  mode : PortMode
  previous : PortMode
  lastCause : Cause
  runs : List Nat
  fault : Option FaultDetail
  deriving DecidableEq, Repr

/-! ### Plan store (R20) -/

/-- Coil modes, in code order (R22, R42). -/
inductive CoilMode where
  | diff | abs1 | abs2
  deriving DecidableEq, Repr

/-- Encoder sense, in code order (R22, R57). -/
inductive Sense where
  | normal | inverted
  deriving DecidableEq, Repr

/-- A slot of the plan's slot list (R20). -/
structure PlanSlot where
  freq : Nat
  mode : CoilMode
  settle : Nat
  integrate : Nat
  deriving DecidableEq, Repr

/-- The LANDMARK section as stored (R20). -/
structure LandmarkPlan where
  channel : Nat
  lOpen : Nat
  lClose : Nat
  qLand : Nat
  autoClose : Bool
  tolerance : Nat
  exitPos : Nat
  deriving DecidableEq, Repr

/-- The TRAVEL section as stored (R20). -/
structure TravelPlan where
  step : Nat
  scale : Nat
  sense : Sense
  startTravel : Nat
  period : Nat
  deglitch : Nat
  speedGuard : Bool
  deriving DecidableEq, Repr

/-- A plan: the ten sections (R20). -/
structure Plan where
  freq : List (Option Nat)
  slots : List PlanSlot
  cal : List CalFields
  mix : List (Option MixFields)
  detect : DetectFields
  landmark : LandmarkPlan
  supports : List Nat
  curve : List CurvePoint
  travel : TravelPlan
  stream : StreamFields
  deriving DecidableEq, Repr

/-- The plan store (R20). -/
structure PlanStore where
  working : Plan
  staged : Plan
  pending : Bool
  generation : BitVec 16
  deriving DecidableEq, Repr

/-! ### Scan sequencer (R37) -/

/-- Scan kinds, in code order (R37, R41). -/
inductive ScanKind where
  | time | distance
  deriving DecidableEq, Repr

/-- The phases of a slot (R42). -/
inductive ScanPhase where
  | switch | settle | integrate
  deriving DecidableEq, Repr

/-- The scan in flight (R37). `phaseEnd` is the model's own: the tick at which the phase in progress ends (R42). -/
structure Scan where
  kind : ScanKind
  startPos : Int
  slot : Nat
  phase : ScanPhase
  phaseEnd : Nat
  deriving DecidableEq, Repr

/-- A slot of the slot table in force (R37, R40). -/
structure SlotInForce where
  period : Nat
  mode : CoilMode
  settle : Nat
  integrate : Nat
  slotTime : Nat
  deriving DecidableEq, Repr

/-- The scan sequencer (R37). The timer holds its expiry tick, the held start the trigger position of grid point 0. -/
structure Sequencer where
  periods : List (Option Nat)
  slots : List SlotInForce
  duration : Nat
  scan : Option Scan
  timer : Option Nat
  owed : Bool
  held : Option Int
  closeHold : Bool
  seqNo : BitVec 32
  deriving DecidableEq, Repr

/-! ### Travel unit (R55) -/

/-- The two levels of an encoder's tracks. -/
structure Levels where
  one : Bool
  two : Bool
  deriving DecidableEq, Repr

/-- One track: its input pin, its filter's internal level, and the tick since which the input has stood at a level
other than the internal one while the filter counter runs (R55, R56). -/
structure TrackFilter where
  input : Bool
  level : Bool
  since : Option Nat
  deriving DecidableEq, Repr

/-- The trigger grid: its origin in micrometres and the index of the next point to fire (R55). -/
structure Grid where
  origin : Int
  next : Nat
  deriving DecidableEq, Repr

/-- The missed-trigger run (R55). -/
structure MissedRun where
  first : Int
  last : Int
  count : Nat
  deriving DecidableEq, Repr

/-- The last started point: its index and its firing tick (R55). -/
structure StartedPoint where
  index : Nat
  firedAt : Nat
  deriving DecidableEq, Repr

/-- The last completed DISTANCE scan: trigger position and corrected position (R55, R60). -/
structure LastScan where
  trigger : Int
  corrected : Int
  deriving DecidableEq, Repr

/-- The travel unit (R55). -/
structure TravelUnit where
  track1 : TrackFilter
  track2 : TrackFilter
  quad : Levels
  raw : Int
  startAcc : Nat
  pushAcc : Nat
  reversalMark : Bool
  illegal : Nat
  grid : Option Grid
  low : Option Int
  run : Option MissedRun
  lastStarted : Option StartedPoint
  lastScan : Option LastScan
  limitSpeed : Nat
  guardLimit : Nat
  deriving DecidableEq, Repr

/-! ### Channel processor (R74) -/

/-- An entry of the null table (R74, R84). -/
structure NullEntry where
  x0 : Int
  y0 : Int
  balanced : Bool
  deriving DecidableEq, Repr

/-- A raw sample (R43). -/
structure Sample where
  slot : Nat
  x : Int
  y : Int
  saturated : Bool
  status : DriveStatus
  deriving DecidableEq, Repr

/-- A value of a channel with its saturated flag (R76), or a sum of values with its saturation mark (R86, R167). -/
structure ChannelValue where
  x : Int
  y : Int
  saturated : Bool
  deriving DecidableEq, Repr

/-- The null accumulation (R74, R86): one sum for each raw channel of the slot table in force. -/
structure NullAccumulation where
  count : Nat
  sums : List ChannelValue
  deriving DecidableEq, Repr

/-- The channel processor (R74). -/
structure ChannelProcessor where
  nulls : List NullEntry
  held : List Sample
  accum : Option NullAccumulation
  deriving DecidableEq, Repr

/-! ### Indication detector (R93) -/

/-- The detector states (R93). -/
inductive DetectorState where
  | idle | opened | blocked
  deriving DecidableEq, Repr

/-- A point of the detect channel: values, scan sequence number, unclamped corrected position (R93). -/
structure Point where
  x : Int
  y : Int
  seqNo : BitVec 32
  pos : Int
  deriving DecidableEq, Repr

/-- The indication detector (R93). -/
structure Detector where
  state : DetectorState
  high : Option Point
  low : Option Point
  length : Nat
  closeRun : Nat
  saturated : Bool
  gapped : Bool
  miss : Bool
  deriving DecidableEq, Repr

/-! ### Landmark unit (R113) -/

/-- The landmark window's states (R113). -/
inductive WindowState where
  | idle | opened
  deriving DecidableEq, Repr

/-- The peak of a landmark window (R113). -/
structure Peak where
  absX : Nat
  seqNo : BitVec 32
  pos : Int
  deriving DecidableEq, Repr

/-- The landmark unit (R113). -/
structure LandmarkUnit where
  window : WindowState
  length : Nat
  quiet : Nat
  peak : Option Peak
  satRun : Nat
  satLongest : Nat
  pointer : Option Nat
  correction : Int
  matched : Nat
  deriving DecidableEq, Repr

/-! ### Drive channel (R152) -/

/-- The drive channel states, in code order (R152, R188). -/
inductive DriveState where
  | released | awaitAccept | moving | holding | awaitHalt | lost
  deriving DecidableEq, Repr

/-- Directions of a move, in code order (R151, R188). -/
inductive Direction where
  | insert | withdraw
  deriving DecidableEq, Repr

/-- An entry of the drive queue (R152). -/
structure Move where
  direction : Direction
  speed : Nat
  distance : Nat
  stop : Bool
  deriving DecidableEq, Repr

/-- The current entry with the number of its MOVE (R152). -/
structure CurrentMove where
  move : Move
  number : BitVec 8
  deriving DecidableEq, Repr

/-- The kinds of an awaited accept, in code order (R152, R188). -/
inductive AwaitedKind where
  | move | release | halt
  deriving DecidableEq, Repr

/-- The awaited accept (R152); its deadline starts when the message has been sent (R151). -/
structure AwaitedAccept where
  kind : AwaitedKind
  number : BitVec 8
  deadline : Option Nat
  deriving DecidableEq, Repr

/-- The awaited limit (R152). -/
structure AwaitedLimit where
  number : BitVec 8
  speed : Nat
  deadline : Option Nat
  deriving DecidableEq, Repr

/-- The messages the part sends on a drive line, each with its number (R151, R190). -/
inductive DriveMessage where
  | move (number : BitVec 8) (direction : Direction) (speed distance : Nat)
  | halt (number : BitVec 8)
  | release (number : BitVec 8)
  | limit (number : BitVec 8) (speed : Nat)
  deriving DecidableEq, Repr

/-- The drive channel (R152). `outgoing` holds the messages made and not yet sent whole, oldest first (R151). -/
structure DriveChannel where
  state : DriveState
  queue : List Move
  current : Option CurrentMove
  awaited : Option AwaitedAccept
  limit : Option AwaitedLimit
  doneDeadline : Option Nat
  deferred : Option Bool
  lastLimit : Option Nat
  number : BitVec 8
  outgoing : List DriveMessage
  deriving DecidableEq, Repr

/-! ### Stream unit (R166) -/

/-- A stream frame (R168). -/
structure StreamFrame where
  port : PortId
  generation : BitVec 16
  width : Nat
  seqNo : BitVec 32
  kind : ScanKind
  pos : Nat
  lost : Nat
  gap : Bool
  values : List ChannelValue
  deriving DecidableEq, Repr

/-- The decimation group in progress (R166). -/
structure StreamGroup where
  count : Nat
  sums : List ChannelValue
  seqNo : BitVec 32
  kind : ScanKind
  pos : Int
  deriving DecidableEq, Repr

/-- The stream gap being built (R166, R171). -/
structure StreamGap where
  start : Nat
  last : Nat
  count : Nat
  deriving DecidableEq, Repr

/-- The stream unit (R166). -/
structure StreamUnit where
  ring : List StreamFrame
  group : Option StreamGroup
  miss : Bool
  lost : Nat
  lastPos : Nat
  gap : Option StreamGap
  deriving DecidableEq, Repr

/-! ### A port and the four ports -/

/-- The nine kinds of per-port block (00_scope.md). -/
structure PortBlocks where
  ctl : PortController
  plan : PlanStore
  seq : Sequencer
  travel : TravelUnit
  chan : ChannelProcessor
  det : Detector
  land : LandmarkUnit
  drive : DriveChannel
  stream : StreamUnit
  deriving DecidableEq, Repr

/-- The four ports. -/
structure Ports where
  a : PortBlocks
  b : PortBlocks
  c : PortBlocks
  d : PortBlocks
  deriving DecidableEq, Repr

/-! ### Record store (R130) -/

/-- Close reasons, in code order (R136, R188). -/
inductive CloseReason where
  | host | exit | tubeEnd | fault | disabled
  deriving DecidableEq, Repr

/-- The nine record flags (R137). -/
structure RecordFlags where
  unbalanced : Bool
  encoderSuspect : Bool
  overspeed : Bool
  reversal : Bool
  windowTruncated : Bool
  landmarksTruncated : Bool
  gapsMerged : Bool
  endSeen : Bool
  planPendingInTube : Bool
  deriving DecidableEq, Repr

/-- The eight counters of a record, in table order (R138). -/
structure RecordCounters where
  scansTaken : Nat
  missed : Nat
  reversals : Nat
  maxSpeed : Nat
  accepted : Nat
  overflow : Nat
  small : Nat
  gated : Nat
  deriving DecidableEq, Repr

/-- Landmark kinds, in code order (R124, R188). -/
inductive LandmarkKind where
  | support | extra | missing | tubeEnd | operator
  deriving DecidableEq, Repr

/-- A landmark entry (R124). -/
structure LandmarkEntry where
  kind : LandmarkKind
  mapIndex : Option Nat
  measured : Option Nat
  nominal : Option Nat
  step : Option Int
  peak : Option Nat
  long : Bool
  truncated : Bool
  deriving DecidableEq, Repr

/-- An indication entry (R108). -/
structure Indication where
  detIndex : Nat
  pos : Nat
  reference : Option Nat
  offset : Int
  amplitude : Nat
  phase : Nat
  depth : Option Nat
  length : Nat
  long : Bool
  truncated : Bool
  saturated : Bool
  gapped : Bool
  deriving DecidableEq, Repr

/-- Gap kinds, in code order (R141, R188). -/
inductive GapKind where
  | overspeed | stream | mixed
  deriving DecidableEq, Repr

/-- A gap entry (R141). -/
structure Gap where
  kind : GapKind
  start : Nat
  stop : Nat
  count : Nat
  deriving DecidableEq, Repr

/-- A tube record: the header of R136 and the three lists. -/
structure Record where
  number : Nat
  port : PortId
  row : Nat
  column : Nat
  sec : Nat
  p0 : Nat
  generation : BitVec 16
  gridOrigin : Option Nat
  finalPos : Option Nat
  finalCorrection : Option Int
  closeReason : Option CloseReason
  flags : RecordFlags
  counters : RecordCounters
  matched : Option Nat
  notReached : Option Nat
  landmarks : List LandmarkEntry
  indications : List Indication
  gaps : List Gap
  deriving DecidableEq, Repr

/-- A record slot: FREE, OPEN or READY, the last two holding one record (R130). -/
inductive RecordSlot where
  | free
  | opened (r : Record)
  | ready (r : Record)
  deriving DecidableEq, Repr

/-- The record store (R130); the ready order lists record numbers, oldest first. -/
structure RecordStore where
  slots : List RecordSlot
  ready : List Nat
  counter : Nat
  deriving DecidableEq, Repr

/-! ### Replies, reports and the link controller (R175) -/

/-- Refusal codes, in code order from 1 (R181, R188). -/
inductive RefusalCode where
  | unknownRequest | badLength | badPort | busy | badState | planPending | planInvalid | noRecordSlot | noSuchRecord
  | recordOpen | queueFull | driveLost | aborted | resetAborted
  deriving DecidableEq, Repr

/-- Plan sections, in code order (R188). -/
inductive PlanSection where
  | freq | slots | cal | mix | detect | landmark | supports | curve | travel | stream
  deriving DecidableEq, Repr

/-- Fault kinds of a commit that fails validation, in code order (R26, R188). -/
inductive PlanFaultKind where
  | absentFrequency | badMixInput | sameMixInput | noSuchChannel | gateOrder | notAscending | onePoint | duplicate
  deriving DecidableEq, Repr

/-- What PLAN_INVALID carries (R27). -/
structure PlanFault where
  sec : PlanSection
  item : Nat
  kind : PlanFaultKind
  deriving DecidableEq, Repr

/-- An item of a clamp report: field number, item index, value stored (R24, R189). -/
structure ClampItem where
  field : Nat
  item : Nat
  value : Nat
  deriving DecidableEq, Repr

/-- Commit outcomes, in code order (R29, R188). -/
inductive CommitOutcome where
  | promoted | pending
  deriving DecidableEq, Repr

/-- The content of one plan section, as PLAN_READ returns it (R34); FREQ carries the actual frequencies too. -/
inductive SectionContent where
  | freq (entries : List (Option Nat)) (actual : List (Option Nat))
  | slots (entries : List PlanSlot)
  | cal (entries : List CalFields)
  | mix (entries : List (Option MixFields))
  | detect (fields : DetectFields)
  | landmark (fields : LandmarkPlan)
  | supports (positions : List Nat)
  | curve (points : List CurvePoint)
  | travel (fields : TravelPlan)
  | stream (fields : StreamFields)
  deriving DecidableEq, Repr

/-- What PORT_STATUS carries (R17). -/
structure PortStatusView where
  mode : PortMode
  previous : PortMode
  lastCause : Cause
  fault : Option FaultDetail
  runs : List Nat
  closePending : Bool
  nullProgress : Option Nat
  openRecord : Option Nat
  seqNo : BitVec 32
  rawTenths : Nat
  corrected : Option Nat
  generation : BitVec 16
  pending : Bool
  drive : DriveState
  deriving DecidableEq, Repr

/-- What DRIVE_STATUS carries (R163). -/
structure DriveStatusView where
  state : DriveState
  queueLength : Nat
  current : Option Move
  awaited : Option AwaitedKind
  limitAwaited : Bool
  lastLimit : Option Nat
  deriving DecidableEq, Repr

/-- The four link counters (R175). -/
structure LinkCounters where
  crcDiscards : Nat
  framingDiscards : Nat
  reportsLost : Nat
  refusalsNotSent : Nat
  deriving DecidableEq, Repr

/-- What LINK_STATUS carries (R184). -/
structure LinkStatusView where
  counters : LinkCounters
  held : Nat
  refusals : Nat
  reports : Nat
  ringA : Nat
  ringB : Nat
  ringC : Nat
  ringD : Nat
  deriving DecidableEq, Repr

/-- What RECORD_FETCH returns after its leading items: the header, or entries each with its index (R147). -/
inductive FetchContent where
  | header (r : Record)
  | landmarks (entries : List (Nat × LandmarkEntry))
  | indications (entries : List (Nat × Indication))
  | gaps (entries : List (Nat × Gap))
  deriving DecidableEq, Repr

/-- The results of a DONE reply, as the request's rule lists them. -/
inductive Results where
  /-- PORT_ENABLE: the state entered (R5). -/
  | entered (mode : PortMode)
  /-- PORT_DISABLE: the state the port left (R6). -/
  | left (mode : PortMode)
  /-- CLEAR_FAULT and RESET: nothing (R12, R186). -/
  | nothing
  /-- PORT_STATUS (R17). -/
  | portStatus (view : PortStatusView)
  /-- A section request: the clamp report (R24). -/
  | clamps (items : List ClampItem)
  /-- PLAN_COMMIT (R29). -/
  | commit (outcome : CommitOutcome) (generation : BitVec 16) (items : List ClampItem)
  /-- PLAN_DISCARD: the generation in force (R33). -/
  | discarded (generation : BitVec 16)
  /-- PLAN_READ (R34). -/
  | planRead (content : SectionContent) (generation : BitVec 16) (pending : Bool)
  /-- NULL_CHANNELS (R88). -/
  | nulled (entries : List NullEntry) (saturated : List Nat)
  /-- OPEN_TUBE (R134). -/
  | opened (number row column sec p0 : Nat) (unbalanced : Bool)
  /-- CLOSE_TUBE (R144). -/
  | closed (number : Nat) (reason : CloseReason)
  /-- MARK: the measured position and the index, absent when not listed (R126). -/
  | marked (pos : Nat) (index : Option Nat)
  /-- RECORD_LIST: the READY records, then the OPEN ones (R146). -/
  | recordList (ready opened : List (Nat × PortId))
  /-- RECORD_FETCH (R147). -/
  | fetched (number sec first : Nat) (last : Bool) (content : FetchContent)
  /-- RECORD_RELEASE (R148). -/
  | released (number : Nat)
  /-- DRIVE_QUEUE: the queue length after the append, the clamp report (R153). -/
  | queued (length : Nat) (items : List ClampItem)
  /-- DRIVE_ABORT: the channel state after the abort, the entries discarded (R161). -/
  | aborted (state : DriveState) (discarded : Nat)
  /-- DRIVE_STATUS (R163). -/
  | driveStatus (view : DriveStatusView)
  /-- LINK_STATUS (R184). -/
  | linkStatus (view : LinkStatusView)
  deriving DecidableEq, Repr

/-- The body of a reply: DONE with its results, or REFUSED with its code (R181) and, for PLAN_INVALID, the fault. -/
inductive ReplyBody where
  | done (r : Results)
  | refused (code : RefusalCode) (detail : Option PlanFault)
  deriving DecidableEq, Repr

/-- A reply (R181). `place` is the place of the request buffer it answers, absent for an immediate refusal (R179). -/
structure Reply where
  place : Option Nat
  kind : Byte
  tag : Byte
  port : Byte
  body : ReplyBody
  deriving DecidableEq, Repr

/-- PORT_EVENT kinds, in code order (R15, R188). -/
inductive PortEventKind where
  | state | coilFault | overspeed | planPromoted
  deriving DecidableEq, Repr

/-- A PORT_EVENT report (R15); the last five fields are its detail. -/
structure PortEvent where
  port : PortId
  kind : PortEventKind
  state : PortMode
  previous : PortMode
  cause : Cause
  record : Option Nat
  generation : Option (BitVec 16)
  slot : Option Nat
  status : Option DriveStatus
  declaredIn : Option PortMode
  deriving DecidableEq, Repr

/-- Abort sources, in code order (R160, R188). -/
inductive AbortSource where
  | host | timeout | stall | refused | portFault | portOff | reset
  deriving DecidableEq, Repr

/-- DRIVE_EVENT kinds with their details (R164). -/
inductive DriveEventKind where
  | drained
  | aborted (source : AbortSource) (reason : Option Byte)
  | lost
  | limitSent (speed : Nat)
  deriving DecidableEq, Repr

/-- A DRIVE_EVENT of a port (R164): the kind, the channel state after the event, the queue length. -/
structure DriveEvent where
  kind : DriveEventKind
  state : DriveState
  queueLength : Nat
  deriving DecidableEq, Repr

/-- The reports (R182). -/
inductive Report where
  | portEvent (e : PortEvent)
  | recordReady (port : PortId) (number : Nat) (reason : CloseReason)
  | driveEvent (port : PortId) (e : DriveEvent)
  deriving DecidableEq, Repr

/-- A held request (R175). `place`, its place in the buffer, is the model's own: it pairs a reply with its request. -/
structure HeldRequest where
  place : Nat
  kind : RequestKind
  tag : Byte
  port : Byte
  answered : Bool
  deriving DecidableEq, Repr

/-- The deframer states (R175, R177). -/
inductive DeframerState where
  | hunt | inFrame | escape
  deriving DecidableEq, Repr

/-- The deframer (R175). -/
structure Deframer where
  state : DeframerState
  content : List Byte
  deriving DecidableEq, Repr

/-- A frame the transmitter sends (R183). -/
inductive TxFrame where
  | reply (r : Reply)
  | report (r : Report)
  | stream (f : StreamFrame)
  deriving DecidableEq, Repr

/-- The link controller (R175); the transmitter is IDLE when `sending` is absent. -/
structure LinkController where
  deframer : Deframer
  buffer : List HeldRequest
  replies : List Reply
  reports : List Report
  sending : Option TxFrame
  lastServed : PortId
  counters : LinkCounters
  deriving DecidableEq, Repr

/-! ### The whole part -/

/-- The state of the part. `now` is the reference clock in ticks of 25 ns and `pending` the queue of commands that
wait, first in, first out: both are the model's own. -/
structure State where
  ports : Ports
  store : RecordStore
  link : LinkController
  now : Nat
  pending : List Instr
  deriving DecidableEq, Repr

/-- Why a step stops with a fault. The manual gives the part no such stop (a coil fault is the port state FAULT, R10),
so no meaning raises one and the type has no constructor. -/
inductive Fault where
  deriving DecidableEq, Repr

/-- Why a step is refused. -/
inductive Refusal where
  /-- Raised by an arm of exec for a row of the opcode table that has no meaning. Safe: the step stops. No arm of this
  model raises it. -/
  | notModelled (mnemonic : String)
  deriving DecidableEq, Repr

/-! ### The state after power-on (R18, R36, R149, R152, R166, R185) -/

/-- The default plan (R36). -/
def Plan.default : Plan where
  freq := [some 1000, none, none, none]
  slots := [{ freq := 0, mode := .diff, settle := 2, integrate := 8 }]
  cal := List.replicate 12 { rotation := 0, gain := 256 }
  mix := [none, none, none, none]
  detect := { channel := 0, tOpen := 2000, tClose := 1000, qClose := 4, lMax := 256, aMin := 500, gateLow := 0,
              gateHigh := 300000 }
  landmark := { channel := 0, lOpen := 8000, lClose := 4000, qLand := 4, autoClose := false, tolerance := 50,
                exitPos := 0 }
  supports := []
  curve := []
  travel := { step := 1000, scale := 100, sense := .normal, startTravel := 20, period := 1000, deglitch := 4,
              speedGuard := false }
  stream := { channels := [], decimation := 1, width := 16 }

/-- The port controller at power-on (R1). -/
def PortController.powerOn : PortController :=
  { mode := .off, previous := .off, lastCause := .powerOn, runs := List.replicate 12 0, fault := none }

/-- The sequencer at power-on: the tables derived from the default plan (R37). -/
def Sequencer.powerOn : Sequencer :=
  { periods := [some 400, none, none, none]
    slots := [{ period := 400, mode := .diff, settle := 2, integrate := 8, slotTime := 4080 }]
    duration := 4080, scan := none, timer := none, owed := false, held := none, closeHold := false, seqNo := 0 }

/-- A track with a given input level, its filter at that level and its counter stopped (R55). -/
def TrackFilter.atInput (input : Bool) : TrackFilter := { input := input, level := input, since := none }

/-- The travel unit at power-on (R55), with the two speeds of the default plan (R70). DESIGN CHOICE (log entry 5): the
inputs and the quadrature state stand low. Unsafe: the manual gives no level of the pins. -/
def TravelUnit.powerOn : TravelUnit :=
  { track1 := .atInput false, track2 := .atInput false, quad := { one := false, two := false }, raw := 0,
    startAcc := 0, pushAcc := 0, reversalMark := false, illegal := 0, grid := none, low := none, run := none,
    lastStarted := none, lastScan := none, limitSpeed := 9803, guardLimit := 8822 }

/-- The channel processor at power-on (R74, R84). -/
def ChannelProcessor.powerOn : ChannelProcessor :=
  { nulls := List.replicate 12 { x0 := 0, y0 := 0, balanced := false }, held := [], accum := none }

/-- The detector's cleared condition (R93). -/
def Detector.clear : Detector :=
  { state := .idle, high := none, low := none, length := 0, closeRun := 0, saturated := false, gapped := false,
    miss := false }

/-- The landmark unit's cleared condition (R113). -/
def LandmarkUnit.clear : LandmarkUnit :=
  { window := .idle, length := 0, quiet := 0, peak := none, satRun := 0, satLongest := 0, pointer := none,
    correction := 0, matched := 0 }

/-- The drive channel at power-on (R152). -/
def DriveChannel.powerOn : DriveChannel :=
  { state := .released, queue := [], current := none, awaited := none, limit := none, doneDeadline := none,
    deferred := none, lastLimit := none, number := 0, outgoing := [] }

/-- The stream unit's cleared condition (R166). -/
def StreamUnit.clear : StreamUnit :=
  { ring := [], group := none, miss := false, lost := 0, lastPos := 0, gap := none }

/-- A port at power-on (R18). -/
def PortBlocks.powerOn : PortBlocks :=
  { ctl := .powerOn, plan := { working := .default, staged := .default, pending := false, generation := 0 },
    seq := .powerOn, travel := .powerOn, chan := .powerOn, det := .clear, land := .clear, drive := .powerOn,
    stream := .clear }

/-- The record store with every slot FREE and the counter at 1 (R149). -/
def RecordStore.empty : RecordStore :=
  { slots := List.replicate 12 .free, ready := [], counter := 1 }

/-- The link controller at power-on (R175, R185). -/
def LinkController.powerOn : LinkController :=
  { deframer := { state := .hunt, content := [] }, buffer := [], replies := [], reports := [], sending := none,
    lastServed := .d,
    counters := { crcDiscards := 0, framingDiscards := 0, reportsLost := 0, refusalsNotSent := 0 } }

/-- The part right after power-on (R18, R185). DESIGN CHOICE (log entry 1): the clock starts at 0. Safe: only
differences of times have an effect. -/
def State.reset : State :=
  { ports := { a := .powerOn, b := .powerOn, c := .powerOn, d := .powerOn }
    store := .empty
    link := .powerOn
    now := 0
    pending := [] }

end Sys2Proof.Machine
end

