-- ==== Sys2Proof/Machine/Arith.lean ====
section
/-! DEFINITION. The arithmetic of the part: clamps, positions, periods, the sine table, rotation and gain, the
integer square root, the phase and the depth. Every definition is structural and evaluates on numerals. -/

namespace Sys2Proof.Machine

/-! ### Clamps and positions -/

/-- A sample value brought to -32,768 to 32,767 (R43, R80). -/
def clampSample (v : Int) : Int := max Config.sampleMin (min Config.sampleMax v)

/-- A position as placed in a record or a message: 0 to 300,000 (00_scope.md, R60). -/
def clampPos (p : Int) : Nat := min Config.positionMax p.toNat

/-- Raw micrometres to tenths of a millimetre by floor division (00_scope.md, R60). -/
def toTenths (um : Int) : Int := um / 100

/-- A 32-bit counter that stops at its top (R138, R166, R175). -/
def satInc (n : Nat) : Nat := if n < Config.counterMax then n + 1 else n

/-- The least integer at or above n / d, for d > 0 (R155). -/
def ceilDiv (n d : Nat) : Nat := (n + d - 1) / d

/-! ### Excitation (R38 to R40) -/

/-- The excitation period of an f_code in ticks: 400,000 / f_code to the nearest, an exact half up (R38). -/
def excitationPeriod (fCode : Nat) : Nat := (800000 + fCode) / (2 * fCode)

/-- The actual frequency of a period in hertz, rounded down (R39). -/
def actualFrequency (period : Nat) : Nat := 40000000 / period

/-! ### The sine table (R78)

DEDUCED (log entry 7): sines and cosines are taken from their power series in fixed point with 64 fractional bits. The
rounded entries equal R78's for all 3,600 angles, and the comparisons of `octantPhase` equal the exact ones for every
vector a window can have. Unsafe only where that check is wrong. -/

/-- One, with 64 fractional bits. -/
def fixOne : Nat := 18446744073709551616

/-- Pi with 64 fractional bits, to the nearest. -/
def fixPi : Nat := 57952155664616982739

/-- The alternating power series from a term of degree `n`, with `x2` the square of the angle. -/
def fixSeries (x2 : Nat) : Nat → Nat → Nat → Nat
  | 0, _, _ => 0
  | fuel + 1, n, term => term - fixSeries x2 fuel (n + 2) (term * x2 / fixOne / ((n + 1) * (n + 2)))

/-- An angle of `h` twentieths of a degree in radians, with 64 fractional bits. -/
def fixAngle (h : Nat) : Nat := h * fixPi / 3600

/-- The sine of `h` twentieths of a degree, h at most 900 (45 degrees). -/
def fixSin (h : Nat) : Nat := fixSeries (fixAngle h * fixAngle h / fixOne) 14 1 (fixAngle h)

/-- The cosine of `h` twentieths of a degree, h at most 900 (45 degrees). -/
def fixCos (h : Nat) : Nat := fixSeries (fixAngle h * fixAngle h / fixOne) 14 0 fixOne

/-- 16,384 times a fixed-point value, to the nearest integer (R78). -/
def fixEntry (v : Nat) : Nat := (16384 * v + fixOne / 2) / fixOne

/-- The sine entry of an angle of 0 to 900 tenths. -/
def sineQuadrant (a : Nat) : Nat := if a ≤ 450 then fixEntry (fixSin (2 * a)) else fixEntry (fixCos (2 * (900 - a)))

/-- The sine entry of an angle of 0 to 3599 tenths (R78). -/
def sineEntry (a : Nat) : Int :=
  if a < 900 then sineQuadrant a
  else if a < 1800 then sineQuadrant (1800 - a)
  else if a < 2700 then -(sineQuadrant (a - 1800) : Int)
  else -(sineQuadrant (3600 - a) : Int)

/-- The cosine entry of an angle of 0 to 3599 tenths (R78). -/
def cosineEntry (a : Nat) : Int := sineEntry ((a + 900) % 3600)

/-! ### Rotation and gain (R79, R80) -/

/-- The X of the rotation step (R79). -/
def rotateX (a : Nat) (x y : Int) : Int := (x * cosineEntry a - y * sineEntry a + 8192) / 16384

/-- The Y of the rotation step (R79). -/
def rotateY (a : Nat) (x y : Int) : Int := (x * sineEntry a + y * cosineEntry a + 8192) / 16384

/-- The gain step (R80). -/
def applyGain (g : Nat) (v : Int) : Int := (v * g + 128) / 256

/-- Rotation, gain and clamp of a pair, with the flag whether the clamp changed a value (R79, R80, R82). -/
def shape (rotation gain : Nat) (x y : Int) : ChannelValue :=
  let x3 := applyGain gain (rotateX rotation x y)
  let y3 := applyGain gain (rotateY rotation x y)
  { x := clampSample x3, y := clampSample y3, saturated := decide (clampSample x3 ≠ x3) || decide (clampSample y3 ≠ y3) }

/-! ### Amplitude, phase, depth (R103 to R105) -/

/-- The integer square root by its bits, from bit `k - 1` down. -/
def isqrtBits (n : Nat) : Nat → Nat → Nat
  | 0, r => r
  | k + 1, r => if (r + 2 ^ k) * (r + 2 ^ k) ≤ n then isqrtBits n k (r + 2 ^ k) else isqrtBits n k r

/-- The largest integer whose square does not exceed `n`, for n below 2^48 (R103). -/
def isqrt (n : Nat) : Nat := isqrtBits n 24 0

/-- The amplitude of a vector (R103). -/
def amplitudeOf (dx dy : Int) : Nat := isqrt (dx * dx + dy * dy).toNat

/-- Whether the angle of (u, v) in the first octant lies above `k` tenths less half a tenth. -/
def aboveHalf (u v k : Nat) : Bool := decide (u * fixSin (2 * k - 1) < v * fixCos (2 * k - 1))

/-- The largest k up to 450 with `aboveHalf`, by its bits from bit `b - 1` down. -/
def octantBits (u v : Nat) : Nat → Nat → Nat
  | 0, k => k
  | b + 1, k => if k + 2 ^ b ≤ 450 && aboveHalf u v (k + 2 ^ b) then octantBits u v b (k + 2 ^ b) else octantBits u v b k

/-- The angle of (u, v), v at most u, to the nearest tenth of a degree. -/
def octantPhase (u v : Nat) : Nat := octantBits u v 9 0

/-- The angle of (u, v) in the first quadrant to the nearest tenth, 0 to 900. -/
def quadrantPhase (u v : Nat) : Nat := if v ≤ u then octantPhase u v else 900 - octantPhase v u

/-- The phase of a vector in tenths of a degree, 0 to 3599; 0 for the zero vector (R104). -/
def phaseOf (dx dy : Int) : Nat :=
  let q := quadrantPhase dx.natAbs dy.natAbs
  if dx = 0 ∧ dy = 0 then 0
  else if 0 ≤ dy then (if 0 ≤ dx then q else 1800 - q)
  else if dx < 0 then 1800 + q else (3600 - q) % 3600

/-- The depth at phase `p` from the point before it on: interpolated to the nearest, an exact half toward the larger
value, and the last depth beyond the last point (R105). -/
def depthAfter (p : Nat) (before : CurvePoint) : List CurvePoint → Nat
  | [] => before.depth
  | next :: rest =>
    if p ≤ next.phase then
      let den : Int := (next.phase : Int) - before.phase
      let num : Int := before.depth * den + ((next.depth : Int) - before.depth) * ((p : Int) - before.phase)
      ((2 * num + den) / (2 * den)).toNat
    else depthAfter p next rest

/-- The depth for a phase under a curve; absent under an empty curve (R105). -/
def depthOf (curve : List CurvePoint) (p : Nat) : Option Nat :=
  match curve with
  | [] => none
  | first :: rest => some (if p ≤ first.phase then first.depth else depthAfter p first rest)

end Sys2Proof.Machine
end

