-- ==== Sys2Proof/Decode.lean ====
section
/-! DEFINITION. From bytes to commands and back: the field widths and kind codes of R188, the frame of R176 with its
CRC, the request payloads of R189 read and written, and the drive-line framing of R190. The opcode table gives none of
its rows any bits, so decodeTableWord reads none. -/

namespace Sys2Proof

/-- The command a word spells by the table's bits: no row of spec/opcode_table.json gives bits. -/
def decodeTableWord (nbits w : Nat) : Option Instr :=
  match nbits, w with
  | _, _ => none

namespace Wire

/-! ### Fields: most significant byte first, signed fields in two's complement (R188) -/

/-- The byte at place `k`. -/
def u8 (bs : List Byte) (k : Nat) : Nat := (bs.getD k 0).toNat

/-- The two-byte field at place `k`. -/
def u16 (bs : List Byte) (k : Nat) : Nat := u8 bs k * 256 + u8 bs (k + 1)

/-- The four-byte field at place `k`. -/
def u32 (bs : List Byte) (k : Nat) : Nat := u16 bs k * 65536 + u16 bs (k + 2)

/-- The signed two-byte field at place `k`. -/
def s16 (bs : List Byte) (k : Nat) : Int := if u16 bs k < 32768 then u16 bs k else (u16 bs k : Int) - 65536

/-- A one-byte field. -/
def w8 (n : Nat) : List Byte := [BitVec.ofNat 8 n]

/-- A two-byte field. -/
def w16 (n : Nat) : List Byte := [BitVec.ofNat 8 (n / 256), BitVec.ofNat 8 n]

/-- A four-byte field. -/
def w32 (n : Nat) : List Byte := w16 (n / 65536) ++ w16 n

/-- A signed two-byte field. -/
def ws16 (v : Int) : List Byte := w16 (v % 65536).toNat

/-- A signed four-byte field. -/
def ws32 (v : Int) : List Byte := w32 (v % 4294967296).toNat

/-- A set-or-clear item (R188). -/
def wBool (b : Bool) : List Byte := w8 (if b then 1 else 0)

/-- An optional item of `width` bytes: its presence byte, then the item, or zeros where it is absent (R188). -/
def wOption {α : Type} (width : Nat) (w : α → List Byte) : Option α → List Byte
  | none => w8 0 ++ List.replicate width 0
  | some v => w8 1 ++ w v

/-- Exactly `n` entries of `size` bytes each, read one after the other. -/
def entries {α : Type} (size : Nat) (read : List Byte → α) : Nat → List Byte → Option (List α)
  | 0, bs => if bs.isEmpty then some [] else none
  | n + 1, bs => if bs.length < size then none else (entries size read n (bs.drop size)).map (read (bs.take size) :: ·)

/-- A count byte in a range, then that many entries (R188, R189). -/
def counted {α : Type} (lo hi size : Nat) (read : List Byte → α) : List Byte → Option (List α)
  | [] => none
  | n :: bs => if lo ≤ n.toNat ∧ n.toNat ≤ hi then entries size read n.toNat bs else none

/-! ### The frame (R176) -/

/-- One bit of the CRC register: shift left, and add the polynomial when the bit shifted out is 1. -/
def crcBit (crc : BitVec 16) : BitVec 16 := if crc.msb then (crc <<< 1) ^^^ 0x1021#16 else crc <<< 1

/-- One byte taken into the CRC register, most significant bit first. -/
def crcByte (crc : BitVec 16) (b : Byte) : BitVec 16 :=
  let start := crc ^^^ (b.setWidth 16 <<< 8)
  crcBit (crcBit (crcBit (crcBit (crcBit (crcBit (crcBit (crcBit start)))))))

/-- The CRC of R176: x^16 + x^12 + x^5 + 1, register starting at 0xFFFF, not inverted. -/
def crc16 (bs : List Byte) : BitVec 16 := bs.foldl crcByte 0xFFFF#16

/-- The delimiter of a frame. -/
def delimiter : Byte := 0x7E#8

/-- The escape byte. -/
def escapeByte : Byte := 0x7D#8

/-- The content as sent: 0x7E as 0x7D 0x5E and 0x7D as 0x7D 0x5D (R176). -/
def escaped (bs : List Byte) : List Byte :=
  bs.flatMap fun b => if b = delimiter then [escapeByte, 0x5E#8] else if b = escapeByte then [escapeByte, 0x5D#8] else [b]

/-- The content of line bytes between delimiters; none on an error byte or a broken escape (R177, R190). -/
def unescaped : List LineByte → Option (List Byte)
  | [] => some []
  | .error :: _ => none
  | [.byte b] => if b = escapeByte ∨ b = delimiter then none else some [b]
  | .byte b :: c :: rest =>
    if b = escapeByte then
      match c with
      | .byte v =>
        if v = 0x5E#8 then (unescaped rest).map (delimiter :: ·)
        else if v = 0x5D#8 then (unescaped rest).map (escapeByte :: ·)
        else none
      | .error => none
    else if b = delimiter then none
    else (unescaped (c :: rest)).map (b :: ·)

/-- Content followed by its CRC, most significant byte first. -/
def withCrc (bs : List Byte) : List Byte := bs ++ w16 (crc16 bs).toNat

/-- Whether the last two bytes are the CRC of the bytes before them (R178, R190). -/
def crcHolds (content : List Byte) : Bool :=
  (crc16 (content.take (content.length - 2))).toNat == u16 content (content.length - 2)

/-- A frame on the line: a delimiter before and after the escaped content (R176). -/
def onLine (content : List Byte) : List Byte := delimiter :: escaped content ++ [delimiter]

/-- The content of a frame: kind, tag, port, payload length, payload, CRC (R176). -/
def frameContent (kind tag port : Byte) (payload : List Byte) : List Byte :=
  withCrc ([kind, tag, port] ++ w16 payload.length ++ payload)

end Wire

open Wire

/-! ### Request kinds (R188, R179) -/

/-- The code of a request kind (R188). -/
def RequestKind.code : RequestKind → Byte
  | .portEnable => 0x01 | .portDisable => 0x02 | .clearFault => 0x03 | .portStatus => 0x04
  | .planFreq => 0x05 | .planSlots => 0x06 | .planCal => 0x07 | .planMix => 0x08 | .planDetect => 0x09
  | .planLandmark => 0x0A | .planSupports => 0x0B | .planCurve => 0x0C | .planTravel => 0x0D | .planStream => 0x0E
  | .planCommit => 0x0F | .planDiscard => 0x10 | .planRead => 0x11
  | .nullChannels => 0x12 | .openTube => 0x13 | .closeTube => 0x14 | .mark => 0x15
  | .recordList => 0x16 | .recordFetch => 0x17 | .recordRelease => 0x18
  | .driveQueue => 0x19 | .driveAbort => 0x1A | .driveStatus => 0x1B
  | .linkStatus => 0x1C | .reset => 0x1D

/-- The request kind of a code; none for a code that is no request's (R179, test 1). -/
def RequestKind.ofCode (b : Byte) : Option RequestKind :=
  match b.toNat with
  | 0x01 => some .portEnable | 0x02 => some .portDisable | 0x03 => some .clearFault | 0x04 => some .portStatus
  | 0x05 => some .planFreq | 0x06 => some .planSlots | 0x07 => some .planCal | 0x08 => some .planMix
  | 0x09 => some .planDetect | 0x0A => some .planLandmark | 0x0B => some .planSupports | 0x0C => some .planCurve
  | 0x0D => some .planTravel | 0x0E => some .planStream | 0x0F => some .planCommit | 0x10 => some .planDiscard
  | 0x11 => some .planRead | 0x12 => some .nullChannels | 0x13 => some .openTube | 0x14 => some .closeTube
  | 0x15 => some .mark | 0x16 => some .recordList | 0x17 => some .recordFetch | 0x18 => some .recordRelease
  | 0x19 => some .driveQueue | 0x1A => some .driveAbort | 0x1B => some .driveStatus
  | 0x1C => some .linkStatus | 0x1D => some .reset
  | _ => none

/-- Whether a request acts on the port it names (R179). -/
def RequestKind.actsOnPort : RequestKind → Bool
  | .recordList | .recordFetch | .recordRelease | .linkStatus | .reset => false
  | _ => true

/-- The port a port byte names (00_scope.md). -/
def PortId.ofByte? (b : Byte) : Option PortId :=
  match b.toNat with
  | 0 => some .a
  | 1 => some .b
  | 2 => some .c
  | 3 => some .d
  | _ => none

/-- The number of a port in messages. -/
def PortId.byte : PortId → Byte
  | .a => 0
  | .b => 1
  | .c => 2
  | .d => 3

/-- The kind, tag and port byte of a command that is a request; none for an event. -/
def Instr.request? : Instr → Option (RequestKind × Byte × Byte)
  | .powerOn => none
  | .hostFrameReceived _ => none
  | .portEnable t p => some (.portEnable, t, p)
  | .portDisable t p => some (.portDisable, t, p)
  | .clearFault t p => some (.clearFault, t, p)
  | .portStatus t p => some (.portStatus, t, p)
  | .planFreq t p _ => some (.planFreq, t, p)
  | .planSlots t p _ => some (.planSlots, t, p)
  | .planCal t p _ => some (.planCal, t, p)
  | .planMix t p _ => some (.planMix, t, p)
  | .planDetect t p _ => some (.planDetect, t, p)
  | .planLandmark t p _ => some (.planLandmark, t, p)
  | .planSupports t p _ => some (.planSupports, t, p)
  | .planCurve t p _ => some (.planCurve, t, p)
  | .planTravel t p _ => some (.planTravel, t, p)
  | .planStream t p _ => some (.planStream, t, p)
  | .planCommit t p => some (.planCommit, t, p)
  | .planDiscard t p => some (.planDiscard, t, p)
  | .planRead t p _ _ => some (.planRead, t, p)
  | .nullChannels t p => some (.nullChannels, t, p)
  | .openTube t p _ _ _ _ => some (.openTube, t, p)
  | .closeTube t p => some (.closeTube, t, p)
  | .mark t p => some (.mark, t, p)
  | .recordList t p => some (.recordList, t, p)
  | .recordFetch t p _ _ _ => some (.recordFetch, t, p)
  | .recordRelease t p _ => some (.recordRelease, t, p)
  | .driveQueue t p _ => some (.driveQueue, t, p)
  | .driveAbort t p => some (.driveAbort, t, p)
  | .driveStatus t p => some (.driveStatus, t, p)
  | .linkStatus t p => some (.linkStatus, t, p)
  | .reset t p => some (.reset, t, p)
  | .transmitFrameDone _ => none
  | .trackInputChange _ _ _ _ => none
  | .trackFilterExpiry _ => none
  | .timeModeExpiry _ => none
  | .switchEnd _ => none
  | .settleEnd _ => none
  | .integrateEnd _ _ _ _ _ => none
  | .driveMessageSent _ _ => none
  | .accept _ _ _ => none
  | .refuse _ _ _ _ => none
  | .done _ _ _ => none
  | .driveMessageDamaged _ _ _ => none
  | .acceptDeadline _ => none
  | .limitAcceptDeadline _ => none
  | .doneDeadline _ => none
  | .hostLinkByteReceived _ _ => none

/-! ### Request payloads (R189) -/

/-- An entry of PLAN_FREQ: presence, f_code; an absent entry holds no field (R22). -/
def readFreq (b : List Byte) : Option Nat := if u8 b 0 = 0 then none else some (u16 b 1)

/-- An entry of PLAN_SLOTS. -/
def readSlot (b : List Byte) : SlotFields := { freq := u8 b 0, mode := u8 b 1, settle := u8 b 2, integrate := u8 b 3 }

/-- An entry of PLAN_CAL. -/
def readCal (b : List Byte) : CalFields := { rotation := u16 b 0, gain := u16 b 2 }

/-- An entry of PLAN_MIX. -/
def readMix (b : List Byte) : Option MixFields :=
  if u8 b 0 = 0 then none
  else some { primary := u8 b 1, secondary := u8 b 2, kxx := s16 b 3, kxy := s16 b 5, kyx := s16 b 7, kyy := s16 b 9,
              rotation := u16 b 11, gain := u16 b 13 }

/-- The fields of PLAN_DETECT. -/
def readDetect (b : List Byte) : DetectFields :=
  { channel := u8 b 0, tOpen := u16 b 1, tClose := u16 b 3, qClose := u8 b 5, lMax := u16 b 6, aMin := u16 b 8,
    gateLow := u32 b 10, gateHigh := u32 b 14 }

/-- The fields of PLAN_LANDMARK. -/
def readLandmark (b : List Byte) : LandmarkFields :=
  { channel := u8 b 0, lOpen := u16 b 1, lClose := u16 b 3, qLand := u8 b 5, autoClose := u8 b 6, tolerance := u16 b 7,
    exitPos := u32 b 9 }

/-- A point of PLAN_CURVE. -/
def readPoint (b : List Byte) : CurvePoint := { phase := u16 b 0, depth := u8 b 2 }

/-- The fields of PLAN_TRAVEL. -/
def readTravel (b : List Byte) : TravelFields :=
  { step := u16 b 0, scale := u16 b 2, sense := u8 b 4, startTravel := u16 b 5, period := u32 b 7, deglitch := u8 b 11,
    speedGuard := u8 b 12 }

/-- The payload of PLAN_STREAM: a count, that many channels, decimation and width. -/
def readStream : List Byte → Option StreamFields
  | [] => none
  | n :: bs =>
    if n.toNat ≤ 8 ∧ bs.length = n.toNat + 2 then
      some { channels := (bs.take n.toNat).map BitVec.toNat, decimation := u8 bs n.toNat, width := u8 bs (n.toNat + 1) }
    else none

/-- An entry of DRIVE_QUEUE. -/
def readMove (b : List Byte) : MoveFields :=
  { direction := u8 b 0, endByte := u8 b 1, speed := u16 b 2, distance := u32 b 4 }

/-- A command without payload, where the payload is empty. -/
def whenEmpty (i : Instr) (b : List Byte) : Option Instr := if b.isEmpty then some i else none

/-- A command read from a payload of exactly `n` bytes. -/
def whenLength (n : Nat) (i : Instr) (b : List Byte) : Option Instr := if b.length = n then some i else none

/-- The command a request's payload spells; none where its length is not one the layout allows (R179, R189). -/
def parsePayload (k : RequestKind) (t p : Byte) (b : List Byte) : Option Instr :=
  match k with
  | .portEnable => whenEmpty (.portEnable t p) b
  | .portDisable => whenEmpty (.portDisable t p) b
  | .clearFault => whenEmpty (.clearFault t p) b
  | .portStatus => whenEmpty (.portStatus t p) b
  | .planFreq => (entries 3 readFreq 4 b).map (.planFreq t p)
  | .planSlots => (counted 1 12 4 readSlot b).map (.planSlots t p)
  | .planCal => (entries 4 readCal 12 b).map (.planCal t p)
  | .planMix => (entries 15 readMix 4 b).map (.planMix t p)
  | .planDetect => whenLength 18 (.planDetect t p (readDetect b)) b
  | .planLandmark => whenLength 13 (.planLandmark t p (readLandmark b)) b
  | .planSupports => (counted 0 24 4 (fun e => u32 e 0) b).map (.planSupports t p)
  | .planCurve => (counted 0 8 3 readPoint b).map (.planCurve t p)
  | .planTravel => whenLength 13 (.planTravel t p (readTravel b)) b
  | .planStream => (readStream b).map (.planStream t p)
  | .planCommit => whenEmpty (.planCommit t p) b
  | .planDiscard => whenEmpty (.planDiscard t p) b
  | .planRead => whenLength 2 (.planRead t p (u8 b 0) (u8 b 1)) b
  | .nullChannels => whenEmpty (.nullChannels t p) b
  | .openTube => whenLength 9 (.openTube t p (u16 b 0) (u16 b 2) (u8 b 4) (u32 b 5)) b
  | .closeTube => whenEmpty (.closeTube t p) b
  | .mark => whenEmpty (.mark t p) b
  | .recordList => whenEmpty (.recordList t p) b
  | .recordFetch => whenLength 4 (.recordFetch t p (u16 b 0) (u8 b 2) (u8 b 3)) b
  | .recordRelease => whenLength 2 (.recordRelease t p (u16 b 0)) b
  | .driveQueue => (counted 1 4 8 readMove b).map (.driveQueue t p)
  | .driveAbort => whenEmpty (.driveAbort t p) b
  | .driveStatus => whenEmpty (.driveStatus t p) b
  | .linkStatus => whenEmpty (.linkStatus t p) b
  | .reset => whenEmpty (.reset t p) b

/-- The bytes of an entry of PLAN_FREQ. -/
def writeFreq (e : Option Nat) : List Byte := wOption 2 w16 e

/-- The bytes of an entry of PLAN_SLOTS. -/
def writeSlot (e : SlotFields) : List Byte := w8 e.freq ++ w8 e.mode ++ w8 e.settle ++ w8 e.integrate

/-- The bytes of an entry of PLAN_CAL. -/
def writeCal (e : CalFields) : List Byte := w16 e.rotation ++ w16 e.gain

/-- The fields of a present mix entry. -/
def writeMixFields (e : MixFields) : List Byte :=
  w8 e.primary ++ w8 e.secondary ++ ws16 e.kxx ++ ws16 e.kxy ++ ws16 e.kyx ++ ws16 e.kyy ++ w16 e.rotation ++ w16 e.gain

/-- The bytes of an entry of PLAN_MIX. -/
def writeMix (e : Option MixFields) : List Byte := wOption 14 writeMixFields e

/-- The bytes of PLAN_DETECT. -/
def writeDetect (f : DetectFields) : List Byte :=
  w8 f.channel ++ w16 f.tOpen ++ w16 f.tClose ++ w8 f.qClose ++ w16 f.lMax ++ w16 f.aMin ++ w32 f.gateLow ++
    w32 f.gateHigh

/-- The bytes of PLAN_LANDMARK. -/
def writeLandmark (f : LandmarkFields) : List Byte :=
  w8 f.channel ++ w16 f.lOpen ++ w16 f.lClose ++ w8 f.qLand ++ w8 f.autoClose ++ w16 f.tolerance ++ w32 f.exitPos

/-- The bytes of a point of PLAN_CURVE. -/
def writePoint (e : CurvePoint) : List Byte := w16 e.phase ++ w8 e.depth

/-- The bytes of PLAN_TRAVEL. -/
def writeTravel (f : TravelFields) : List Byte :=
  w16 f.step ++ w16 f.scale ++ w8 f.sense ++ w16 f.startTravel ++ w32 f.period ++ w8 f.deglitch ++ w8 f.speedGuard

/-- The bytes of PLAN_STREAM. -/
def writeStream (f : StreamFields) : List Byte :=
  w8 f.channels.length ++ f.channels.flatMap w8 ++ w8 f.decimation ++ w8 f.width

/-- The bytes of an entry of DRIVE_QUEUE. -/
def writeMove (e : MoveFields) : List Byte := w8 e.direction ++ w8 e.endByte ++ w16 e.speed ++ w32 e.distance

/-- The payload of a request as the host sends it (R189); empty for an event. -/
def encodePayload : Instr → List Byte
  | .planFreq _ _ e => e.flatMap writeFreq
  | .planSlots _ _ e => w8 e.length ++ e.flatMap writeSlot
  | .planCal _ _ e => e.flatMap writeCal
  | .planMix _ _ e => e.flatMap writeMix
  | .planDetect _ _ f => writeDetect f
  | .planLandmark _ _ f => writeLandmark f
  | .planSupports _ _ e => w8 e.length ++ e.flatMap w32
  | .planCurve _ _ e => w8 e.length ++ e.flatMap writePoint
  | .planTravel _ _ f => writeTravel f
  | .planStream _ _ f => writeStream f
  | .planRead _ _ sec copy => w8 sec ++ w8 copy
  | .openTube _ _ row column sec p0 => w16 row ++ w16 column ++ w8 sec ++ w32 p0
  | .recordFetch _ _ number sec first => w16 number ++ w8 sec ++ w8 first
  | .recordRelease _ _ number => w16 number
  | .driveQueue _ _ e => w8 e.length ++ e.flatMap writeMove
  | _ => []

/-- The content of the frame by which the host sends a request (R176); none for an event. -/
def encodeRequest (i : Instr) : Option (List Byte) :=
  i.request?.map fun (k, t, p) => frameContent k.code t p (encodePayload i)

/-! ### Answers of the pusher-puller (R190) -/

/-- An answer of the pusher-puller (R151). -/
inductive DriveAnswer where
  | accept (number : Byte)
  | refuse (number reason : Byte)
  | done (number : Byte)
  deriving DecidableEq, Repr

/-- The answer that content with its CRC spells; none where the message is damaged (R190). -/
def readAnswerContent (content : List Byte) : Option DriveAnswer :=
  if content.length < 2 then none
  else if crcHolds content then
    match content.take (content.length - 2) with
    | [kind, n] => if kind = 0x11#8 then some (.accept n) else if kind = 0x13#8 then some (.done n) else none
    | [kind, n, reason] => if kind = 0x12#8 then some (.refuse n reason) else none
    | _ => none
  else none

/-- The answer that the line bytes between two delimiters spell; none where the message is damaged (R190). -/
def readAnswer (raw : List LineByte) : Option DriveAnswer := (unescaped raw).bind readAnswerContent

end Sys2Proof
end

