-- ==== Sys2Proof/Machine/Layout.lean ====
section
/-! DEFINITION. The bytes the part sends: the codes of R188, the reply, report and record layouts of R189 and
section 12.3, and the drive-line messages of R190. DEDUCED (log entry 10): a reply that R189 does not table is built
from its rule's list of items by R188, a list inside it standing behind a count byte. Unsafe for those replies' bytes;
their items are the rule's. -/

namespace Sys2Proof.Machine

open Sys2Proof.Wire

/-! ### Codes (R188) -/

/-- Port states. -/
def PortMode.code : PortMode → Nat
  | .off => 0 | .idle => 1 | .nulling => 2 | .armed => 3 | .acquiring => 4 | .fault => 5

/-- Causes. -/
def Cause.code : Cause → Nat
  | .enable => 0 | .disable => 1 | .nullStart => 2 | .nullDone => 3 | .tubeOpen => 4 | .startTravel => 5
  | .closeHost => 6 | .closeExit => 7 | .closeTubeEnd => 8 | .clear => 9 | .coilFault => 10 | .missedTrigger => 11
  | .commit => 12 | .stateEntry => 13 | .powerOn => 14 | .reset => 15

/-- Drive status. -/
def DriveStatus.code : DriveStatus → Nat
  | .ok => 0 | .openLead => 1 | .short => 2

/-- Coil modes (R22). -/
def CoilMode.code : CoilMode → Nat
  | .diff => 0 | .abs1 => 1 | .abs2 => 2

/-- Encoder sense (R22). -/
def Sense.code : Sense → Nat
  | .normal => 0 | .inverted => 1

/-- OFF and ON (R22). -/
def switchCode (b : Bool) : Nat := if b then 1 else 0

/-- Scan kinds. -/
def ScanKind.code : ScanKind → Nat
  | .time => 0 | .distance => 1

/-- Drive channel states. -/
def DriveState.code : DriveState → Nat
  | .released => 0 | .awaitAccept => 1 | .moving => 2 | .holding => 3 | .awaitHalt => 4 | .lost => 5

/-- Directions. -/
def Direction.code : Direction → Nat
  | .insert => 0 | .withdraw => 1

/-- Awaited accept kinds. -/
def AwaitedKind.code : AwaitedKind → Nat
  | .move => 0 | .release => 1 | .halt => 2

/-- Close reasons. -/
def CloseReason.code : CloseReason → Nat
  | .host => 0 | .exit => 1 | .tubeEnd => 2 | .fault => 3 | .disabled => 4

/-- Landmark kinds. -/
def LandmarkKind.code : LandmarkKind → Nat
  | .support => 0 | .extra => 1 | .missing => 2 | .tubeEnd => 3 | .operator => 4

/-- Gap kinds. -/
def GapKind.code : GapKind → Nat
  | .overspeed => 0 | .stream => 1 | .mixed => 2

/-- Refusal codes, from 1. -/
def RefusalCode.code : RefusalCode → Nat
  | .unknownRequest => 1 | .badLength => 2 | .badPort => 3 | .busy => 4 | .badState => 5 | .planPending => 6
  | .planInvalid => 7 | .noRecordSlot => 8 | .noSuchRecord => 9 | .recordOpen => 10 | .queueFull => 11
  | .driveLost => 12 | .aborted => 13 | .resetAborted => 14

/-- Plan sections. -/
def PlanSection.code : PlanSection → Nat
  | .freq => 0 | .slots => 1 | .cal => 2 | .mix => 3 | .detect => 4 | .landmark => 5 | .supports => 6 | .curve => 7
  | .travel => 8 | .stream => 9

/-- Fault kinds of a commit. -/
def PlanFaultKind.code : PlanFaultKind → Nat
  | .absentFrequency => 0 | .badMixInput => 1 | .sameMixInput => 2 | .noSuchChannel => 3 | .gateOrder => 4
  | .notAscending => 5 | .onePoint => 6 | .duplicate => 7

/-- Commit outcomes. -/
def CommitOutcome.code : CommitOutcome → Nat
  | .promoted => 0 | .pending => 1

/-- PORT_EVENT kinds. -/
def PortEventKind.code : PortEventKind → Nat
  | .state => 0 | .coilFault => 1 | .overspeed => 2 | .planPromoted => 3

/-- Abort sources. -/
def AbortSource.code : AbortSource → Nat
  | .host => 0 | .timeout => 1 | .stall => 2 | .refused => 3 | .portFault => 4 | .portOff => 5 | .reset => 6

/-- DRIVE_EVENT kinds. -/
def DriveEventKind.code : DriveEventKind → Nat
  | .drained => 0 | .aborted _ _ => 1 | .lost => 2 | .limitSent _ => 3

/-- A flag set, bit 0 first (R188). -/
def flagBits : List Bool → Nat
  | [] => 0
  | b :: rest => (if b then 1 else 0) + 2 * flagBits rest

/-- The record flags, in bit order (R188). -/
def RecordFlags.bits (f : RecordFlags) : Nat :=
  flagBits [f.unbalanced, f.encoderSuspect, f.overspeed, f.reversal, f.windowTruncated, f.landmarksTruncated,
    f.gapsMerged, f.endSeen, f.planPendingInTube]

/-- An absent field as zeros, without a presence byte of its own (section 12.3). -/
def wAbsent {α : Type} (width : Nat) (w : α → List Byte) : Option α → List Byte
  | none => List.replicate width 0
  | some v => w v

/-! ### Record sections (section 12.3) -/

/-- The HEADER section, 62 bytes. -/
def Record.headerBytes (r : Record) : List Byte :=
  w16 r.number ++ w8 r.port.byte.toNat ++ w16 r.row ++ w16 r.column ++ w8 r.sec ++ w32 r.p0 ++ w16 r.generation.toNat ++
  w8 (flagBits [r.gridOrigin.isSome, r.finalPos.isSome, r.finalCorrection.isSome, r.closeReason.isSome, r.matched.isSome,
    r.notReached.isSome]) ++
  wAbsent 4 w32 r.gridOrigin ++ wAbsent 4 w32 r.finalPos ++ wAbsent 2 ws16 r.finalCorrection ++
  wAbsent 1 (fun c => w8 (CloseReason.code c)) r.closeReason ++ w16 r.flags.bits ++
  w32 r.counters.scansTaken ++ w32 r.counters.missed ++ w32 r.counters.reversals ++ w32 r.counters.maxSpeed ++
  w32 r.counters.accepted ++ w32 r.counters.overflow ++ w32 r.counters.small ++ w32 r.counters.gated ++
  wAbsent 1 w8 r.matched ++ wAbsent 1 w8 r.notReached

/-- A landmark entry with its index, 17 bytes. -/
def LandmarkEntry.bytes (k : Nat) (e : LandmarkEntry) : List Byte :=
  w8 k ++ w8 e.kind.code ++
  w8 (flagBits [e.mapIndex.isSome, e.measured.isSome, e.nominal.isSome, e.step.isSome, e.peak.isSome]) ++
  wAbsent 1 w8 e.mapIndex ++ wAbsent 4 w32 e.measured ++ wAbsent 4 w32 e.nominal ++ wAbsent 2 ws16 e.step ++
  wAbsent 2 w16 e.peak ++ w8 (flagBits [e.long, e.truncated])

/-- An indication entry with its index, 25 bytes. -/
def Indication.bytes (k : Nat) (e : Indication) : List Byte :=
  w8 k ++ w32 e.detIndex ++ w32 e.pos ++ w8 (flagBits [e.reference.isSome, e.depth.isSome]) ++
  wAbsent 1 w8 e.reference ++ ws32 e.offset ++ w32 e.amplitude ++ w16 e.phase ++ wAbsent 1 w8 e.depth ++
  w16 e.length ++ w8 (flagBits [e.long, e.truncated, e.saturated, e.gapped])

/-- A gap entry with its index, 14 bytes. -/
def Gap.bytes (k : Nat) (e : Gap) : List Byte := w8 k ++ w8 e.kind.code ++ w32 e.start ++ w32 e.stop ++ w32 e.count

/-! ### Replies (R188, R189) -/

/-- A clamp report: a count and that many items. -/
def clampBytes (items : List ClampItem) : List Byte :=
  w8 items.length ++ items.flatMap fun c => w8 c.field ++ w8 c.item ++ w32 c.value

/-- A plan slot in the form of a section request. -/
def PlanSlot.bytes (e : PlanSlot) : List Byte := w8 e.freq ++ w8 e.mode.code ++ w8 e.settle ++ w8 e.integrate

/-- The content of a plan section, in the form in which a section request carries it (R34). -/
def SectionContent.bytes : SectionContent → List Byte
  | .freq es actual => (es.zip actual).flatMap fun (e, f) => writeFreq e ++ wOption 4 w32 f
  | .slots es => w8 es.length ++ es.flatMap PlanSlot.bytes
  | .cal es => es.flatMap writeCal
  | .mix es => es.flatMap writeMix
  | .detect f => writeDetect f
  | .landmark f =>
    w8 f.channel ++ w16 f.lOpen ++ w16 f.lClose ++ w8 f.qLand ++ w8 (switchCode f.autoClose) ++ w16 f.tolerance ++
      w32 f.exitPos
  | .supports es => w8 es.length ++ es.flatMap w32
  | .curve es => w8 es.length ++ es.flatMap writePoint
  | .travel f =>
    w16 f.step ++ w16 f.scale ++ w8 f.sense.code ++ w16 f.startTravel ++ w32 f.period ++ w8 f.deglitch ++
      w8 (switchCode f.speedGuard)
  | .stream f => writeStream f

/-- A fault detail: slot index, drive status, state, record number as an optional item (R1, R17). -/
def FaultDetail.bytes (d : FaultDetail) : List Byte :=
  w8 d.slot ++ w8 d.status.code ++ w8 d.declaredIn.code ++ wOption 2 w16 d.record

/-- The items of PORT_STATUS (R17). -/
def PortStatusView.bytes (v : PortStatusView) : List Byte :=
  w8 v.mode.code ++ w8 v.previous.code ++ w8 v.lastCause.code ++ wOption 6 FaultDetail.bytes v.fault ++
  v.runs.flatMap w8 ++ wBool v.closePending ++ wOption 1 w8 v.nullProgress ++ wOption 2 w16 v.openRecord ++
  w32 v.seqNo.toNat ++ w32 v.rawTenths ++ wOption 4 w32 v.corrected ++ w16 v.generation.toNat ++ wBool v.pending ++
  w8 v.drive.code

/-- A move, in the order R163 lists its items. -/
def Move.bytes (m : Move) : List Byte := w8 m.direction.code ++ w16 m.speed ++ w32 m.distance ++ wBool m.stop

/-- The items of DRIVE_STATUS (R163). -/
def DriveStatusView.bytes (v : DriveStatusView) : List Byte :=
  w8 v.state.code ++ w8 v.queueLength ++ wOption 8 Move.bytes v.current ++
  wOption 1 (fun k => w8 (AwaitedKind.code k)) v.awaited ++ wBool v.limitAwaited ++ wOption 2 w16 v.lastLimit

/-- The items of LINK_STATUS (R184). -/
def LinkStatusView.bytes (v : LinkStatusView) : List Byte :=
  w32 v.counters.crcDiscards ++ w32 v.counters.framingDiscards ++ w32 v.counters.reportsLost ++
  w32 v.counters.refusalsNotSent ++ w8 v.held ++ w8 v.refusals ++ w8 v.reports ++ w8 v.ringA ++ w8 v.ringB ++
  w8 v.ringC ++ w8 v.ringD

/-- A record number and its port (R146). -/
def listedBytes (e : Nat × PortId) : List Byte := w16 e.1 ++ w8 e.2.byte.toNat

/-- How many entries a fetch returns (R147, R189). DESIGN CHOICE (log entry 28): a header counts as 1. Unsafe: the two
rules give the byte and no value for a header. -/
def FetchContent.count : FetchContent → Nat
  | .header _ => 1
  | .landmarks es => es.length
  | .indications es => es.length
  | .gaps es => es.length

/-- The entries or the header a fetch returns. -/
def FetchContent.bytes : FetchContent → List Byte
  | .header r => r.headerBytes
  | .landmarks es => es.flatMap fun (k, e) => LandmarkEntry.bytes k e
  | .indications es => es.flatMap fun (k, e) => Indication.bytes k e
  | .gaps es => es.flatMap fun (k, e) => Gap.bytes k e

/-- The results of a DONE reply (R189). -/
def Results.bytes : Results → List Byte
  | .entered m => w8 m.code
  | .left m => w8 m.code
  | .nothing => []
  | .portStatus v => v.bytes
  | .clamps items => clampBytes items
  | .commit o g items => w8 o.code ++ w16 g.toNat ++ clampBytes items
  | .discarded g => w16 g.toNat
  | .planRead c g pend => c.bytes ++ w16 g.toNat ++ wBool pend
  | .nulled es sat =>
    w8 es.length ++ (es.flatMap fun e => ws16 e.x0 ++ ws16 e.y0 ++ wBool e.balanced) ++ w8 sat.length ++ sat.flatMap w8
  | .opened number row column sec p0 unbalanced =>
    w16 number ++ w16 row ++ w16 column ++ w8 sec ++ w32 p0 ++ wBool unbalanced
  | .closed number reason => w16 number ++ w8 reason.code
  | .marked pos index => w32 pos ++ wBool index.isSome ++ w8 (index.getD 0)
  | .recordList rs os =>
    w8 rs.length ++ rs.flatMap listedBytes ++ w8 os.length ++ os.flatMap listedBytes
  | .fetched number sec first last content =>
    w16 number ++ w8 sec ++ w8 first ++ w8 content.count ++ wBool last ++ content.bytes
  | .released number => w16 number
  | .queued length items => w8 length ++ clampBytes items
  | .aborted state n => w8 state.code ++ w8 n
  | .driveStatus v => v.bytes
  | .linkStatus v => v.bytes

/-- What PLAN_INVALID adds (R188). -/
def PlanFault.bytes (f : PlanFault) : List Byte := w8 f.sec.code ++ w8 f.item ++ w8 f.kind.code

/-- The kind byte of a reply (R188). -/
def ReplyBody.kindByte : ReplyBody → Byte
  | .done _ => 0x80
  | .refused _ _ => 0x81

/-- The payload of a reply: the request kind, then the results or the refusal code (R188). -/
def Reply.payload (r : Reply) : List Byte :=
  r.kind :: match r.body with
    | .done res => res.bytes
    | .refused code detail => w8 code.code ++ wAbsent 0 PlanFault.bytes detail

/-! ### Reports and stream frames (R189) -/

/-- The 10 bytes of a PORT_EVENT; a field its kind does not use is 0. -/
def PortEvent.bytes (e : PortEvent) : List Byte :=
  w8 e.kind.code ++ w8 e.state.code ++ w8 e.previous.code ++ w8 e.cause.code ++ w16 (e.record.getD 0) ++
  w16 ((e.generation.map BitVec.toNat).getD 0) ++ w8 (e.slot.getD 0) ++ w8 ((e.status.map DriveStatus.code).getD 0)

/-- The abort source, the reason code and the speed of a DRIVE_EVENT, 0 where its kind has none. -/
def DriveEventKind.detailBytes : DriveEventKind → List Byte
  | .drained => w8 0 ++ w8 0 ++ w16 0
  | .aborted source reason => w8 source.code ++ w8 ((reason.map BitVec.toNat).getD 0) ++ w16 0
  | .lost => w8 0 ++ w8 0 ++ w16 0
  | .limitSent speed => w8 0 ++ w8 0 ++ w16 speed

/-- The 7 bytes of a DRIVE_EVENT. -/
def DriveEvent.bytes (e : DriveEvent) : List Byte :=
  w8 e.kind.code ++ w8 e.state.code ++ w8 e.queueLength ++ e.kind.detailBytes

/-- The kind byte of a report (R188). -/
def Report.kindByte : Report → Byte
  | .portEvent _ => 0x90
  | .recordReady _ _ _ => 0x91
  | .driveEvent _ _ => 0x92

/-- The port of the block that raised a report (R182). -/
def Report.port : Report → PortId
  | .portEvent e => e.port
  | .recordReady p _ _ => p
  | .driveEvent p _ => p

/-- The payload of a report. -/
def Report.payload : Report → List Byte
  | .portEvent e => e.bytes
  | .recordReady _ number reason => w16 number ++ w8 reason.code
  | .driveEvent _ e => e.bytes

/-- A value of a stream frame at the frame's width: two bytes, or one (R168, R189). -/
def streamValueBytes (width : Nat) (v : ChannelValue) : List Byte :=
  if width = 8 then w8 (v.x % 256).toNat ++ w8 (v.y % 256).toNat else ws16 v.x ++ ws16 v.y

/-- The payload of a stream frame (R189). -/
def StreamFrame.payload (f : StreamFrame) : List Byte :=
  w16 f.generation.toNat ++ w8 f.width ++ w8 f.values.length ++ w32 f.seqNo.toNat ++ w8 f.kind.code ++ w32 f.pos ++
  w8 f.lost ++ w8 (flagBits [f.gap]) ++ w8 (flagBits (f.values.map ChannelValue.saturated)) ++
  f.values.flatMap (streamValueBytes f.width)

/-- The content of the frame the transmitter sends (R176, R181, R182). -/
def TxFrame.content : TxFrame → List Byte
  | .reply r => frameContent r.body.kindByte r.tag r.port r.payload
  | .report r => frameContent r.kindByte 0 r.port.byte r.payload
  | .stream f => frameContent 0xA0 0 f.port.byte f.payload

/-- The bytes of the frame on the line (R176). -/
def TxFrame.lineBytes (f : TxFrame) : List Byte := onLine f.content

/-! ### Drive-line messages (R190) -/

/-- The content of a drive-line message before its CRC. -/
def DriveMessage.content : DriveMessage → List Byte
  | .move n dir speed distance => [0x01, n] ++ w8 dir.code ++ w16 speed ++ w32 distance
  | .halt n => [0x02, n]
  | .release n => [0x03, n]
  | .limit n speed => [0x04, n] ++ w16 speed

/-- The bytes of a drive-line message on the line. -/
def DriveMessage.lineBytes (m : DriveMessage) : List Byte := onLine (withCrc m.content)

end Sys2Proof.Machine
end

