-- ==== Sys2Proof/Machine/Ops.lean ====
section
/-! DEFINITION. Access to the state: the blocks of a port, the record store, the link controller and the clock. Every
meaning reads and writes the state through these. -/

namespace Sys2Proof.Machine

/-- The blocks of a port. -/
def Ports.get (ps : Ports) : PortId → PortBlocks
  | .a => ps.a
  | .b => ps.b
  | .c => ps.c
  | .d => ps.d

/-- The ports with one of them replaced. -/
def Ports.set (ps : Ports) (p : PortId) (b : PortBlocks) : Ports :=
  match p with
  | .a => { ps with a := b }
  | .b => { ps with b := b }
  | .c => { ps with c := b }
  | .d => { ps with d := b }

/-- The blocks of port `p`. -/
def State.port (s : State) (p : PortId) : PortBlocks := s.ports.get p

/-- The state with the blocks of port `p` replaced. -/
def State.setPort (s : State) (p : PortId) (b : PortBlocks) : State := { s with ports := s.ports.set p b }

/-- A change of one port's blocks. -/
def onPort (p : PortId) (f : PortBlocks → PortBlocks) (s : State) : State := s.setPort p (f (s.port p))

/-- A change of a port controller. -/
def onCtl (p : PortId) (f : PortController → PortController) : State → State :=
  onPort p fun b => { b with ctl := f b.ctl }

/-- A change of a plan store. -/
def onPlan (p : PortId) (f : PlanStore → PlanStore) : State → State := onPort p fun b => { b with plan := f b.plan }

/-- A change of a scan sequencer. -/
def onSeq (p : PortId) (f : Sequencer → Sequencer) : State → State := onPort p fun b => { b with seq := f b.seq }

/-- A change of a travel unit. -/
def onTravel (p : PortId) (f : TravelUnit → TravelUnit) : State → State :=
  onPort p fun b => { b with travel := f b.travel }

/-- A change of a channel processor. -/
def onChan (p : PortId) (f : ChannelProcessor → ChannelProcessor) : State → State :=
  onPort p fun b => { b with chan := f b.chan }

/-- A change of an indication detector. -/
def onDet (p : PortId) (f : Detector → Detector) : State → State := onPort p fun b => { b with det := f b.det }

/-- A change of a landmark unit. -/
def onLand (p : PortId) (f : LandmarkUnit → LandmarkUnit) : State → State := onPort p fun b => { b with land := f b.land }

/-- A change of a drive channel. -/
def onDrive (p : PortId) (f : DriveChannel → DriveChannel) : State → State :=
  onPort p fun b => { b with drive := f b.drive }

/-- A change of a stream unit. -/
def onStream (p : PortId) (f : StreamUnit → StreamUnit) : State → State :=
  onPort p fun b => { b with stream := f b.stream }

/-- A change of the record store. -/
def onStore (f : RecordStore → RecordStore) (s : State) : State := { s with store := f s.store }

/-- A change of the link controller. -/
def onLink (f : LinkController → LinkController) (s : State) : State := { s with link := f s.link }

/-- The clock brought to the tick of an event; it never runs backwards (log entry 1). -/
def advance (time : Nat) (s : State) : State := { s with now := max s.now time }

/-- Every port in order A to D. -/
def allPorts : List PortId := [.a, .b, .c, .d]

/-- The state of a port (R1). -/
def State.mode (s : State) (p : PortId) : PortMode := (s.port p).ctl.mode

/-- The working plan of a port (R20). -/
def State.working (s : State) (p : PortId) : Plan := (s.port p).plan.working

/-- A port with an open record (R131). -/
def PortMode.hasRecord : PortMode → Bool
  | .armed | .acquiring => true
  | _ => false

/-- The states in which scans run (R2). -/
def PortMode.scanning : PortMode → Bool
  | .nulling | .armed | .acquiring => true
  | _ => false

/-- The states in which a commit promotes at once (R29). -/
def PortMode.atRest : PortMode → Bool
  | .off | .idle | .fault => true
  | _ => false

end Sys2Proof.Machine
end

