-- ==== Sys2Proof/Machine/Flags.lean ====
section
/-! DEFINITION. The record flags of R137 and the counters of R138, each set or raised by its own operation. -/

namespace Sys2Proof.Machine

/-- A change of a record's flags. -/
def Record.onFlags (f : RecordFlags → RecordFlags) (r : Record) : Record := { r with flags := f r.flags }

/-- A change of a record's counters. -/
def Record.onCounters (f : RecordCounters → RecordCounters) (r : Record) : Record := { r with counters := f r.counters }

/-- The flag PLAN_PENDING_IN_TUBE (R29). -/
def Record.setPlanPending : Record → Record := Record.onFlags fun f => { f with planPendingInTube := true }

/-- The flag ENCODER_SUSPECT (R58). -/
def Record.setEncoderSuspect : Record → Record := Record.onFlags fun f => { f with encoderSuspect := true }

/-- The flag OVERSPEED (R65). -/
def Record.setOverspeed : Record → Record := Record.onFlags fun f => { f with overspeed := true }

/-- The flag REVERSAL with its counter, which stops at the top of its range (R68, R138). -/
def Record.countReversal (r : Record) : Record :=
  { r with flags := { r.flags with reversal := true }
           counters := { r.counters with reversals := satInc r.counters.reversals } }

/-- The flag WINDOW_TRUNCATED (R101). -/
def Record.setWindowTruncated : Record → Record := Record.onFlags fun f => { f with windowTruncated := true }

/-- The flag END_SEEN (R118). -/
def Record.setEndSeen : Record → Record := Record.onFlags fun f => { f with endSeen := true }

/-- Scans taken, plus 1 (R138). -/
def Record.countScan : Record → Record := Record.onCounters fun c => { c with scansTaken := c.scansTaken + 1 }

/-- Missed triggers, plus 1 (R65, R67). -/
def Record.countMissed : Record → Record := Record.onCounters fun c => { c with missed := c.missed + 1 }

/-- Maximum speed, raised to a captured speed that exceeds it (R69). -/
def Record.raiseSpeed (speed : Nat) : Record → Record := Record.onCounters fun c => { c with maxSpeed := max c.maxSpeed speed }

/-- The small count, plus 1 (R107). -/
def Record.countSmall : Record → Record := Record.onCounters fun c => { c with small := c.small + 1 }

/-- The gated count, plus 1 (R107). -/
def Record.countGated : Record → Record := Record.onCounters fun c => { c with gated := c.gated + 1 }

/-- The accepted count, plus 1 (R107). -/
def Record.countAccepted : Record → Record := Record.onCounters fun c => { c with accepted := c.accepted + 1 }

/-- Clear flags but for UNBALANCED (R135). -/
def RecordFlags.atOpen (unbalanced : Bool) : RecordFlags :=
  { unbalanced := unbalanced, encoderSuspect := false, overspeed := false, reversal := false, windowTruncated := false,
    landmarksTruncated := false, gapsMerged := false, endSeen := false, planPendingInTube := false }

/-- Counters at the open (R135). -/
def RecordCounters.zero : RecordCounters :=
  { scansTaken := 0, missed := 0, reversals := 0, maxSpeed := 0, accepted := 0, overflow := 0, small := 0, gated := 0 }

end Sys2Proof.Machine
end

