-- ==== Sys2Proof/Machine/Records.lean ====
section
/-! DEFINITION. The record store: the pool, record numbers, the three lists of a record and what the host reads of
them (R130 to R148). -/

namespace Sys2Proof.Machine

/-! ### The three lists -/

/-- The indication placed after every entry at or above its position and before the first entry below it (R139). -/
def placeIndication (i : Indication) : List Indication → List Indication
  | [] => [i]
  | e :: rest => if i.pos ≤ e.pos then e :: placeIndication i rest else i :: e :: rest

/-- The smallest amplitude of a list, at most `m`. -/
def smallestAmplitude (m : Nat) : List Indication → Nat
  | [] => m
  | e :: rest => smallestAmplitude (min m e.amplitude) rest

/-- The list without its last entry of amplitude `m` (R140). -/
def dropLastOf (m : Nat) (l : List Indication) : List Indication := (l.reverse.eraseP fun e => e.amplitude = m).reverse

/-- An accepted indication placed in the list, or at a full list taking the place of the smallest, or discarded; the
overflow count rises at a full list (R139, R140). -/
def Record.addIndication (i : Indication) (r : Record) : Record :=
  if r.indications.length < Config.indicationEntries then { r with indications := placeIndication i r.indications }
  else
    let m := match r.indications with
      | [] => 0
      | e :: rest => smallestAmplitude e.amplitude rest
    { r with
      counters := { r.counters with overflow := r.counters.overflow + 1 }
      indications := if m < i.amplitude then placeIndication i (dropLastOf m r.indications) else r.indications }

/-- A landmark appended, or at 40 entries lost with the flag LANDMARKS_TRUNCATED set (R124, R125). -/
def Record.addLandmark (e : LandmarkEntry) (r : Record) : Record :=
  if r.landmarks.length < Config.landmarkEntries then { r with landmarks := r.landmarks ++ [e] }
  else { r with flags := { r.flags with landmarksTruncated := true } }

/-- Landmarks handed on one after the other. -/
def Record.addLandmarks (es : List LandmarkEntry) (r : Record) : Record := es.foldl (fun r e => r.addLandmark e) r

/-- A gap merged into the entry before it (R141). -/
def Gap.merge (old new : Gap) : Gap :=
  { kind := if old.kind = new.kind then old.kind else .mixed, start := old.start, stop := new.stop,
    count := old.count + new.count }

/-- A list with its last gap merged with a new one. -/
def mergeLast (g : Gap) : List Gap → List Gap
  | [] => []
  | [e] => [e.merge g]
  | e :: rest => e :: mergeLast g rest

/-- A gap appended, or at 8 entries merged into the last with the flag GAPS_MERGED set (R141). -/
def Record.addGap (g : Gap) (r : Record) : Record :=
  if r.gaps.length < Config.gapEntries then { r with gaps := r.gaps ++ [g] }
  else { r with gaps := mergeLast g r.gaps, flags := { r.flags with gapsMerged := true } }

/-! ### The pool -/

/-- The record of an OPEN slot of port `p`. -/
def RecordSlot.openFor (p : PortId) : RecordSlot → Option Record
  | .opened r => if r.port = p then some r else none
  | _ => none

/-- The record of a READY slot. -/
def RecordSlot.readyRecord : RecordSlot → Option Record
  | .ready r => some r
  | _ => none

/-- The record of an OPEN or READY slot. -/
def RecordSlot.record : RecordSlot → Option Record
  | .free => none
  | .opened r => some r
  | .ready r => some r

/-- The open record of port `p` (R131). -/
def State.openRecord (s : State) (p : PortId) : Option Record := s.store.slots.findSome? (RecordSlot.openFor p)

/-- The number of the open record of port `p`. -/
def State.openNumber (s : State) (p : PortId) : Option Nat := (s.openRecord p).map Record.number

/-- A change of an OPEN slot of port `p`. -/
def RecordSlot.onOpen (p : PortId) (f : Record → Record) : RecordSlot → RecordSlot
  | .opened r => if r.port = p then .opened (f r) else .opened r
  | slot => slot

/-- A write to the open record of port `p`, which the record store takes for that port alone (R131). -/
def onOpen (p : PortId) (f : Record → Record) : State → State :=
  onStore fun st => { st with slots := st.slots.map (RecordSlot.onOpen p f) }

/-- Whether a record number is held by an OPEN or READY record (R132). -/
def numberHeld (slots : List RecordSlot) (n : Nat) : Bool :=
  slots.any fun slot => match slot.record with
    | some r => r.number == n
    | none => false

/-- The counter advanced by 1, with 65,535 followed by 1 (R132). -/
def nextNumber (n : Nat) : Nat := if n < 65535 then n + 1 else 1

/-- The first number from `n` on that no record holds; twelve slots need at most twelve tests (R132). -/
def freeNumber (slots : List RecordSlot) : Nat → Nat → Nat
  | 0, n => n
  | fuel + 1, n => if numberHeld slots n then freeNumber slots fuel (nextNumber n) else n

/-- Whether a slot is FREE. -/
def RecordSlot.isFree : RecordSlot → Bool
  | .free => true
  | _ => false

/-- A FREE slot made OPEN with a record; the slots are not numbered for the host, and the model takes the first. -/
def fillFree (r : Record) : List RecordSlot → List RecordSlot
  | [] => []
  | .free :: rest => .opened r :: rest
  | slot :: rest => slot :: fillFree r rest

/-- The OPEN slot of port `p` made READY (R143, step 5). -/
def RecordSlot.makeReady (p : PortId) : RecordSlot → RecordSlot
  | .opened r => if r.port = p then .ready r else .opened r
  | slot => slot

/-- Step 5 of a close: the slot becomes READY and the record joins the tail of the ready order (R143). -/
def readyRecord (p : PortId) (s : State) : State :=
  match s.openNumber p with
  | some n => onStore (fun st => { st with slots := st.slots.map (RecordSlot.makeReady p), ready := st.ready ++ [n] }) s
  | none => s

/-- A READY slot that carries a number made FREE (R148). -/
def RecordSlot.releaseNumber (n : Nat) : RecordSlot → RecordSlot
  | .ready r => if r.number = n then .free else .ready r
  | slot => slot

/-- The READY record of a number released (R148). -/
def releaseRecord (n : Nat) : State → State :=
  onStore fun st => { st with slots := st.slots.map (RecordSlot.releaseNumber n), ready := st.ready.filter fun m => m != n }

/-- The slot that holds a record number. -/
def slotOf (s : State) (n : Nat) : Option RecordSlot :=
  s.store.slots.find? fun slot => match slot.record with
    | some r => r.number == n
    | none => false

/-! ### What the host reads -/

/-- The READY records in ready order (R146). -/
def readyList (s : State) : List (Nat × PortId) :=
  s.store.ready.filterMap fun n => (slotOf s n).bind fun slot => slot.readyRecord.map fun r => (n, r.port)

/-- The OPEN records in increasing order of port (R146). -/
def openList (s : State) : List (Nat × PortId) := allPorts.filterMap fun p => (s.openNumber p).map fun n => (n, p)

/-- Up to 16 entries of a list from an index on, each with its index (R147). -/
def fetchWindow {α : Type} (first : Nat) (l : List α) : List (Nat × α) :=
  ((l.zipIdx.map fun (e, k) => (k, e)).drop first).take Config.fetchEntries

/-- The last mark of a fetch: the final entry is returned, or the first index is at or beyond the length (R147). -/
def fetchLast {α : Type} (first : Nat) (l : List α) : Bool := decide (l.length ≤ first + Config.fetchEntries)

/-- A record as a fetch shows it while it is OPEN: every header field that the table of R136 shows as absent reads as
absent, the grid origin position among them. DEDUCED (log entry 29): R136 is taken at its word, and R147's "content as it
stands" for the counters, flags and lists it names. Unsafe: a part that shows the grid origin position of a port in
ACQUIRING differs. -/
def Record.whileOpen (r : Record) : Record :=
  { r with gridOrigin := none, finalPos := none, finalCorrection := none, closeReason := none, matched := none,
           notReached := none }

/-- The record of a slot as a fetch shows it (R136, R147). -/
def RecordSlot.fetched : RecordSlot → Option Record
  | .free => none
  | .opened r => some r.whileOpen
  | .ready r => some r

/-- The content of a fetch with its last mark, by section code 0 to 3 (R147). -/
def fetchContent (r : Record) (sec first : Nat) : FetchContent × Bool :=
  match sec with
  | 0 => (.header r, true)
  | 1 => (.landmarks (fetchWindow first r.landmarks), fetchLast first r.landmarks)
  | 2 => (.indications (fetchWindow first r.indications), fetchLast first r.indications)
  | _ => (.gaps (fetchWindow first r.gaps), fetchLast first r.gaps)

end Sys2Proof.Machine
end

