-- ==== Sys2Proof/Machine/Link.lean ====
section
/-! DEFINITION. The link controller: reports, replies, held requests, the deframer and the transmit arbiter (R175 to
R187). -/

namespace Sys2Proof.Machine

open Sys2Proof.Wire

/-! ### Counters and reports -/

/-- The reports-lost counter, plus 1. -/
def LinkCounters.countReportLost (c : LinkCounters) : LinkCounters := { c with reportsLost := satInc c.reportsLost }

/-- The refusals-not-sent counter, plus 1. -/
def LinkCounters.countNotSent (c : LinkCounters) : LinkCounters := { c with refusalsNotSent := satInc c.refusalsNotSent }

/-- The framing-discard counter, plus 1. -/
def LinkCounters.countFraming (c : LinkCounters) : LinkCounters := { c with framingDiscards := satInc c.framingDiscards }

/-- The CRC-discard counter, plus 1. -/
def LinkCounters.countCrc (c : LinkCounters) : LinkCounters := { c with crcDiscards := satInc c.crcDiscards }

/-- A change of the link counters. -/
def onCounters (f : LinkCounters → LinkCounters) : State → State := onLink fun l => { l with counters := f l.counters }

/-- A report handed to the link controller: appended, or dropped and counted at a full queue (R182). -/
def report (r : Report) (s : State) : State :=
  if s.link.reports.length < Config.reportPlaces then onLink (fun l => { l with reports := l.reports ++ [r] }) s
  else onCounters LinkCounters.countReportLost s

/-- A PORT_EVENT of port `p` with the state, the previous state and no detail (R15). -/
def portEvent (s : State) (p : PortId) (kind : PortEventKind) (cause : Cause) : PortEvent :=
  { port := p, kind := kind, state := s.mode p, previous := (s.port p).ctl.previous, cause := cause, record := none,
    generation := none, slot := none, status := none, declaredIn := none }

/-! ### Held requests and replies (R179 to R181) -/

/-- A request is marked answered (R180). -/
def HeldRequest.markAnswered (place : Nat) (h : HeldRequest) : HeldRequest :=
  if h.place = place then { h with answered := true } else h

/-- The reply to the held request at a place: placed at the tail of the reply queue, the request marked answered. A
request already answered is not answered again (R180). -/
def reply (place : Nat) (body : ReplyBody) (s : State) : State :=
  match s.link.buffer.find? fun h => h.place = place with
  | none => s
  | some h =>
    if h.answered then s
    else
      onLink (fun l =>
        { l with
          replies := l.replies ++ [{ place := some place, kind := h.kind.code, tag := h.tag, port := h.port, body := body }]
          buffer := l.buffer.map (HeldRequest.markAnswered place) }) s

/-- The held request of a kind on port `p` that has not been answered: at most one for NULL_CHANNELS and for CLOSE_TUBE
(R85, R142, R181). -/
def heldOn (s : State) (k : RequestKind) (p : PortId) : Option HeldRequest :=
  s.link.buffer.find? fun h => h.kind = k ∧ h.port = p.byte ∧ h.answered = false

/-- The answer to the held request of a kind on port `p`, where there is one. -/
def answerHeld (k : RequestKind) (p : PortId) (body : ReplyBody) (s : State) : State :=
  match heldOn s k p with
  | some h => reply h.place body s
  | none => s

/-- The immediate refusals waiting in the reply queue (R175). -/
def refusalsWaiting (l : LinkController) : Nat := (l.replies.filter fun r => r.place.isNone).length

/-- An immediate refusal: placed at the tail of the reply queue, or at 8 of them discarded and counted (R179). -/
def refuseAtOnce (code : RefusalCode) (kind tag port : Byte) (s : State) : State :=
  if refusalsWaiting s.link < Config.refusalPlaces then
    onLink (fun l =>
      { l with replies := l.replies ++ [{ place := none, kind := kind, tag := tag, port := port, body := .refused code none }] }) s
  else onCounters LinkCounters.countNotSent s

/-- A place of the request buffer that no held request has. -/
def freePlace (buffer : List HeldRequest) : Nat :=
  ((List.range Config.requestPlaces).find? fun n => buffer.all fun h => h.place != n).getD buffer.length

/-- Tests 2 to 4 of R179 on a request of a known kind; none where all three pass. -/
def testRequest (k : RequestKind) (port : Byte) (lengthAllowed : Bool) (s : State) : Option RefusalCode :=
  if k.actsOnPort && decide (3 < port.toNat) then some .badPort
  else if !lengthAllowed then some .badLength
  else if Config.requestPlaces ≤ s.link.buffer.length then some .busy
  else none

/-- A request held at the tail of the buffer (R180). -/
def hold (k : RequestKind) (tag port : Byte) (s : State) : State :=
  onLink (fun l =>
    { l with buffer := l.buffer ++ [{ place := freePlace l.buffer, kind := k, tag := tag, port := port, answered := false }] }) s

/-- The counts a request carries lie in their ranges (R20, R153, R189). -/
def Instr.lengthAllowed : Instr → Bool
  | .planFreq _ _ e => decide (e.length = 4)
  | .planSlots _ _ e => decide (1 ≤ e.length) && decide (e.length ≤ 12)
  | .planCal _ _ e => decide (e.length = 12)
  | .planMix _ _ e => decide (e.length = 4)
  | .planSupports _ _ e => decide (e.length ≤ 24)
  | .planCurve _ _ e => decide (e.length ≤ 8)
  | .planStream _ _ f => decide (f.channels.length ≤ 8)
  | .driveQueue _ _ e => decide (1 ≤ e.length) && decide (e.length ≤ 4)
  | _ => true

/-- What the tests of R179 make of a request: refused at once, or held at a place of the buffer. -/
inductive Claim where
  | refused (s : State)
  | taken (place : Nat) (s : State)

/-- A request of a known kind tested and, where it passes, held: it is handed to its block in the same step (R179,
R180). A request's command stands for the whole of its intact frame. DESIGN CHOICE (log entry 2). Safe: the end of a
frame that spells the command has this one effect too. -/
def claim (c : Instr) (k : RequestKind) (tag port : Byte) (s : State) : Claim :=
  match testRequest k port (Instr.lengthAllowed c) s with
  | some code => .refused (refuseAtOnce code k.code tag port s)
  | none => .taken (freePlace s.link.buffer) (hold k tag port s)

/-! ### The transmitter (R183) -/

/-- The ports in the order the arbiter looks at them, beginning after the last one served (R183). -/
def servingOrder : PortId → List PortId
  | .a => [.b, .c, .d, .a]
  | .b => [.c, .d, .a, .b]
  | .c => [.d, .a, .b, .c]
  | .d => [.a, .b, .c, .d]

/-- The next stream frame with its port, and what its ring then holds. -/
def nextStream (s : State) : Option (PortId × StreamFrame × List StreamFrame) :=
  (servingOrder s.link.lastServed).findSome? fun p =>
    match (s.port p).stream.ring with
    | [] => none
    | f :: rest => some (p, f, rest)

/-- The buffer once the reply of a place has been taken by the transmitter (R180). -/
def freeBuffer (place : Option Nat) (buffer : List HeldRequest) : List HeldRequest :=
  match place with
  | none => buffer
  | some n => buffer.filter fun h => h.place != n

/-- The transmit arbiter: where the transmitter is IDLE it takes the oldest reply, else the oldest report, else a
stream frame in round-robin order; the frame taken leaves its queue or ring (R183, R172). It runs at the end of every
command, so that all one command makes is waiting when it chooses (log entry 23). -/
def arbitrate (s : State) : State :=
  match s.link.sending with
  | some _ => s
  | none =>
    match s.link.replies with
    | r :: rest =>
      onLink (fun l => { l with replies := rest, sending := some (.reply r), buffer := freeBuffer r.place l.buffer }) s
    | [] =>
      match s.link.reports with
      | r :: rest => onLink (fun l => { l with reports := rest, sending := some (.report r) }) s
      | [] =>
        match nextStream s with
        | some (p, f, rest) =>
          onLink (fun l => { l with sending := some (.stream f), lastServed := p })
            (onStream p (fun u => { u with ring := rest }) s)
        | none => s

/-- The frame being sent has left the line (R183). -/
def frameSent (s : State) : State := onLink (fun l => { l with sending := none }) s

/-! ### The deframer (R177, R178) -/

/-- The deframer set. -/
def setDeframer (state : DeframerState) (content : List Byte) : State → State :=
  onLink fun l => { l with deframer := { state := state, content := content } }

/-- A framing discard: the content is thrown away and counted (R177). -/
def framingDiscard (next : DeframerState) (s : State) : State :=
  onCounters LinkCounters.countFraming (setDeframer next [] s)

/-- A content byte appended; beyond 1,031 bytes a framing discard (R177). -/
def appendContent (v : Byte) (s : State) : State :=
  if s.link.deframer.content.length < Config.contentMax then setDeframer .inFrame (s.link.deframer.content ++ [v]) s
  else framingDiscard .hunt s

/-- The deframer's table (R177), with the content of the frame that a delimiter has ended, where it has ended one. -/
def receiveByte (b : LineByte) (s : State) : State × Option (List Byte) :=
  match s.link.deframer.state, b with
  | .hunt, .error => (s, none)
  | .hunt, .byte v => (if v = delimiter then setDeframer .inFrame [] s else s, none)
  | .inFrame, .error => (framingDiscard .hunt s, none)
  | .inFrame, .byte v =>
    if v = delimiter then
      if s.link.deframer.content.isEmpty then (s, none)
      else (setDeframer .inFrame [] s, some s.link.deframer.content)
    else if v = escapeByte then (setDeframer .escape s.link.deframer.content s, none)
    else (appendContent v s, none)
  | .escape, .error => (framingDiscard .hunt s, none)
  | .escape, .byte v =>
    if v = delimiter then (framingDiscard .inFrame s, none)
    else if v = 0x5E#8 then (appendContent delimiter s, none)
    else if v = 0x5D#8 then (appendContent escapeByte s, none)
    else (framingDiscard .hunt s, none)

/-- What the checks of R178 make of a frame that has ended: a framing discard, a CRC discard, or an intact request. -/
inductive FrameCheck where
  | framing
  | crc
  | intact (kind tag port : Byte) (payload : List Byte)
  deriving DecidableEq, Repr

/-- The checks of an ended frame: at least 7 bytes, the CRC, the payload length (R178). -/
def checkFrame (content : List Byte) : FrameCheck :=
  if content.length < 7 then .framing
  else if !crcHolds content then .crc
  else if u16 content 3 ≠ content.length - 7 then .framing
  else .intact (content.getD 0 0) (content.getD 1 0) (content.getD 2 0) ((content.drop 5).take (content.length - 7))

/-! ### Serving a request -/

/-- The outcome of a request that acts on no port: refused at once, or taken and served. -/
def serve (c : Instr) (k : RequestKind) (tag port : Byte) (body : Nat → State → State) (s : State) :
    Host.Outcome State Fault Refusal :=
  match claim c k tag port s with
  | .refused s' => .next (arbitrate s')
  | .taken place s' => .next (arbitrate (body place s'))

/-- The outcome of a request that acts on the port it names. -/
def serveOnPort (c : Instr) (k : RequestKind) (tag port : Byte) (body : PortId → Nat → State → State) (s : State) :
    Host.Outcome State Fault Refusal :=
  serve c k tag port (fun place s' =>
    match PortId.ofByte? port with
    | some p => body p place s'
    | none => s') s

/-- A DONE reply. -/
def replyDone (place : Nat) (r : Results) : State → State := reply place (.done r)

/-- A REFUSED reply. -/
def replyRefused (place : Nat) (code : RefusalCode) : State → State := reply place (.refused code none)

/-- RESET answers every other held request not yet answered, in the order they were held (R186). -/
def abortHeld (place : Nat) (s : State) : State :=
  (s.link.buffer.filter fun h => h.place != place).foldl (fun s h => replyRefused h.place .resetAborted s) s

end Sys2Proof.Machine
end

