-- ==== Sys2Proof/Machine/Drive.lean ====
section
/-! DEFINITION. The drive channel: messages, issue and completion of entries, limits, aborts and LOST (R151 to R165).
An operation on a channel answers the channel and the DRIVE_EVENTs it raises; `onDriveEvents` queues those. -/

namespace Sys2Proof.Machine

/-- A change of a port's drive channel with the events it raises, queued as reports in their order (R164). -/
def onDriveEvents (p : PortId) (f : DriveChannel → DriveChannel × List DriveEvent) (s : State) : State :=
  let r := f (s.port p).drive
  r.2.foldl (fun s e => report (.driveEvent p e) s) (onDrive p (fun _ => r.1) s)

/-- A DRIVE_EVENT with the channel's state and queue length (R164). -/
def DriveChannel.event (d : DriveChannel) (kind : DriveEventKind) : DriveEvent :=
  { kind := kind, state := d.state, queueLength := d.queue.length }

/-- A message made: it takes the message number, which then increases, and waits on the drive line (R151). -/
def DriveChannel.send (m : BitVec 8 → DriveMessage) (d : DriveChannel) : DriveChannel :=
  { d with outgoing := d.outgoing ++ [m d.number], number := d.number + 1 }

/-- A message made whose accept is then awaited; its deadline starts when it has been sent (R152, R154). -/
def DriveChannel.sendAwaited (kind : AwaitedKind) (m : BitVec 8 → DriveMessage) (d : DriveChannel) : DriveChannel :=
  { d.send m with awaited := some { kind := kind, number := d.number, deadline := none } }

/-- The conditions under which the channel may issue its head entry (R154). -/
def DriveChannel.canIssue (d : DriveChannel) : Bool :=
  (d.state = .released || d.state = .holding) && d.current.isNone && d.awaited.isNone

/-- The head entry issued where it may be: it leaves the queue, becomes current, and its MOVE is sent (R154). -/
def DriveChannel.issue (d : DriveChannel) : DriveChannel :=
  if d.canIssue then
    match d.queue with
    | [] => d
    | m :: rest =>
      { d.sendAwaited .move (fun n => .move n m.direction m.speed m.distance) with
        queue := rest, current := some { move := m, number := d.number }, state := .awaitAccept }
  else d

/-- The channel at rest: the next entry is issued, or with an empty queue DRAINED is raised (R154, R158). -/
def DriveChannel.settle (d : DriveChannel) : DriveChannel × List DriveEvent :=
  match d.queue with
  | [] => (d, [d.event .drained])
  | _ :: _ => (d.issue, [])

/-- An entry completed: HOLDING, then RELEASE with END set, or the next entry or DRAINED (R156, R158). -/
def DriveChannel.complete (stop : Bool) (d : DriveChannel) : DriveChannel × List DriveEvent :=
  if stop then ({ d with state := .holding }.sendAwaited .release .release, [])
  else { d with state := .holding }.settle

/-- An abort: queue and current entry discarded, nothing awaited but the HALT it sends (R160, steps 1 to 4). -/
def DriveChannel.halt (d : DriveChannel) : DriveChannel :=
  { { d with queue := [], current := none, limit := none, deferred := none, doneDeadline := none }.sendAwaited .halt .halt with
    state := .awaitHalt }

/-- An abort with its ABORTED event (R160). -/
def DriveChannel.abort (source : AbortSource) (reason : Option Byte) (d : DriveChannel) : DriveChannel × List DriveEvent :=
  (d.halt, [d.halt.event (.aborted source reason)])

/-- The channel becomes LOST: nothing awaited, the queue emptied, LOST raised (R160). -/
def DriveChannel.becomeLost (d : DriveChannel) : DriveChannel × List DriveEvent :=
  let d' := { d with state := .lost, awaited := none, queue := [] }
  (d', [d'.event .lost])

/-- The entries an abort discards, the current entry counted with them (R161). -/
def DriveChannel.entries (d : DriveChannel) : Nat := d.queue.length + (if d.current.isSome then 1 else 0)

/-- A LIMIT sent on the travel unit's request, with LIMIT_SENT (R159). -/
def DriveChannel.sendLimit (speed : Nat) (d : DriveChannel) : DriveChannel × List DriveEvent :=
  let d' := { d.send (fun n => .limit n speed) with
              limit := some { number := d.number, speed := speed, deadline := none }, lastLimit := some speed }
  (d', [d'.event (.limitSent speed)])

/-- The done deadline of a distance in tenths at a speed in mm/s, from the tick of an ACCEPT (R155, R159). -/
def doneDeadlineFrom (now distance speed : Nat) : Nat :=
  now + (ceilDiv (100 * distance) speed + Config.doneSlackMilli) * Config.ticksPerMilli

/-- The ACCEPT of the awaited message (R155, R157, R160). -/
def DriveChannel.acceptAwaited (now : Nat) (a : AwaitedAccept) (d : DriveChannel) : DriveChannel × List DriveEvent :=
  match a.kind with
  | .move =>
    ({ d with
       awaited := none, state := .moving
       doneDeadline := d.current.map fun c => doneDeadlineFrom now c.move.distance c.move.speed }, [])
  | .release => { d with awaited := none, state := .released }.settle
  | .halt => { d with awaited := none, state := .holding }.settle

/-- The ACCEPT of the awaited LIMIT: the done deadline set anew, or the deferred completion carried out (R159). -/
def DriveChannel.acceptLimit (now : Nat) (l : AwaitedLimit) (d : DriveChannel) : DriveChannel × List DriveEvent :=
  match d.deferred with
  | none =>
    ({ d with limit := none, doneDeadline := d.current.map fun c => doneDeadlineFrom now c.move.distance l.speed }, [])
  | some stop => { d with limit := none, deferred := none }.complete stop

/-- An ACCEPT: acted on when its number is that of the awaited accept or of the awaited limit (R162). -/
def DriveChannel.onAccept (now : Nat) (n : Byte) (d : DriveChannel) : DriveChannel × List DriveEvent :=
  match d.awaited.filter (fun a => a.number = n), d.limit.filter (fun l => l.number = n) with
  | some a, _ => d.acceptAwaited now a
  | none, some l => d.acceptLimit now l
  | none, none => (d, [])

/-- A REFUSE: an abort with source REFUSED and the reason, or LOST for a HALT (R155, R157, R159, R160, R162). -/
def DriveChannel.onRefuse (n reason : Byte) (d : DriveChannel) : DriveChannel × List DriveEvent :=
  match d.awaited.filter (fun a => a.number = n), d.limit.filter (fun l => l.number = n) with
  | some a, _ => if a.kind = .halt then d.becomeLost else d.abort .refused (some reason)
  | none, some _ => d.abort .refused (some reason)
  | none, none => (d, [])

/-- A DONE: acted on in MOVING when its number is that of the current entry's MOVE and no completion is deferred; with
a LIMIT awaited the completion is deferred (R156, R162). -/
def DriveChannel.onDone (n : Byte) (d : DriveChannel) : DriveChannel × List DriveEvent :=
  match d.current with
  | none => (d, [])
  | some c =>
    if d.state = .moving ∧ c.number = n ∧ d.deferred = none then
      let d' := { d with doneDeadline := none, current := none }
      if d.limit.isSome then ({ d' with deferred := some c.move.stop }, []) else d'.complete c.move.stop
    else (d, [])

/-- The number a message carries. -/
def DriveMessage.number : DriveMessage → BitVec 8
  | .move n _ _ _ => n
  | .halt n => n
  | .release n => n
  | .limit n _ => n

/-- The accept deadline started for a message that has been sent (R151, R154, R156, R159, R160). -/
def AwaitedAccept.startDeadline (now : Nat) (n : BitVec 8) (a : AwaitedAccept) : AwaitedAccept :=
  if a.number = n then { a with deadline := some (now + Config.acceptTicks) } else a

/-- The accept deadline started for a LIMIT that has been sent (R159). -/
def AwaitedLimit.startDeadline (now : Nat) (n : BitVec 8) (l : AwaitedLimit) : AwaitedLimit :=
  if l.number = n then { l with deadline := some (now + Config.acceptTicks) } else l

/-- The oldest waiting message has left the part whole: it no longer waits, and its accept deadline starts (R151). -/
def DriveChannel.messageSent (now : Nat) (d : DriveChannel) : DriveChannel :=
  match d.outgoing with
  | [] => d
  | m :: rest =>
    match m with
    | .limit n _ => { d with outgoing := rest, limit := d.limit.map (AwaitedLimit.startDeadline now n) }
    | m => { d with outgoing := rest, awaited := d.awaited.map (AwaitedAccept.startDeadline now m.number) }

/-- The accept deadline of the awaited message has passed: an abort with source TIMEOUT, or LOST for a HALT (R155,
R157, R160). -/
def DriveChannel.onAcceptDeadline (d : DriveChannel) : DriveChannel × List DriveEvent :=
  match d.awaited with
  | none => (d, [])
  | some a => if a.kind = .halt then d.becomeLost else d.abort .timeout none

/-- What DRIVE_STATUS carries (R163). -/
def DriveChannel.view (d : DriveChannel) : DriveStatusView :=
  { state := d.state, queueLength := d.queue.length, current := d.current.map CurrentMove.move,
    awaited := d.awaited.map AwaitedAccept.kind, limitAwaited := d.limit.isSome, lastLimit := d.lastLimit }

/-- An answer of the pusher-puller taken by the channel of port `p` at the part's clock (R155 to R162). -/
def driveAnswer (p : PortId) (a : DriveAnswer) (s : State) : State :=
  match a with
  | .accept n => onDriveEvents p (DriveChannel.onAccept s.now n) s
  | .refuse n reason => onDriveEvents p (DriveChannel.onRefuse n reason) s
  | .done n => onDriveEvents p (DriveChannel.onDone n) s

/-- An abort of port `p`'s drive channel (R160). -/
def driveAbort (p : PortId) (source : AbortSource) : State → State := onDriveEvents p (DriveChannel.abort source none)

end Sys2Proof.Machine
end

