-- ==== Sys2Proof/Machine/Operands.lean ====
section
/-! DEFINITION. The operands of requests: every field brought into its range by its kind, with the clamp report of
R24 (R22, R23, R134, R147, R153). -/

namespace Sys2Proof.Machine

/-- A numeric field with a range: raised to the lowest value or lowered to the highest (R22). -/
def clampTo (lo hi v : Nat) : Nat := max lo (min hi v)

/-- A rotation: the received value modulo 3600 (R22). -/
def storedRotation (v : Nat) : Nat := v % 3600

/-- A decimation: the nearest of 1, 2, 4 and 8 at or below, and 0 as 1 (R22). -/
def storedDecimation (v : Nat) : Nat := if v < 2 then 1 else if v < 4 then 2 else if v < 8 then 4 else 8

/-- A width: 16 from 16 on, else 8 (R22). -/
def storedWidth (v : Nat) : Nat := if v < 16 then 8 else 16

/-- A mode code; above ABS2 it is lowered to ABS2 (R22). -/
def storedMode (v : Nat) : CoilMode :=
  match v with
  | 0 => .diff
  | 1 => .abs1
  | _ => .abs2

/-- An encoder sense code; above INVERTED it is lowered to INVERTED (R22). -/
def storedSense (v : Nat) : Sense :=
  match v with
  | 0 => .normal
  | _ => .inverted

/-- An OFF or ON code; above ON it is lowered to ON (R22). -/
def storedSwitch (v : Nat) : Bool := decide (0 < v)

/-- A direction code; above WITHDRAW it is lowered to WITHDRAW (R153). -/
def storedDirection (v : Nat) : Direction :=
  match v with
  | 0 => .insert
  | _ => .withdraw

/-- The item of the clamp report for a field: present where the stored value differs from the received one (R24). -/
def clampItem (field item received stored : Nat) : List ClampItem :=
  if received = stored then [] else [{ field := field, item := item, value := stored }]

/-- The clamp report of a list of entries, in the order the fields stand in the request (R24). -/
def entryItems {α : Type} (items : Nat → α → List ClampItem) (es : List α) : List ClampItem :=
  es.zipIdx.flatMap fun (e, k) => items k e

/-! ### FREQ -/

/-- An f_code in its range (R23). -/
def storedFCode (v : Nat) : Nat := clampTo 50 10000 v

/-- The items of an entry of PLAN_FREQ; an absent entry has none (R22). -/
def freqItems (k : Nat) (e : Option Nat) : List ClampItem :=
  match e with
  | none => []
  | some v => clampItem 1 k v (storedFCode v)

/-! ### SLOTS -/

/-- A slot as stored (R22, R23). -/
def storedSlot (e : SlotFields) : PlanSlot :=
  { freq := min 3 e.freq, mode := storedMode e.mode, settle := min 15 e.settle, integrate := clampTo 1 64 e.integrate }

/-- The items of a slot. -/
def slotItems (k : Nat) (e : SlotFields) : List ClampItem :=
  clampItem 0 k e.freq (storedSlot e).freq ++ clampItem 1 k e.mode (storedSlot e).mode.code ++
  clampItem 2 k e.settle (storedSlot e).settle ++ clampItem 3 k e.integrate (storedSlot e).integrate

/-! ### CAL and MIX -/

/-- A gain in its range (R23). -/
def storedGain (v : Nat) : Nat := clampTo 1 65535 v

/-- A CAL entry as stored. -/
def storedCal (e : CalFields) : CalFields := { rotation := storedRotation e.rotation, gain := storedGain e.gain }

/-- The items of a CAL entry. -/
def calItems (k : Nat) (e : CalFields) : List ClampItem :=
  clampItem 0 k e.rotation (storedCal e).rotation ++ clampItem 1 k e.gain (storedCal e).gain

/-- A present mix entry as stored; the coefficients are never clamped (R22). -/
def storedMix (e : MixFields) : MixFields :=
  { e with primary := min 15 e.primary, secondary := min 15 e.secondary, rotation := storedRotation e.rotation,
           gain := storedGain e.gain }

/-- The items of a mix entry; an absent entry has none. -/
def mixItems (k : Nat) (e : Option MixFields) : List ClampItem :=
  match e with
  | none => []
  | some m =>
    clampItem 1 k m.primary (storedMix m).primary ++ clampItem 2 k m.secondary (storedMix m).secondary ++
    clampItem 7 k m.rotation (storedMix m).rotation ++ clampItem 8 k m.gain (storedMix m).gain

/-! ### DETECT and LANDMARK -/

/-- The DETECT section as stored (R23). -/
def storedDetect (f : DetectFields) : DetectFields :=
  { channel := min 15 f.channel, tOpen := clampTo 1 32767 f.tOpen, tClose := min 32767 f.tClose,
    qClose := clampTo 1 64 f.qClose, lMax := clampTo 8 1024 f.lMax, aMin := clampTo 1 65535 f.aMin,
    gateLow := min 300000 f.gateLow, gateHigh := min 300000 f.gateHigh }

/-- The items of PLAN_DETECT. -/
def detectItems (f : DetectFields) : List ClampItem :=
  clampItem 0 0 f.channel (storedDetect f).channel ++ clampItem 1 0 f.tOpen (storedDetect f).tOpen ++
  clampItem 2 0 f.tClose (storedDetect f).tClose ++ clampItem 3 0 f.qClose (storedDetect f).qClose ++
  clampItem 4 0 f.lMax (storedDetect f).lMax ++ clampItem 5 0 f.aMin (storedDetect f).aMin ++
  clampItem 6 0 f.gateLow (storedDetect f).gateLow ++ clampItem 7 0 f.gateHigh (storedDetect f).gateHigh

/-- The LANDMARK section as stored (R23). -/
def storedLandmark (f : LandmarkFields) : LandmarkPlan :=
  { channel := min 15 f.channel, lOpen := clampTo 1 32767 f.lOpen, lClose := min 32767 f.lClose,
    qLand := clampTo 1 64 f.qLand, autoClose := storedSwitch f.autoClose, tolerance := clampTo 1 500 f.tolerance,
    exitPos := min 300000 f.exitPos }

/-- The items of PLAN_LANDMARK. -/
def landmarkItems (f : LandmarkFields) : List ClampItem :=
  clampItem 0 0 f.channel (storedLandmark f).channel ++ clampItem 1 0 f.lOpen (storedLandmark f).lOpen ++
  clampItem 2 0 f.lClose (storedLandmark f).lClose ++ clampItem 3 0 f.qLand (storedLandmark f).qLand ++
  clampItem 4 0 f.autoClose (switchCode (storedLandmark f).autoClose) ++
  clampItem 5 0 f.tolerance (storedLandmark f).tolerance ++ clampItem 6 0 f.exitPos (storedLandmark f).exitPos

/-! ### SUPPORTS and CURVE -/

/-- A nominal position as stored (R23). -/
def storedSupport (v : Nat) : Nat := min 300000 v

/-- The items of a nominal position. -/
def supportItems (k v : Nat) : List ClampItem := clampItem 0 k v (storedSupport v)

/-- A curve point as stored (R23). -/
def storedPoint (e : CurvePoint) : CurvePoint := { phase := min 3599 e.phase, depth := min 100 e.depth }

/-- The items of a curve point. -/
def pointItems (k : Nat) (e : CurvePoint) : List ClampItem :=
  clampItem 0 k e.phase (storedPoint e).phase ++ clampItem 1 k e.depth (storedPoint e).depth

/-! ### TRAVEL and STREAM -/

/-- The TRAVEL section as stored (R23). -/
def storedTravel (f : TravelFields) : TravelPlan :=
  { step := clampTo 250 10000 f.step, scale := clampTo 1 1000 f.scale, sense := storedSense f.sense,
    startTravel := clampTo 1 500 f.startTravel, period := clampTo 100 100000 f.period, deglitch := min 63 f.deglitch,
    speedGuard := storedSwitch f.speedGuard }

/-- The items of PLAN_TRAVEL. -/
def travelItems (f : TravelFields) : List ClampItem :=
  clampItem 0 0 f.step (storedTravel f).step ++ clampItem 1 0 f.scale (storedTravel f).scale ++
  clampItem 2 0 f.sense (storedTravel f).sense.code ++ clampItem 3 0 f.startTravel (storedTravel f).startTravel ++
  clampItem 4 0 f.period (storedTravel f).period ++ clampItem 5 0 f.deglitch (storedTravel f).deglitch ++
  clampItem 6 0 f.speedGuard (switchCode (storedTravel f).speedGuard)

/-- A stream channel as stored (R22). -/
def storedChannel (v : Nat) : Nat := min 15 v

/-- The items of a stream channel. -/
def channelItems (k v : Nat) : List ClampItem := clampItem 0 k v (storedChannel v)

/-- The STREAM section as stored (R22, R23). -/
def storedStream (f : StreamFields) : StreamFields :=
  { channels := f.channels.map storedChannel, decimation := storedDecimation f.decimation, width := storedWidth f.width }

/-- The items of PLAN_STREAM: channels are field 0, decimation 1, width 2 (R189). -/
def streamItems (f : StreamFields) : List ClampItem :=
  entryItems channelItems f.channels ++ clampItem 1 0 f.decimation (storedStream f).decimation ++
  clampItem 2 0 f.width (storedStream f).width

/-! ### DRIVE_QUEUE and OPEN_TUBE -/

/-- A move as stored (R153). -/
def storedMove (e : MoveFields) : Move :=
  { direction := storedDirection e.direction, speed := clampTo Config.speedMin Config.speedMax e.speed,
    distance := clampTo 1 300000 e.distance, stop := decide (e.endByte ≠ 0) }

/-- The items of a move; the END byte is not reported (R153). -/
def moveItems (k : Nat) (e : MoveFields) : List ClampItem :=
  clampItem 0 k e.direction (storedMove e).direction.code ++ clampItem 2 k e.speed (storedMove e).speed ++
  clampItem 3 k e.distance (storedMove e).distance

/-- A row or a column of a tube identity in its range (R134). -/
def storedTubeNumber (v : Nat) : Nat := clampTo 1 999 v

/-- A section of a tube identity in its range (R134). -/
def storedTubeSection (v : Nat) : Nat := min 15 v

/-- A start position in its range (R134). -/
def storedP0 (v : Nat) : Nat := min Config.positionMax v

/-- A fetch section code; above GAPS it is lowered to GAPS (R147). -/
def storedFetchSection (v : Nat) : Nat := min 3 v

end Sys2Proof.Machine
end

