-- ==== Sys2Proof/Machine/DriveRequests.lean ====
section
/-! DEFINITION. The requests to a drive channel, and the events of its line and of its deadlines (R151 to R165). -/

namespace Sys2Proof.Machine

/-- Moves appended to the queue (R153). -/
def DriveChannel.append (ms : List Move) (d : DriveChannel) : DriveChannel := { d with queue := d.queue ++ ms }

/-- DRIVE_QUEUE on a port (R153, R154). The reply carries the queue length after the append and before an entry is issued,
as R153 says. DEDUCED (log entry 30): one row of a worked example of chapter 9 shows the length after the issue. Unsafe: a
part that sends that length differs. -/
def queueRequest (entries : List MoveFields) (p : PortId) (place : Nat) (s : State) : State :=
  let d := (s.port p).drive
  if s.mode p = .off then replyRefused place .badState s
  else if d.state = .lost then replyRefused place .driveLost s
  else if Config.driveQueuePlaces < d.queue.length + entries.length then replyRefused place .queueFull s
  else
    onDrive p DriveChannel.issue
      (replyDone place (.queued (d.queue.length + entries.length) (entryItems moveItems entries))
        (onDrive p (DriveChannel.append (entries.map storedMove)) s))

/-- DRIVE_ABORT on a port (R161). -/
def abortRequest (p : PortId) (place : Nat) (s : State) : State :=
  replyDone place (.aborted .awaitHalt (s.port p).drive.entries) (driveAbort p .host s)

/-- DRIVE_STATUS on a port (R163). -/
def driveStatusRequest (p : PortId) (place : Nat) (s : State) : State :=
  replyDone place (.driveStatus (s.port p).drive.view) s

/-- DRIVE_QUEUE. -/
def execDriveQueue (tag port : Byte) (entries : List MoveFields) (s : State) : Host.Outcome State Fault Refusal :=
  serveOnPort (.driveQueue tag port entries) .driveQueue tag port (queueRequest entries) s

/-- DRIVE_ABORT. -/
def execDriveAbort (tag port : Byte) (s : State) : Host.Outcome State Fault Refusal :=
  serveOnPort (.driveAbort tag port) .driveAbort tag port abortRequest s

/-- DRIVE_STATUS. -/
def execDriveStatus (tag port : Byte) (s : State) : Host.Outcome State Fault Refusal :=
  serveOnPort (.driveStatus tag port) .driveStatus tag port driveStatusRequest s

/-- DRIVE_MESSAGE_SENT (R151). -/
def execDriveMessageSent (time : Nat) (p : PortId) (s : State) : Host.Outcome State Fault Refusal :=
  let s' := advance time s
  .next (arbitrate (onDrive p (DriveChannel.messageSent s'.now) s'))

/-- ACCEPT (R155, R157, R159, R160, R162). -/
def execAccept (time : Nat) (p : PortId) (number : Byte) (s : State) : Host.Outcome State Fault Refusal :=
  .next (arbitrate (driveAnswer p (.accept number) (advance time s)))

/-- REFUSE (R155, R157, R159, R160, R162). -/
def execRefuse (time : Nat) (p : PortId) (number reason : Byte) (s : State) : Host.Outcome State Fault Refusal :=
  .next (arbitrate (driveAnswer p (.refuse number reason) (advance time s)))

/-- DONE (R156, R159, R162). -/
def execDone (time : Nat) (p : PortId) (number : Byte) (s : State) : Host.Outcome State Fault Refusal :=
  .next (arbitrate (driveAnswer p (.done number) (advance time s)))

/-- A message of line bytes: discarded where it is damaged (R151, R190). DESIGN CHOICE (log entry 9): bytes that are
intact act as the answer they spell. Safe: R190 decides whether a message is damaged by its bytes alone. -/
def driveMessage (p : PortId) (raw : List LineByte) (s : State) : State :=
  match readAnswer raw with
  | none => s
  | some a => driveAnswer p a s

/-- DRIVE_MESSAGE_DAMAGED (R151, R190). -/
def execDriveMessageDamaged (time : Nat) (p : PortId) (raw : List LineByte) (s : State) : Host.Outcome State Fault Refusal :=
  .next (arbitrate (driveMessage p raw (advance time s)))

/-- The accept deadline of the awaited message passed, where one runs (R155, R157, R160). -/
def passAcceptDeadline (p : PortId) (s : State) : State :=
  match (s.port p).drive.awaited.bind AwaitedAccept.deadline with
  | none => s
  | some t => onDriveEvents p DriveChannel.onAcceptDeadline (advance t s)

/-- The accept deadline of the awaited LIMIT passed, where one runs (R159). -/
def passLimitDeadline (p : PortId) (s : State) : State :=
  match (s.port p).drive.limit.bind AwaitedLimit.deadline with
  | none => s
  | some t => driveAbort p .timeout (advance t s)

/-- The done deadline passed in MOVING, where it runs (R156). -/
def passDoneDeadline (p : PortId) (s : State) : State :=
  match (s.port p).drive.state, (s.port p).drive.doneDeadline with
  | .moving, some t => driveAbort p .stall (advance t s)
  | _, _ => s

/-- ACCEPT_DEADLINE. -/
def execAcceptDeadline (p : PortId) (s : State) : Host.Outcome State Fault Refusal := .next (arbitrate (passAcceptDeadline p s))

/-- LIMIT_ACCEPT_DEADLINE. -/
def execLimitAcceptDeadline (p : PortId) (s : State) : Host.Outcome State Fault Refusal :=
  .next (arbitrate (passLimitDeadline p s))

/-- DONE_DEADLINE. -/
def execDoneDeadline (p : PortId) (s : State) : Host.Outcome State Fault Refusal := .next (arbitrate (passDoneDeadline p s))

end Sys2Proof.Machine
end

