-- ==== Sys2Proof/Machine/Encoder.lean ====
section
/-! DEFINITION. The encoder side of the travel unit: track filters, quadrature decoding, counted edges and illegal
transitions (R55 to R59). -/

namespace Sys2Proof.Machine

/-- A track filter on a change of its input: the counter starts, or stops without output, or with F = 0 the internal
level follows at once (R56). -/
def TrackFilter.onInput (deglitch now : Nat) (input : Bool) (f : TrackFilter) : TrackFilter :=
  if input = f.input then f
  else if input = f.level then { input := input, level := f.level, since := none }
  else if deglitch = 0 then { input := input, level := input, since := none }
  else { input := input, level := f.level, since := some now }

/-- The tick at which a running filter completes its hold (R56). -/
def TrackFilter.due (deglitch : Nat) (f : TrackFilter) : Option Nat := f.since.map (· + deglitch)

/-- The internal level takes the input's level, and the counter stops (R56). -/
def TrackFilter.pass (f : TrackFilter) : TrackFilter := .atInput f.input

/-- A filter passed where its hold is complete at a tick. -/
def TrackFilter.passAt (deglitch time : Nat) (f : TrackFilter) : TrackFilter :=
  if f.due deglitch = some time then f.pass else f

/-- A filter under a new length: passed where its input has stood for at least the new hold time (R56). -/
def TrackFilter.underLength (deglitch now : Nat) (f : TrackFilter) : TrackFilter :=
  match f.since with
  | some t => if t + deglitch ≤ now then f.pass else f
  | none => f

/-- The earlier of two times, where either may be absent. -/
def earliest (a b : Option Nat) : Option Nat :=
  match a, b with
  | some x, some y => some (min x y)
  | some x, none => some x
  | none, some y => some y
  | none, none => none

/-- The internal levels of the two filters. -/
def TravelUnit.levels (u : TravelUnit) : Levels := { one := u.track1.level, two := u.track2.level }

/-- The next pair of the quadrature cycle (0, 0), (1, 0), (1, 1), (0, 1) (R57). -/
def Levels.next (l : Levels) : Levels := { one := !l.two, two := l.one }

/-- What a change of the internal levels decodes to (R57). -/
inductive Decoded where
  | still | forward | backward | illegal
  deriving DecidableEq, Repr

/-- A pair of levels decoded against the quadrature state (R57). -/
def decodePair (quad new : Levels) : Decoded :=
  if new = quad then .still
  else if new = quad.next then .forward
  else if quad = new.next then .backward
  else .illegal

/-- Whether an edge is a push edge under an encoder sense (R57). -/
def isPush (sense : Sense) (forward : Bool) : Bool :=
  match sense with
  | .normal => forward
  | .inverted => !forward

/-- The raw position after a counted edge, held at the limits (R59). -/
def movedRaw (scale : Nat) (push : Bool) (raw : Int) : Int :=
  if push then min Config.rawMax (raw + scale) else max Config.rawMin (raw - scale)

/-- A counted edge: whether it is a push edge, and the movement it made (R59). -/
structure Edge where
  push : Bool
  moved : Nat
  deriving DecidableEq, Repr

/-- The travel unit after its internal levels have been decoded, with the edge counted, and whether the change was an
illegal transition (R57 to R59). -/
def TravelUnit.decode (t : TravelPlan) (u : TravelUnit) : TravelUnit × Option Edge × Bool :=
  match decodePair u.quad u.levels with
  | .still => (u, none, false)
  | .illegal =>
    ({ u with quad := u.levels, illegal := if u.illegal < Config.illegalMax then u.illegal + 1 else u.illegal }, none, true)
  | .forward =>
    let raw := movedRaw t.scale (isPush t.sense true) u.raw
    ({ u with quad := u.levels, raw := raw }, some { push := isPush t.sense true, moved := (raw - u.raw).natAbs }, false)
  | .backward =>
    let raw := movedRaw t.scale (isPush t.sense false) u.raw
    ({ u with quad := u.levels, raw := raw }, some { push := isPush t.sense false, moved := (raw - u.raw).natAbs }, false)

/-- The decoding of a port at rest: in OFF no level is decoded; in IDLE and FAULT an edge moves the raw position alone
(R57, R59). -/
def decodeAtRest (p : PortId) (s : State) : State :=
  if s.mode p = .off then s else onTravel p (fun u => (u.decode (s.working p).travel).1) s

end Sys2Proof.Machine
end

