-- ==== Sys2Proof/Machine/Plans.lean ====
section
/-! DEFINITION. The plan store: validation, commit-time clamps, promotion and what PLAN_READ returns (R20 to R36), and
the tables derived from the working plan (R38, R40, R70). -/

namespace Sys2Proof.Machine

/-! ### Tables derived from a working plan -/

/-- The f_code of a frequency entry. -/
def Plan.fCode (w : Plan) (k : Nat) : Option Nat := w.freq.getD k none

/-- The period table of a plan (R38). -/
def Plan.periods (w : Plan) : List (Option Nat) := w.freq.map (Option.map excitationPeriod)

/-- A slot in force: 80 ticks plus the settle and integrate periods (R40). An absent period stands as 0: commit
validation admits no such slot (R26; log entry 14). -/
def slotInForce (periods : List (Option Nat)) (e : PlanSlot) : SlotInForce :=
  let period := (periods.getD e.freq none).getD 0
  { period := period, mode := e.mode, settle := e.settle, integrate := e.integrate,
    slotTime := Config.switchTicks + (e.settle + e.integrate) * period }

/-- The slot table in force (R40). -/
def Plan.slotTable (w : Plan) : List SlotInForce := w.slots.map (slotInForce w.periods)

/-- The scan duration: the sum of the slot times (R40). -/
def scanDuration (table : List SlotInForce) : Nat := (table.map SlotInForce.slotTime).sum

/-- The sequencer's tables derived anew (R38, R40). -/
def Sequencer.derive (w : Plan) (q : Sequencer) : Sequencer :=
  { q with periods := w.periods, slots := w.slotTable, duration := scanDuration w.slotTable }

/-- The scan-limited speed (R70). -/
def limitSpeedOf (step duration : Nat) : Nat := step * 40000 / duration

/-- The guard limit (R70). -/
def guardLimitOf (limitSpeed : Nat) : Nat := limitSpeed * 9 / 10

/-- The travel unit's two speeds derived anew (R70). -/
def TravelUnit.derive (w : Plan) (u : TravelUnit) : TravelUnit :=
  { u with limitSpeed := limitSpeedOf w.travel.step (scanDuration w.slotTable)
           guardLimit := guardLimitOf (limitSpeedOf w.travel.step (scanDuration w.slotTable)) }

/-! ### Validation (R26) -/

/-- Whether a raw channel exists in a plan. -/
def Plan.rawExists (w : Plan) (n : Nat) : Bool := decide (n < w.slots.length) && decide (n < Config.rawChannels)

/-- Whether a channel 0 to 15 exists in a plan (R26). -/
def Plan.channelExists (w : Plan) (n : Nat) : Bool :=
  if n < Config.rawChannels then w.rawExists n else ((w.mix[n - Config.rawChannels]?).join).isSome

/-- The first fault of a list of items, taken in increasing item index. -/
def firstFault {α : Type} (check : Nat → α → Option PlanFault) (es : List α) : Option PlanFault :=
  es.zipIdx.findSome? fun (e, k) => check k e

/-- A fault at an item. -/
def fault (sec : PlanSection) (item : Nat) (kind : PlanFaultKind) (fails : Bool) : Option PlanFault :=
  if fails then some { sec := sec, item := item, kind := kind } else none

/-- Check 1. -/
def checkSlot (w : Plan) (k : Nat) (e : PlanSlot) : Option PlanFault :=
  fault .slots k .absentFrequency (w.fCode e.freq).isNone

/-- Checks 2 to 4, on a present entry. -/
def checkMix (w : Plan) (k : Nat) (e : Option MixFields) : Option PlanFault :=
  match e with
  | none => none
  | some m =>
    (fault .mix k .badMixInput (!w.rawExists m.primary)).or
      ((fault .mix k .badMixInput (!w.rawExists m.secondary)).or (fault .mix k .sameMixInput (m.primary == m.secondary)))

/-- Whether an item of a list is not greater than the one before it. -/
def notAbove (l : List Nat) (k : Nat) : Bool :=
  match k with
  | 0 => false
  | j + 1 => decide (l.getD (j + 1) 0 ≤ l.getD j 0)

/-- Check 8 or 10: a position or a phase not greater than the one before it. -/
def checkAscending (sec : PlanSection) (l : List Nat) : Option PlanFault :=
  firstFault (fun k _ => fault sec k .notAscending (notAbove l k)) l

/-- Checks 11 and 12. -/
def checkStream (w : Plan) (k : Nat) (n : Nat) : Option PlanFault :=
  (fault .stream k .noSuchChannel (!w.channelExists n)).or
    (fault .stream k .duplicate ((w.stream.channels.take k).contains n))

/-- Validation of a staged plan: the first failing check, in the order of R26. -/
def Plan.validate (w : Plan) : Option PlanFault :=
  (firstFault (checkSlot w) w.slots).or <|
  (firstFault (checkMix w) w.mix).or <|
  (fault .detect 0 .noSuchChannel (!w.channelExists w.detect.channel)).or <|
  (fault .detect 1 .gateOrder (decide (w.detect.gateHigh < w.detect.gateLow))).or <|
  (fault .landmark 0 .noSuchChannel (!w.channelExists w.landmark.channel)).or <|
  (checkAscending .supports w.supports).or <|
  (fault .curve 0 .onePoint (w.curve.length == 1)).or <|
  (checkAscending .curve (w.curve.map CurvePoint.phase)).or <|
  firstFault (checkStream w) w.stream.channels

/-! ### Commit-time clamps (R28) -/

/-- The staged plan after the three commit-time clamps. -/
def Plan.commitClamped (w : Plan) : Plan :=
  { w with
    detect := { w.detect with tClose := min w.detect.tClose w.detect.tOpen }
    landmark := { w.landmark with lClose := min w.landmark.lClose w.landmark.lOpen }
    travel := { w.travel with step := max w.travel.step w.travel.scale } }

/-- The clamp report of a commit, in the order of R28's table. -/
def Plan.commitItems (w : Plan) : List ClampItem :=
  clampItem 2 0 w.detect.tClose w.commitClamped.detect.tClose ++
  clampItem 2 0 w.landmark.lClose w.commitClamped.landmark.lClose ++
  clampItem 0 0 w.travel.step w.commitClamped.travel.step

/-! ### Promotion (R30 to R32) -/

/-- What R32 compares of a slot: the f_code it names and its mode, absent where the slot does not exist. -/
def Plan.slotKey (w : Plan) (k : Nat) : Option (Option Nat × CoilMode) := (w.slots[k]?).map fun e => (w.fCode e.freq, e.mode)

/-- The null table after the comparison of the outgoing and the incoming plan (R32). -/
def comparedNulls (outgoing incoming : Plan) (nulls : List NullEntry) : List NullEntry :=
  nulls.zipIdx.map fun (e, k) =>
    if outgoing.slotKey k = incoming.slotKey k then e else { x0 := 0, y0 := 0, balanced := false }

/-- The blocks of a port with its staged plan put in force: nulls compared, plan copied, generation raised, pending flag
cleared, tables and speeds derived, and the new filter length applied to running filters (R30, R38, R70, R56). -/
def PortBlocks.promoted (now : Nat) (b : PortBlocks) : PortBlocks :=
  let w := b.plan.staged
  let u := b.travel.derive w
  { b with
    chan := { b.chan with nulls := comparedNulls b.plan.working w b.chan.nulls }
    plan := { b.plan with working := w, generation := b.plan.generation + 1, pending := false }
    seq := b.seq.derive w
    travel :=
      if b.plan.working.travel.deglitch = w.travel.deglitch then u
      else { u with track1 := u.track1.underLength w.travel.deglitch now
                    track2 := u.track2.underLength w.travel.deglitch now } }

/-- Promotion of the staged plan (R30); the PLAN_PROMOTED event carries the cause, and is absent under RESET (R19).
DEDUCED (log entry 21): an edge that the promotion itself makes is moved by the scale and the sense of the incoming plan.
Unsafe: R59 and R30 speak only of edges after the promotion. -/
def promote (p : PortId) (cause : Option Cause) (s : State) : State :=
  let s' := decodeAtRest p (onPort p (PortBlocks.promoted s.now) s)
  match cause with
  | none => s'
  | some c => report (.portEvent { portEvent s' p .planPromoted c with generation := some (s'.port p).plan.generation }) s'

/-- Promotion on entry to IDLE, OFF or FAULT with the pending flag set (R31). -/
def promoteIfPending (p : PortId) (s : State) : State :=
  if (s.port p).plan.pending then promote p (some .stateEntry) s else s

/-! ### Reading (R34) -/

/-- The content of a section, by section code 0 to 9; FREQ of the working copy carries the actual frequencies. -/
def sectionContent (w : Plan) (periods : Option (List (Option Nat))) (sec : Nat) : SectionContent :=
  match sec with
  | 0 =>
    .freq w.freq (match periods with
      | some ps => ps.map (Option.map actualFrequency)
      | none => w.freq.map fun _ => none)
  | 1 => .slots w.slots
  | 2 => .cal w.cal
  | 3 => .mix w.mix
  | 4 => .detect w.detect
  | 5 => .landmark w.landmark
  | 6 => .supports w.supports
  | 7 => .curve w.curve
  | 8 => .travel w.travel
  | _ => .stream w.stream

/-- The section a PLAN_READ names, of the copy it names: copy code 0 is STAGED, any other WORKING (R34). -/
def PortBlocks.readSection (b : PortBlocks) (sec copy : Nat) : SectionContent :=
  match copy with
  | 0 => sectionContent b.plan.staged none sec
  | _ => sectionContent b.plan.working (some b.seq.periods) sec

end Sys2Proof.Machine
end

