-- ==== Sys2Proof/Machine/PlanRequests.lean ====
section
/-! DEFINITION. The PLAN_* requests: the ten sections, PLAN_COMMIT, PLAN_DISCARD and PLAN_READ (R21 to R35). -/

namespace Sys2Proof.Machine

/-- A section request: the section of the staged plan replaced whole, or PLAN_PENDING (R21, R24). -/
def editSection (edit : Plan → Plan) (items : List ClampItem) (p : PortId) (place : Nat) (s : State) : State :=
  if (s.port p).plan.pending then replyRefused place .planPending s
  else replyDone place (.clamps items) (onPlan p (fun st => { st with staged := edit st.staged }) s)

/-- A commit that has passed validation: promoted at rest, else pending (R28, R29). -/
def commitValid (p : PortId) (place : Nat) (s : State) : State :=
  let items := (s.port p).plan.staged.commitItems
  let clamped := onPlan p (fun st => { st with staged := st.staged.commitClamped }) s
  if (s.mode p).atRest then
    let promoted := promote p (some .commit) clamped
    replyDone place (.commit .promoted (promoted.port p).plan.generation items) promoted
  else
    replyDone place (.commit .pending (s.port p).plan.generation items)
      (onOpen p Record.setPlanPending (onPlan p (fun st => { st with pending := true }) clamped))

/-- PLAN_COMMIT on a port (R25, R27). -/
def commitRequest (p : PortId) (place : Nat) (s : State) : State :=
  if (s.port p).plan.pending then replyDone place (.commit .pending (s.port p).plan.generation []) s
  else
    match (s.port p).plan.staged.validate with
    | some f => reply place (.refused .planInvalid (some f)) s
    | none => commitValid p place s

/-- PLAN_DISCARD on a port (R33). -/
def discardRequest (p : PortId) (place : Nat) (s : State) : State :=
  replyDone place (.discarded (s.port p).plan.generation)
    (onPlan p (fun st => { st with staged := st.working, pending := false }) s)

/-- PLAN_READ on a port (R34). -/
def readRequest (sec copy : Nat) (p : PortId) (place : Nat) (s : State) : State :=
  let b := s.port p
  replyDone place (.planRead (b.readSection sec copy) b.plan.generation b.plan.pending) s

/-- PLAN_FREQ. -/
def execPlanFreq (tag port : Byte) (entries : List (Option Nat)) (s : State) : Host.Outcome State Fault Refusal :=
  serveOnPort (.planFreq tag port entries) .planFreq tag port
    (editSection (fun w => { w with freq := entries.map (Option.map storedFCode) }) (entryItems freqItems entries)) s

/-- PLAN_SLOTS. -/
def execPlanSlots (tag port : Byte) (entries : List SlotFields) (s : State) : Host.Outcome State Fault Refusal :=
  serveOnPort (.planSlots tag port entries) .planSlots tag port
    (editSection (fun w => { w with slots := entries.map storedSlot }) (entryItems slotItems entries)) s

/-- PLAN_CAL. -/
def execPlanCal (tag port : Byte) (entries : List CalFields) (s : State) : Host.Outcome State Fault Refusal :=
  serveOnPort (.planCal tag port entries) .planCal tag port
    (editSection (fun w => { w with cal := entries.map storedCal }) (entryItems calItems entries)) s

/-- PLAN_MIX. -/
def execPlanMix (tag port : Byte) (entries : List (Option MixFields)) (s : State) : Host.Outcome State Fault Refusal :=
  serveOnPort (.planMix tag port entries) .planMix tag port
    (editSection (fun w => { w with mix := entries.map (Option.map storedMix) }) (entryItems mixItems entries)) s

/-- PLAN_DETECT. -/
def execPlanDetect (tag port : Byte) (fields : DetectFields) (s : State) : Host.Outcome State Fault Refusal :=
  serveOnPort (.planDetect tag port fields) .planDetect tag port
    (editSection (fun w => { w with detect := storedDetect fields }) (detectItems fields)) s

/-- PLAN_LANDMARK. -/
def execPlanLandmark (tag port : Byte) (fields : LandmarkFields) (s : State) : Host.Outcome State Fault Refusal :=
  serveOnPort (.planLandmark tag port fields) .planLandmark tag port
    (editSection (fun w => { w with landmark := storedLandmark fields }) (landmarkItems fields)) s

/-- PLAN_SUPPORTS. -/
def execPlanSupports (tag port : Byte) (positions : List Nat) (s : State) : Host.Outcome State Fault Refusal :=
  serveOnPort (.planSupports tag port positions) .planSupports tag port
    (editSection (fun w => { w with supports := positions.map storedSupport }) (entryItems supportItems positions)) s

/-- PLAN_CURVE. -/
def execPlanCurve (tag port : Byte) (points : List CurvePoint) (s : State) : Host.Outcome State Fault Refusal :=
  serveOnPort (.planCurve tag port points) .planCurve tag port
    (editSection (fun w => { w with curve := points.map storedPoint }) (entryItems pointItems points)) s

/-- PLAN_TRAVEL. -/
def execPlanTravel (tag port : Byte) (fields : TravelFields) (s : State) : Host.Outcome State Fault Refusal :=
  serveOnPort (.planTravel tag port fields) .planTravel tag port
    (editSection (fun w => { w with travel := storedTravel fields }) (travelItems fields)) s

/-- PLAN_STREAM. -/
def execPlanStream (tag port : Byte) (fields : StreamFields) (s : State) : Host.Outcome State Fault Refusal :=
  serveOnPort (.planStream tag port fields) .planStream tag port
    (editSection (fun w => { w with stream := storedStream fields }) (streamItems fields)) s

/-- PLAN_COMMIT. -/
def execPlanCommit (tag port : Byte) (s : State) : Host.Outcome State Fault Refusal :=
  serveOnPort (.planCommit tag port) .planCommit tag port commitRequest s

/-- PLAN_DISCARD. -/
def execPlanDiscard (tag port : Byte) (s : State) : Host.Outcome State Fault Refusal :=
  serveOnPort (.planDiscard tag port) .planDiscard tag port discardRequest s

/-- PLAN_READ. -/
def execPlanRead (tag port : Byte) (sec copy : Nat) (s : State) : Host.Outcome State Fault Refusal :=
  serveOnPort (.planRead tag port sec copy) .planRead tag port (readRequest sec copy) s

end Sys2Proof.Machine
end

