-- ==== Sys2Proof/Machine/Stream.lean ====
section
/-! DEFINITION. The stream unit: decimation groups, frames, the ring and the STREAM gaps (R166 to R174), and the
calibrated set the channel processor hands to its consumers (R76). -/

namespace Sys2Proof.Machine

/-- The calibrated set of a completed scan (R76): sequence number, kind, unclamped corrected position, the raw channels
in order, and the four mix channels, each absent where its entry is. -/
structure CalibratedSet where
  seqNo : BitVec 32
  kind : ScanKind
  pos : Int
  raw : List ChannelValue
  mix : List (Option ChannelValue)
  deriving DecidableEq, Repr

/-- The value of a channel 0 to 15; a channel that does not exist has no entry (R76), and reads as zeros here. No
consumer names one, by commit validation (R26; log entry 14). -/
def CalibratedSet.channel (c : CalibratedSet) (n : Nat) : ChannelValue :=
  ((if n < Config.rawChannels then c.raw[n]? else (c.mix[n - Config.rawChannels]?).join)).getD
    { x := 0, y := 0, saturated := false }

/-- A value added to a sum, with its saturation mark (R86, R167). -/
def ChannelValue.add (a b : ChannelValue) : ChannelValue :=
  { x := a.x + b.x, y := a.y + b.y, saturated := a.saturated || b.saturated }

/-- The listed channels of a scan added to the group, or a group begun with them (R167). -/
def groupWith (c : CalibratedSet) (channels : List Nat) (g : Option StreamGroup) : StreamGroup :=
  let values := channels.map c.channel
  match g with
  | none => { count := 1, sums := values, seqNo := c.seqNo, kind := c.kind, pos := c.pos }
  | some g =>
    { count := g.count + 1, sums := List.zipWith ChannelValue.add g.sums values, seqNo := c.seqNo, kind := c.kind, pos := c.pos }

/-- The mean of a group's sum, to the nearest, an exact half toward plus infinity (R168). -/
def groupMean (d : Nat) (sum : Int) : Int := (sum + (d / 2 : Nat)) / d

/-- A mean as the frame carries it: as it stands, or with width 8 divided by 256 (R168). -/
def atWidth (width : Nat) (mean : Int) : Int := if width = 8 then mean / 256 else mean

/-- The frame of a complete group; its frames-lost count is set when it is stored (R168). -/
def formFrame (p : PortId) (generation : BitVec 16) (cfg : StreamFields) (miss : Bool) (g : StreamGroup) : StreamFrame :=
  { port := p, generation := generation, width := cfg.width, seqNo := g.seqNo, kind := g.kind, pos := clampPos g.pos,
    lost := 0, gap := miss,
    values := g.sums.map fun v =>
      { x := atWidth cfg.width (groupMean cfg.decimation v.x), y := atWidth cfg.width (groupMean cfg.decimation v.y),
        saturated := v.saturated } }

/-- The stream gap with one more dropped frame (R171). -/
def gapWithDrop (u : StreamUnit) (pos : Nat) : StreamGap :=
  match u.gap with
  | none => { start := u.lastPos, last := pos, count := 1 }
  | some g => { g with last := pos, count := g.count + 1 }

/-- A STREAM gap as the record takes it (R171, R173). -/
def StreamGap.toGap (g : StreamGap) (stop : Nat) : Gap := { kind := .stream, start := g.start, stop := stop, count := g.count }

/-- A formed frame offered to the ring: stored with the frames-lost count, ending a gap being built, or dropped and
counted at a full ring (R170, R171). -/
def offerFrame (p : PortId) (f : StreamFrame) (s : State) : State :=
  let u := (s.port p).stream
  if u.ring.length < Config.ringFrames then
    let stored := onStream p (fun u =>
      { u with ring := u.ring ++ [{ f with lost := min u.lost 255 }], lastPos := f.pos, lost := 0, gap := none }) s
    match u.gap with
    | some g => onOpen p (Record.addGap (g.toGap f.pos)) stored
    | none => stored
  else
    onStream p (fun u =>
      { u with lost := satInc u.lost, gap := if s.mode p = .acquiring then some (gapWithDrop u f.pos) else u.gap }) s

/-- The stream unit's work on a completed scan: the group, and its frame when complete (R167, R168). -/
def streamScan (p : PortId) (c : CalibratedSet) (s : State) : State :=
  let cfg := (s.working p).stream
  if cfg.channels.isEmpty then s
  else
    let u := (s.port p).stream
    let g := groupWith c cfg.channels u.group
    if g.count < cfg.decimation then onStream p (fun u => { u with group := some g }) s
    else
      offerFrame p (formFrame p (s.port p).plan.generation cfg u.miss g)
        (onStream p (fun u => { u with group := none, miss := false }) s)

/-- The group in progress discarded and the miss mark cleared, on leaving a scanning state (R3, R169). -/
def discardGroup (p : PortId) : State → State := onStream p fun u => { u with group := none, miss := false }

/-- The stream unit's part of a close: the gap being built is written (R173). -/
def writeStreamGap (p : PortId) (s : State) : State :=
  match (s.port p).stream.gap with
  | some g => onOpen p (Record.addGap (g.toGap g.last)) (onStream p (fun u => { u with gap := none }) s)
  | none => s

end Sys2Proof.Machine
end

