-- ==== Sys2Proof/Machine/Detector.lean ====
section
/-! DEFINITION. The indication detector: the window, its measurement, its judgement and its reference landmark (R93 to
R112). -/

namespace Sys2Proof.Machine

/-- A closed window, as it is measured (R97, R101). -/
structure ClosedWindow where
  high : Point
  low : Point
  length : Nat
  saturated : Bool
  gapped : Bool
  long : Bool
  truncated : Bool
  deriving DecidableEq, Repr

/-- The window the detector holds, closed. An open window always has both extremes; `at0` stands where one is absent,
in states no run reaches (log entry 14). -/
def Detector.close (d : Detector) (at0 : Point) (long truncated : Bool) : ClosedWindow :=
  { high := d.high.getD at0, low := d.low.getD at0, length := d.length, saturated := d.saturated, gapped := d.gapped,
    long := long, truncated := truncated }

/-- The detector after a window has closed: no extremes, length and close run 0, window marks clear (R97). -/
def Detector.afterClose (state : DetectorState) (d : Detector) : Detector :=
  { Detector.clear with state := state, miss := d.miss }

/-- A window opened by a scan (R95). -/
def Detector.openWindow (pt : Point) (saturated : Bool) (d : Detector) : Detector :=
  { d with state := .opened, high := some pt, low := some pt, length := 1, closeRun := 0, saturated := saturated,
           gapped := false }

/-- A scan added to the open window (R96). -/
def Detector.extend (cfg : DetectFields) (pt : Point) (saturated : Bool) (d : Detector) : Detector :=
  { d with
    length := d.length + 1
    high := if (d.high.getD pt).y < pt.y then some pt else d.high
    low := if pt.y < (d.low.getD pt).y then some pt else d.low
    closeRun := if pt.y.natAbs < cfg.tClose then d.closeRun + 1 else 0
    saturated := d.saturated || saturated }

/-- The close run of a BLOCKED detector (R98). -/
def Detector.blockedScan (cfg : DetectFields) (pt : Point) (d : Detector) : Detector :=
  if pt.y.natAbs < cfg.tClose then
    if cfg.qClose ≤ d.closeRun + 1 then { d with state := .idle, closeRun := 0 } else { d with closeRun := d.closeRun + 1 }
  else { d with closeRun := 0 }

/-- The window step of a scan by the detector's state, with the window it closes (R95 to R98). -/
def Detector.window (cfg : DetectFields) (pt : Point) (saturated : Bool) (d : Detector) : Detector × Option ClosedWindow :=
  match d.state with
  | .idle => if cfg.tOpen ≤ pt.y.natAbs then (d.openWindow pt saturated, none) else (d, none)
  | .blocked => (d.blockedScan cfg pt, none)
  | .opened =>
    let d' := d.extend cfg pt saturated
    if cfg.qClose ≤ d'.closeRun then (d'.afterClose .idle, some (d'.close pt false false))
    else if cfg.lMax ≤ d'.length then (d'.afterClose .blocked, some (d'.close pt true false))
    else (d', none)

/-- The miss mark applied at the end of a scan's work: an open window is GAPPED, and the mark is cleared (R99). -/
def Detector.applyMiss (d : Detector) : Detector :=
  { d with gapped := d.gapped || (d.miss && decide (d.state = .opened)), miss := false }

/-- The detector's work on a scan (R95 to R99). -/
def Detector.scan (cfg : DetectFields) (pt : Point) (saturated : Bool) (d : Detector) : Detector × Option ClosedWindow :=
  ((d.window cfg pt saturated).1.applyMiss, (d.window cfg pt saturated).2)

/-- The extreme with the lower scan sequence number (R102). -/
def ClosedWindow.first (w : ClosedWindow) : Point := if w.low.seqNo.toNat < w.high.seqNo.toNat then w.low else w.high

/-- The other extreme (R102). -/
def ClosedWindow.second (w : ClosedWindow) : Point := if w.low.seqNo.toNat < w.high.seqNo.toNat then w.high else w.low

/-- The X of the vector from the first extreme to the second (R102). -/
def ClosedWindow.dx (w : ClosedWindow) : Int := w.second.x - w.first.x

/-- The Y of the vector from the first extreme to the second (R102). -/
def ClosedWindow.dy (w : ClosedWindow) : Int := w.second.y - w.first.y

/-- The amplitude of a window (R103). -/
def ClosedWindow.amplitude (w : ClosedWindow) : Nat := amplitudeOf w.dx w.dy

/-- The phase of a window (R104). -/
def ClosedWindow.phase (w : ClosedWindow) : Nat := phaseOf w.dx w.dy

/-- The position of a window (R106). -/
def ClosedWindow.pos (w : ClosedWindow) : Nat := clampPos ((w.first.pos + w.second.pos) / 2)

/-- The reference position of a landmark entry: nominal for MISSING, else measured (R109). -/
def LandmarkEntry.referencePos (e : LandmarkEntry) : Nat :=
  (if e.kind = .missing then e.nominal else e.measured).getD 0

/-- The reference landmark index of a record: its last listed entry (R109). -/
def Record.referenceIndex (r : Record) : Option Nat := if r.landmarks.isEmpty then none else some (r.landmarks.length - 1)

/-- The position offsets are taken from: that of the last listed entry, or the grid origin position (R109). -/
def Record.referencePos (r : Record) : Nat :=
  match r.landmarks.getLast? with
  | some e => e.referencePos
  | none => r.gridOrigin.getD 0

/-- The indication made from an accepted window, in a record whose accepted count has been raised (R108, R109). -/
def Record.indicationOf (curve : List CurvePoint) (w : ClosedWindow) (r : Record) : Indication :=
  { detIndex := r.counters.accepted, pos := w.pos, reference := r.referenceIndex, offset := (w.pos : Int) - r.referencePos,
    amplitude := w.amplitude, phase := w.phase, depth := depthOf curve w.phase, length := w.length, long := w.long,
    truncated := w.truncated, saturated := w.saturated, gapped := w.gapped }

/-- A measured window judged: small, gated, or accepted and placed; a truncated window that is accepted or gated sets
WINDOW_TRUNCATED (R101, R107, R108). -/
def Record.judge (cfg : DetectFields) (curve : List CurvePoint) (w : ClosedWindow) (r : Record) : Record :=
  if w.amplitude < cfg.aMin then r.countSmall
  else
    let marked := if w.truncated then r.setWindowTruncated else r
    if w.pos < cfg.gateLow ∨ cfg.gateHigh < w.pos then marked.countGated
    else marked.countAccepted.addIndication (marked.countAccepted.indicationOf curve w)

/-- A closed window judged into the open record of port `p`. -/
def judgeWindow (p : PortId) (w : ClosedWindow) (s : State) : State :=
  onOpen p (Record.judge (s.working p).detect (s.working p).curve w) s

/-- The point of the detect channel of a calibrated set (R94). -/
def CalibratedSet.point (c : CalibratedSet) (channel : Nat) : Point :=
  { x := (c.channel channel).x, y := (c.channel channel).y, seqNo := c.seqNo, pos := c.pos }

/-- The detector's work on the calibrated set of a DISTANCE scan (R94 to R99). -/
def detectScan (p : PortId) (c : CalibratedSet) (s : State) : State :=
  let cfg := (s.working p).detect
  let r := (s.port p).det.scan cfg (c.point cfg.channel) (c.channel cfg.channel).saturated
  let s' := onDet p (fun _ => r.1) s
  match r.2 with
  | some w => judgeWindow p w s'
  | none => s'

/-- Close step 1 for the detector: an open window closes TRUNCATED, and the detector is cleared (R101). -/
def finaliseDetector (p : PortId) (s : State) : State :=
  let d := (s.port p).det
  let cleared := onDet p (fun _ => Detector.clear) s
  match d.state with
  | .opened => judgeWindow p (d.close { x := 0, y := 0, seqNo := 0, pos := 0 } false true) cleared
  | .idle => cleared
  | .blocked => cleared

/-- A notice of a missed trigger point (R99). -/
def noticeMissDetector (p : PortId) : State → State := onDet p fun d => { d with miss := true }

end Sys2Proof.Machine
end

