-- ==== Sys2Proof/Machine/Landmark.lean ====
section
/-! DEFINITION. The landmark unit: the window, tube ends, the support map and its pointer, matching, the passing check
and the close steps (R113 to R129). -/

namespace Sys2Proof.Machine

/-- A closed landmark window (R117, R127). -/
structure ClosedLandmark where
  peak : Peak
  satLongest : Nat
  long : Bool
  truncated : Bool
  deriving DecidableEq, Repr

/-- The landmark unit with its window IDLE; pointer, correction and matched count stand (R117). -/
def LandmarkUnit.windowIdle (u : LandmarkUnit) : LandmarkUnit :=
  { LandmarkUnit.clear with pointer := u.pointer, correction := u.correction, matched := u.matched }

/-- A window opened by a scan (R115). -/
def LandmarkUnit.openWindow (pk : Peak) (saturated : Bool) (u : LandmarkUnit) : LandmarkUnit :=
  { u with window := .opened, length := 1, quiet := 0, peak := some pk, satRun := if saturated then 1 else 0,
           satLongest := if saturated then 1 else 0 }

/-- A scan added to the open window (R116). -/
def LandmarkUnit.extend (cfg : LandmarkPlan) (pk : Peak) (saturated : Bool) (u : LandmarkUnit) : LandmarkUnit :=
  let run := if saturated then u.satRun + 1 else 0
  { u with
    length := u.length + 1
    peak := if (u.peak.getD pk).absX < pk.absX then some pk else u.peak
    satRun := run
    satLongest := max u.satLongest run
    quiet := if pk.absX < cfg.lClose then u.quiet + 1 else 0 }

/-- The window held, closed. An open window always has a peak; `pk` stands where it is absent, in states no run
reaches (log entry 14). -/
def LandmarkUnit.close (u : LandmarkUnit) (pk : Peak) (long truncated : Bool) : ClosedLandmark :=
  { peak := u.peak.getD pk, satLongest := u.satLongest, long := long, truncated := truncated }

/-- The window step of a scan, with the window it closes (R115 to R117). -/
def LandmarkUnit.scan (cfg : LandmarkPlan) (pk : Peak) (saturated : Bool) (u : LandmarkUnit) :
    LandmarkUnit × Option ClosedLandmark :=
  match u.window with
  | .idle => if cfg.lOpen ≤ pk.absX then (u.openWindow pk saturated, none) else (u, none)
  | .opened =>
    let u' := u.extend cfg pk saturated
    if cfg.qLand ≤ u'.quiet then (u'.windowIdle, some (u'.close pk false false))
    else if Config.landmarkWindowMax ≤ u'.length then (u'.windowIdle, some (u'.close pk true false))
    else (u', none)

/-- Whether a closed window is a tube end: a saturation run of 4 scans or more (R118). -/
def ClosedLandmark.isTubeEnd (w : ClosedLandmark) : Bool := decide (Config.tubeEndRun ≤ w.satLongest)

/-! ### The support map -/

/-- The nominal position of a map index. -/
def nominal (supports : List Nat) (k : Nat) : Nat := supports.getD k 0

/-- The highest index, below `n`, of an entry at or below P0 (R119). -/
def pointerBelow (supports : List Nat) (p0 : Nat) : Nat → Option Nat
  | 0 => none
  | n + 1 => if nominal supports n ≤ p0 then some n else pointerBelow supports p0 n

/-- The pointer placed at OPEN_TUBE: the highest map entry at or below P0, or none (R119). -/
def placePointer (supports : List Nat) (p0 : Nat) : Option Nat := pointerBelow supports p0 supports.length

/-- Whether a position lies strictly below the entry of an index minus the tolerance (R120, R121, R128). -/
def passedBeyond (supports : List Nat) (tolerance : Nat) (pos : Int) (k : Nat) : Bool :=
  decide (pos < (nominal supports k : Int) - tolerance)

/-- The map indices a position has passed, from index `k` down, with the pointer that remains (R120, R121, R128). -/
def passFrom (supports : List Nat) (tolerance : Nat) (pos : Int) : Nat → List Nat × Option Nat
  | 0 => if passedBeyond supports tolerance pos 0 then ([0], none) else ([], some 0)
  | k + 1 =>
    if passedBeyond supports tolerance pos (k + 1) then
      let r := passFrom supports tolerance pos k
      ((k + 1) :: r.1, r.2)
    else ([], some (k + 1))

/-- The map indices a position has passed, with the pointer that remains. -/
def passEntries (supports : List Nat) (tolerance : Nat) (pos : Int) : Option Nat → List Nat × Option Nat
  | none => ([], none)
  | some k => passFrom supports tolerance pos k

/-- A MISSING entry (R124). -/
def missingEntry (supports : List Nat) (k : Nat) : LandmarkEntry :=
  { kind := .missing, mapIndex := some k, measured := none, nominal := some (nominal supports k), step := none, peak := none,
    long := false, truncated := false }

/-- The entry of a closed window that matches no map entry: TUBE_END or EXTRA (R118, R121, R124). -/
def ClosedLandmark.entry (w : ClosedLandmark) (kind : LandmarkKind) : LandmarkEntry :=
  { kind := kind, mapIndex := none, measured := some (clampPos w.peak.pos), nominal := none, step := none,
    peak := some w.peak.absX, long := w.long, truncated := w.truncated }

/-- The entry of a SUPPORT matched to an index, with its correction step (R121, R124). -/
def ClosedLandmark.supportEntry (w : ClosedLandmark) (supports : List Nat) (k : Nat) : LandmarkEntry :=
  { w.entry .support with
    mapIndex := some k, nominal := some (nominal supports k), step := some ((nominal supports k : Int) - w.peak.pos) }

/-- The pointer below an index (R121). -/
def pointerDown : Nat → Option Nat
  | 0 => none
  | k + 1 => some k

/-- The landmark unit after a match at an index: correction, matched count and pointer (R121). -/
def LandmarkUnit.matchAt (supports : List Nat) (pos : Int) (k : Nat) (u : LandmarkUnit) : LandmarkUnit :=
  { u with correction := u.correction + ((nominal supports k : Int) - pos), matched := u.matched + 1, pointer := pointerDown k }

/-- A support candidate judged against the map: entries passed, then a match or an EXTRA (R121). -/
def LandmarkUnit.judge (supports : List Nat) (tolerance : Nat) (w : ClosedLandmark) (u : LandmarkUnit) :
    LandmarkUnit × List LandmarkEntry :=
  let r := passEntries supports tolerance w.peak.pos u.pointer
  let missing := r.1.map (missingEntry supports)
  let u' := { u with pointer := r.2 }
  match r.2 with
  | none => (u', missing ++ [w.entry .extra])
  | some k =>
    if (w.peak.pos - (nominal supports k : Int)).natAbs ≤ tolerance then
      (u'.matchAt supports w.peak.pos k, missing ++ [w.supportEntry supports k])
    else (u', missing ++ [w.entry .extra])

/-- The passing check, also the test of close step 3: entries passed are listed as MISSING (R120, R128). -/
def LandmarkUnit.passing (supports : List Nat) (tolerance : Nat) (pos : Int) (u : LandmarkUnit) :
    LandmarkUnit × List LandmarkEntry :=
  let r := passEntries supports tolerance pos u.pointer
  ({ u with pointer := r.2 }, r.1.map (missingEntry supports))

/-- Landmarks handed to the record store one after the other (R124). -/
def listLandmarks (p : PortId) (es : List LandmarkEntry) : State → State := onOpen p (Record.addLandmarks es)

/-- A change of the landmark unit with the landmarks it lists. -/
def onLandEntries (p : PortId) (f : LandmarkUnit → LandmarkUnit × List LandmarkEntry) (s : State) : State :=
  listLandmarks p (f (s.port p).land).2 (onLand p (fun _ => (f (s.port p).land).1) s)

/-- A closed window classified and acted on: a tube end listed with END_SEEN, or a support candidate judged (R118,
R121). -/
def classifyWindow (p : PortId) (w : ClosedLandmark) (s : State) : State :=
  if w.isTubeEnd then onOpen p (fun r => (r.addLandmark (w.entry .tubeEnd)).setEndSeen) s
  else onLandEntries p (LandmarkUnit.judge (s.working p).supports (s.working p).landmark.tolerance w) s

/-- The landmark channel of a calibrated set as a possible peak (R114). -/
def CalibratedSet.peak (c : CalibratedSet) (channel : Nat) : Peak :=
  { absX := (c.channel channel).x.natAbs, seqNo := c.seqNo, pos := c.pos }

/-- Steps 1 and 2 of the landmark unit's work on a DISTANCE scan, and whether step 1 handled a tube end (R114). -/
def landmarkScan (p : PortId) (c : CalibratedSet) (s : State) : State × Bool :=
  let plan := s.working p
  let cfg := plan.landmark
  let r := (s.port p).land.scan cfg (c.peak cfg.channel) (c.channel cfg.channel).saturated
  let stepped := onLand p (fun _ => r.1) s
  let classified := match r.2 with
    | some w => classifyWindow p w stepped
    | none => stepped
  let checked := match r.1.window with
    | .idle => onLandEntries p (LandmarkUnit.passing plan.supports cfg.tolerance c.pos) classified
    | .opened => classified
  (checked, match r.2 with
    | some w => w.isTubeEnd
    | none => false)

/-- Close step 1 for the landmark unit: an open window closes TRUNCATED and is classified (R127). -/
def finaliseLandmark (p : PortId) (s : State) : State :=
  let u := (s.port p).land
  match u.window with
  | .idle => s
  | .opened =>
    classifyWindow p (u.close { absX := 0, seqNo := 0, pos := 0 } false true) (onLand p LandmarkUnit.windowIdle s)

/-- The final corrected position of a record that reached ACQUIRING, unclamped (R128). DEDUCED (log entry 12): the grid
origin position stands here as floor(G / 100), as in R66. Unsafe where the origin lies beyond 0 to 300,000. -/
def finalPosition (b : PortBlocks) : Int :=
  (match b.travel.lastScan, b.travel.grid with
    | some l, _ => toTenths l.trigger
    | none, some g => toTenths g.origin
    | none, none => 0) + b.land.correction

/-- Close step 3: in ACQUIRING the map entries passed by the end of the tube are listed as MISSING (R128). -/
def listPassed (p : PortId) (s : State) : State :=
  if s.mode p = .acquiring then
    onLandEntries p (LandmarkUnit.passing (s.working p).supports (s.working p).landmark.tolerance (finalPosition (s.port p))) s
  else s

/-- The count of supports not reached: the pointer plus 1, or 0 (R128). -/
def LandmarkUnit.notReached (u : LandmarkUnit) : Nat :=
  match u.pointer with
  | none => 0
  | some k => k + 1

/-- The landmark unit once the record store has taken its closing values (R128). -/
def LandmarkUnit.afterRecord (u : LandmarkUnit) : LandmarkUnit := { u with correction := 0, matched := 0, pointer := none }

/-- An OPERATOR entry at a position (R124, R126). -/
def operatorEntry (pos : Nat) : LandmarkEntry :=
  { kind := .operator, mapIndex := none, measured := some pos, nominal := none, step := none, peak := none, long := false,
    truncated := false }

end Sys2Proof.Machine
end

