-- ==== Sys2Proof/Machine/PortCtl.lean ====
section
/-! DEFINITION. The port controller: transitions with their entry actions, the end of a scan, the close of a record, the
coil fault, the clearing of a port and RESET (R1 to R19, R52, R66, R67, R143). -/

namespace Sys2Proof.Machine

/-! ### Stopping and clearing the blocks of a port -/

/-- Every run count at 0. -/
def zeroRuns : List Nat := List.replicate Config.rawChannels 0

/-- The sequencer with no scan, no timer, no owed or held start and no close hold; tables and sequence number stand
(R50, R52). -/
def Sequencer.stop (q : Sequencer) : Sequencer :=
  { q with scan := none, timer := none, owed := false, held := none, closeHold := false }

/-- The travel unit with grid, low-water mark, run, last started point and last completed scan absent (R55, R61). -/
def TravelUnit.noGrid (u : TravelUnit) : TravelUnit :=
  { u with grid := none, low := none, run := none, lastStarted := none, lastScan := none }

/-- The travel unit at its reset values; the quadrature state is loaded at PORT_ENABLE, and the speeds stand (R7, R55,
R70). -/
def TravelUnit.cleared (u : TravelUnit) : TravelUnit :=
  { u.noGrid with
    track1 := .atInput u.track1.input, track2 := .atInput u.track2.input, raw := 0, startAcc := 0, pushAcc := 0,
    reversalMark := false, illegal := 0 }

/-- The blocks of a port as R7 clears them. -/
def PortBlocks.cleared (b : PortBlocks) : PortBlocks :=
  { b with
    ctl := { b.ctl with runs := zeroRuns, fault := none }
    seq := { b.seq.stop with seqNo := 0 }
    travel := b.travel.cleared
    chan := { b.chan with held := [], accum := none }
    det := .clear
    land := .clear
    stream := .clear }

/-- The scan in flight ended, with the samples held for it (R52). -/
def endScan (p : PortId) (s : State) : State :=
  onChan p (fun c => { c with held := [] }) (onSeq p Sequencer.stop s)

/-! ### Transitions (R1, R3, R15) -/

/-- The port state written, with the previous state and the last cause (R1). -/
def transition (p : PortId) (new : PortMode) (cause : Cause) : State → State :=
  onCtl p fun c => { c with mode := new, previous := c.mode, lastCause := cause }

/-- What leaving a scanning state does to the stream unit (R3). -/
def leaveScanning (p : PortId) (s : State) : State := if (s.mode p).scanning then discardGroup p s else s

/-- What leaving ARMED or ACQUIRING for a state at rest does to the travel unit (R55). -/
def leaveTube (p : PortId) (s : State) : State := if (s.mode p).hasRecord then onTravel p TravelUnit.noGrid s else s

/-- The entry actions of IDLE and FAULT on the port controller: run counts 0, and in IDLE no fault detail (R1, R3). -/
def PortController.rest (new : PortMode) (c : PortController) : PortController :=
  { c with runs := zeroRuns, fault := if new = .idle then none else c.fault }

/-- A port brought to IDLE or FAULT: what it leaves, the entry actions, the transition (R3). -/
def rest (p : PortId) (new : PortMode) (cause : Cause) (s : State) : State :=
  transition p new cause (onCtl p (PortController.rest new) (onSeq p Sequencer.stop (leaveTube p (leaveScanning p s))))

/-- The STATE event of a transition that has been made (R15). -/
def stateEvent (p : PortId) (cause : Cause) (record : Option Nat) (s : State) : State :=
  report (.portEvent { portEvent s p .state cause with record := record }) s

/-- Entry to IDLE: the transition, its event, then a pending promotion (R3, R31). -/
def enterIdle (p : PortId) (cause : Cause) (record : Option Nat) (s : State) : State :=
  promoteIfPending p (stateEvent p cause record (rest p .idle cause s))

/-! ### The OVERSPEED gap (R65 to R67) -/

/-- The missed-trigger run with a point answered MISSED (R65). -/
def runWithMiss (run : Option MissedRun) (pos : Int) : MissedRun :=
  match run with
  | none => { first := pos, last := pos, count := 1 }
  | some r => { r with last := pos, count := r.count + 1 }

/-- The missed-trigger run with a point counted as missed at the close (R67). -/
def runWithLost (run : Option MissedRun) (pos : Int) : MissedRun :=
  match run with
  | none => { first := pos, last := pos, count := 1 }
  | some r => { r with count := r.count + 1 }

/-- The start of an OVERSPEED gap: the last completed scan, or the grid origin position with the correction now in
force (R66). -/
def gapStart (b : PortBlocks) : Nat :=
  match b.travel.lastScan, b.travel.grid with
  | some l, _ => clampPos l.corrected
  | none, some g => clampPos (toTenths g.origin + b.land.correction)
  | none, none => clampPos b.land.correction

/-- The gap of a run that ends at a trigger position (R66). -/
def overspeedGap (b : PortBlocks) (r : MissedRun) (stop : Int) : Gap :=
  { kind := .overspeed, start := gapStart b, stop := clampPos (toTenths stop + b.land.correction), count := r.count }

/-- The gap of a run written into the open record, the run then absent (R66). -/
def writeRun (p : PortId) (r : MissedRun) (stop : Int) (s : State) : State :=
  onTravel p (fun u => { u with run := none }) (onOpen p (Record.addGap (overspeedGap (s.port p) r stop)) s)

/-- The fired point whose scan will not complete, where the port closes its record now: the point of a DISTANCE scan in
flight, or point 0 while its start is held (R67). -/
def lostPoint (s : State) (p : PortId) : Option Int :=
  match s.mode p, (s.port p).seq.scan with
  | .acquiring, some sc => if sc.kind = .distance then some sc.startPos else (s.port p).seq.held
  | .acquiring, none => (s.port p).seq.held
  | _, _ => none

/-- A lost point counted as missed (R67). -/
def countLost (p : PortId) (lost : Option Int) (s : State) : State :=
  match lost with
  | none => s
  | some pos => onTravel p (fun u => { u with run := some (runWithLost u.run pos) }) (onOpen p Record.countMissed s)

/-- The travel unit's part of close step 2: the lost point counted, and a run present written (R67). -/
def writeLastRun (p : PortId) (lost : Option Int) (s : State) : State :=
  let s' := countLost p lost s
  match (s'.port p).travel.run with
  | none => s'
  | some r => writeRun p r r.last s'

/-! ### The close of a record (R143) -/

/-- The closing fields of the header (R143, step 4). -/
def Record.close (reason : CloseReason) (mode : PortMode) (b : PortBlocks) (r : Record) : Record :=
  { r with
    closeReason := some reason
    finalPos := some (if mode = .armed then r.p0 else clampPos (finalPosition b))
    finalCorrection := some (if mode = .armed then 0 else b.land.correction)
    matched := some b.land.matched
    notReached := some b.land.notReached }

/-- Steps 1 to 3 of a close: the detectors finalised, the gaps written, the passed map entries listed (R143). -/
def closeProducers (p : PortId) (lost : Option Int) (s : State) : State :=
  listPassed p (writeStreamGap p (writeLastRun p lost (finaliseLandmark p (finaliseDetector p s))))

/-- Step 4 of a close: the header completed, and the landmark unit's values given up (R143, R128). -/
def closeHeader (p : PortId) (reason : CloseReason) (s : State) : State :=
  onLand p LandmarkUnit.afterRecord (onOpen p (Record.close reason (s.mode p) (s.port p)) s)

/-- Steps 1 to 6 of a close of the open record of port `p` (R143 to R145). -/
def closeRecord (p : PortId) (reason : CloseReason) (lost : Option Int) (s : State) : State :=
  match s.openNumber p with
  | none => s
  | some n =>
    answerHeld .closeTube p (.done (.closed n reason))
      (report (.recordReady p n reason) (readyRecord p (closeHeader p reason (closeProducers p lost s))))

/-- A close that brings the port to IDLE (R143, step 7). -/
def closeToIdle (p : PortId) (reason : CloseReason) (cause : Cause) (s : State) : State :=
  enterIdle p cause (s.openNumber p) (closeRecord p reason (lostPoint s p) s)

/-! ### The coil fault (R10) -/

/-- A null operation abandoned: the accumulation absent, the held request answered (R89). -/
def abandonNull (p : PortId) (s : State) : State :=
  answerHeld .nullChannels p (.refused .aborted none) (onChan p (fun c => { c with accum := none }) s)

/-- What a coil fault or PORT_DISABLE brings to an end, by the state of the port: a null operation or a record (R6 and
R10, steps 1 to 4). -/
def endOperation (p : PortId) (reason : CloseReason) (s : State) : State :=
  match s.mode p with
  | .nulling => abandonNull p (endScan p s)
  | .armed => closeRecord p reason (lostPoint s p) (endScan p s)
  | .acquiring => closeRecord p reason (lostPoint s p) (endScan p s)
  | .off => endScan p s
  | .idle => endScan p s
  | .fault => endScan p s

/-- The COIL_FAULT event of a fault that has been declared (R15). -/
def coilFaultEvent (p : PortId) (d : FaultDetail) (s : State) : State :=
  report (.portEvent { portEvent s p .coilFault .coilFault with
    record := d.record, slot := some d.slot, status := some d.status, declaredIn := some d.declaredIn }) s

/-- A coil fault declared on a slot (R10). -/
def coilFault (p : PortId) (slot : Nat) (status : DriveStatus) (s : State) : State :=
  let d : FaultDetail := { slot := slot, status := status, declaredIn := s.mode p, record := s.openNumber p }
  let stopped := driveAbort p .portFault (endOperation p .fault (onCtl p (fun c => { c with fault := some d }) s))
  promoteIfPending p (coilFaultEvent p d (rest p .fault .coilFault stopped))

/-! ### PORT_DISABLE and RESET (R6, R7, R19, R186) -/

/-- Steps 1 to 7 of PORT_DISABLE outside OFF (R6). -/
def disablePort (p : PortId) (s : State) : State :=
  let n := s.openNumber p
  let stopped := driveAbort p .portOff (endOperation p .disabled s)
  promoteIfPending p (stateEvent p .disable n (transition p .off .disable (onPort p PortBlocks.cleared stopped)))

/-- The drive channel under RESET: halted, with no limit sent; its event follows the RESET (R152, R160). -/
def DriveChannel.resetHalt (d : DriveChannel) : DriveChannel := { d.halt with lastLimit := none }

/-- What RESET does to one port (R19). -/
def resetPort (s : State) (p : PortId) : State :=
  let cleared := onPort p PortBlocks.cleared (onDrive p DriveChannel.resetHalt s)
  let off := transition p .off .reset cleared
  if (s.port p).plan.pending then promote p none off else off

/-- The link controller at the end of a RESET: no reports, counters 0, port D last served (R186). -/
def LinkController.afterReset (l : LinkController) : LinkController :=
  { l with reports := [], counters := { crcDiscards := 0, framingDiscards := 0, reportsLost := 0, refusalsNotSent := 0 },
           lastServed := .d }

/-- The ABORTED event of a drive channel after a RESET (R160, R186). -/
def resetEvent (s : State) (p : PortId) : State :=
  report (.driveEvent p ((s.port p).drive.event (.aborted .reset none))) s

/-- RESET after its replies: the ports in order, the record pool, the link controller, the four events (R19, R149,
R186). DESIGN CHOICE (log entry 26): the events stand in port order. Safe: the manual gives no order of the four. -/
def resetPart (s : State) : State :=
  allPorts.foldl resetEvent
    (onLink LinkController.afterReset (onStore (fun _ => RecordStore.empty) (allPorts.foldl resetPort s)))

end Sys2Proof.Machine
end

