-- ==== Sys2Proof/Machine/Scan.lean ====
section
/-! DEFINITION. Scans: their starts, their phases, the raw sample, calibration, the null operation and the completion
of a scan (R37 to R54, R74 to R92). -/

namespace Sys2Proof.Machine

/-! ### Starting a scan (R41, R48) -/

/-- A scan begun at slot 0 in its switch phase (R41, R42). -/
def Sequencer.beginScan (now : Nat) (kind : ScanKind) (startPos : Int) (q : Sequencer) : Sequencer :=
  { q with scan := some { kind := kind, startPos := startPos, slot := 0, phase := .switch,
                          phaseEnd := now + Config.switchTicks } }

/-- A TIME scan begun at the raw position, with the period timer restarted (R41, R48). -/
def startTimeScan (p : PortId) (s : State) : State :=
  onPort p (fun b =>
    { b with seq := { b.seq.beginScan s.now .time b.travel.raw with
                      timer := some (s.now + b.plan.working.travel.period * Config.ticksPerMicro) } }) s

/-- A DISTANCE scan begun at a trigger position (R41). -/
def startDistanceScan (p : PortId) (pos : Int) (s : State) : State :=
  onSeq p (Sequencer.beginScan s.now .distance pos) s

/-- Time-mode scanning started on entry to NULLING or ARMED (R47, R48). -/
def startTimeMode (p : PortId) (s : State) : State :=
  startTimeScan p (onSeq p (fun q => { q with seqNo := 0, owed := false, held := none, closeHold := false }) s)

/-! ### The phases of a slot (R42) -/

/-- The slot in force that a scan is at; a slot outside the table is never reached. -/
def Sequencer.slotAt (q : Sequencer) (k : Nat) : SlotInForce :=
  q.slots.getD k { period := 0, mode := .diff, settle := 0, integrate := 0, slotTime := 0 }

/-- The scan with a slot's integrate phase begun (R42). -/
def Scan.toIntegrate (e : SlotInForce) (sc : Scan) : Scan :=
  { sc with phase := .integrate, phaseEnd := sc.phaseEnd + e.integrate * e.period }

/-- The scan at the end of the switch: settle, or with settle 0 integrate at once (R42). -/
def Scan.afterSwitch (e : SlotInForce) (sc : Scan) : Scan :=
  if e.settle = 0 then sc.toIntegrate e else { sc with phase := .settle, phaseEnd := sc.phaseEnd + e.settle * e.period }

/-- The scan at the switch of its next slot (R42). -/
def Scan.nextSlot (sc : Scan) : Scan :=
  { sc with slot := sc.slot + 1, phase := .switch, phaseEnd := sc.phaseEnd + Config.switchTicks }

/-- The scan in flight of port `p`, where it is in a phase. -/
def inPhase (s : State) (p : PortId) (phase : ScanPhase) : Option Scan :=
  (s.port p).seq.scan.filter fun sc => sc.phase = phase

/-- The end of a phase of the scan in flight; without such a phase nothing ends (log entry 4). -/
def endPhase (p : PortId) (phase : ScanPhase) (f : SlotInForce → Scan → Scan) (s : State) : State :=
  match inPhase s p phase with
  | none => s
  | some sc => onSeq p (fun q => { q with scan := some (f (q.slotAt sc.slot) sc) }) (advance sc.phaseEnd s)

/-! ### The raw sample and its delivery (R9, R43 to R45) -/

/-- The drive status of a condition found (R44). -/
def faultStatus : DriveFault → DriveStatus
  | .openLead => .openLead
  | .short => .short

/-- The drive status of a slot: the condition found first, or OK (R44). -/
def statusOf (found : List DriveFault) : DriveStatus :=
  match found with
  | [] => .ok
  | f :: _ => faultStatus f

/-- The raw sample of a slot (R43). -/
def sampleOf (slot : Nat) (x y : Int) (clipped : Bool) (found : List DriveFault) : Sample :=
  { slot := slot, x := clampSample x, y := clampSample y,
    saturated := clipped || decide (clampSample x ≠ x) || decide (clampSample y ≠ y), status := statusOf found }

/-- The run count of a slot after a sample (R9). -/
def countAfter (status : DriveStatus) (count : Nat) : Nat :=
  match status with
  | .ok => 0
  | .openLead => count + 1
  | .short => count + 1

/-- The run counts after a sample (R9). -/
def runsAfter (e : Sample) (runs : List Nat) : List Nat := runs.set e.slot (countAfter e.status (runs.getD e.slot 0))

/-! ### Calibration (R76 to R82) -/

/-- The calibrated value of a raw sample: null subtraction, rotation, gain, clamp (R77 to R80). -/
def rawValue (nulls : List NullEntry) (cal : List CalFields) (e : Sample) : ChannelValue :=
  let n := nulls.getD e.slot { x0 := 0, y0 := 0, balanced := false }
  let c := cal.getD e.slot { rotation := 0, gain := 256 }
  let v := shape c.rotation c.gain (e.x - n.x0) (e.y - n.y0)
  { v with saturated := e.saturated || v.saturated }

/-- A weighted secondary value in Q2.14, to the nearest integer (R81). -/
def weighted (kx ky : Int) (v : ChannelValue) : Int := (kx * v.x + ky * v.y + 8192) / 16384

/-- The calibrated value of a mix entry from its two inputs (R81, R82). -/
def mixOf (m : MixFields) (a b : ChannelValue) : ChannelValue :=
  let v := shape m.rotation m.gain (a.x - weighted m.kxx m.kxy b) (a.y - weighted m.kyx m.kyy b)
  { v with saturated := a.saturated || b.saturated || v.saturated }

/-- The calibrated value of a mix entry; its inputs exist by commit validation (R26; log entry 14). -/
def mixValue (raw : List ChannelValue) (m : MixFields) : ChannelValue :=
  let none0 : ChannelValue := { x := 0, y := 0, saturated := false }
  mixOf m (raw.getD m.primary none0) (raw.getD m.secondary none0)

/-- The calibrated set of a scan's held samples (R76). -/
def calibrate (nulls : List NullEntry) (plan : Plan) (samples : List Sample) (seqNo : BitVec 32) (kind : ScanKind)
    (pos : Int) : CalibratedSet :=
  let raw := samples.map (rawValue nulls plan.cal)
  { seqNo := seqNo, kind := kind, pos := pos, raw := raw, mix := plan.mix.map (Option.map (mixValue raw)) }

/-! ### The null operation (R85 to R88) -/

/-- The accumulation at the start of a null operation (R85). -/
def NullAccumulation.start (slots : Nat) : NullAccumulation :=
  { count := 0, sums := List.replicate slots { x := 0, y := 0, saturated := false } }

/-- The raw values of a sample as the accumulation takes them (R86). -/
def Sample.value (e : Sample) : ChannelValue := { x := e.x, y := e.y, saturated := e.saturated }

/-- A null scan added to the accumulation (R86). -/
def NullAccumulation.add (samples : List Sample) (a : NullAccumulation) : NullAccumulation :=
  { count := a.count + 1, sums := List.zipWith ChannelValue.add a.sums (samples.map Sample.value) }

/-- An entry of the null table written from its sum (R87). -/
def nulledEntry (e : NullEntry) (sum : ChannelValue) : NullEntry :=
  if sum.saturated then { e with balanced := false }
  else { x0 := (sum.x + 8) / 16, y0 := (sum.y + 8) / 16, balanced := true }

/-- The null table written for the channels that have a sum (R87). -/
def nulledTable : List NullEntry → List ChannelValue → List NullEntry
  | [], _ => []
  | es, [] => es
  | e :: es, sum :: sums => nulledEntry e sum :: nulledTable es sums

/-- The channels whose sum carries the saturation mark, from channel `k` on (R88). -/
def saturatedFrom (k : Nat) : List ChannelValue → List Nat
  | [] => []
  | v :: rest => if v.saturated then k :: saturatedFrom (k + 1) rest else saturatedFrom (k + 1) rest

/-- The completion of a null operation (R87, R88). -/
def completeNull (p : PortId) (a : NullAccumulation) (s : State) : State :=
  let nulls := nulledTable (s.port p).chan.nulls a.sums
  let written := onChan p (fun c => { c with nulls := nulls, accum := none }) s
  enterIdle p .nullDone none
    (answerHeld .nullChannels p (.done (.nulled (nulls.take a.sums.length) (saturatedFrom 0 a.sums))) written)

/-- The null accumulation's work on a completed scan (R86, R87). -/
def nullScan (p : PortId) (samples : List Sample) (s : State) : State :=
  match (s.port p).chan.accum with
  | none => s
  | some a =>
    let a' := a.add samples
    if a'.count < Config.nullScans then onChan p (fun c => { c with accum := some a' }) s else completeNull p a' s

/-! ### The completion of a scan (R46, R60, R83) -/

/-- The corrected position of a scan, unclamped (R60). -/
def correctedPos (b : PortBlocks) (startPos : Int) : Int := toTenths startPos + b.land.correction

/-- Steps 1 and 2 of a completion: the scan numbered and removed (R46, R47). -/
def Sequencer.complete (q : Sequencer) : Sequencer := { q with scan := none, seqNo := q.seqNo + 1 }

/-- A DISTANCE scan noted by the record store and the travel unit (R138, R60). DEDUCED (log entry 13): both are done
before the consumers have the scan. Safe: no consumer reads the last completed scan but a close of that completion,
which R128 has count this scan. -/
def noteScan (p : PortId) (sc : Scan) (pos : Int) (s : State) : State :=
  match sc.kind with
  | .time => s
  | .distance =>
    onTravel p (fun u => { u with lastScan := some { trigger := sc.startPos, corrected := pos } }) (onOpen p Record.countScan s)

/-- The landmark unit's turn: its work on the scan, and the close of a tube end with auto-close ON (R114, R118). -/
def landmarkTurn (p : PortId) (c : CalibratedSet) (s : State) : State :=
  let r := landmarkScan p c s
  if r.2 && (s.working p).landmark.autoClose then closeToIdle p .tubeEnd .closeTubeEnd r.1 else r.1

/-- Whether a consumer or check of DISTANCE scans takes this scan: the port is still in ACQUIRING (R83, R72). -/
def takesDistance (s : State) (p : PortId) (kind : ScanKind) : Bool := decide (kind = .distance) && decide (s.mode p = .acquiring)

/-- The exit check (R72). -/
def exitCheck (p : PortId) (kind : ScanKind) (pos : Int) (s : State) : State :=
  if takesDistance s p kind && decide (pos ≤ (s.working p).landmark.exitPos) then closeToIdle p .exit .closeExit s else s

/-- The close held for the scan (R53, R142). -/
def heldClose (p : PortId) (s : State) : State :=
  if (s.port p).seq.closeHold && (s.mode p).hasRecord then closeToIdle p .host .closeHost s else s

/-- The consumers' work on a calibrated set in the order of R83, then the exit check and the held close. -/
def consume (p : PortId) (c : CalibratedSet) (samples : List Sample) (s : State) : State :=
  let streamed := streamScan p c s
  let nulled := if streamed.mode p = .nulling then nullScan p samples streamed else streamed
  let detected := if takesDistance nulled p c.kind then detectScan p c nulled else nulled
  let landmarked := if takesDistance detected p c.kind then landmarkTurn p c detected else detected
  heldClose p (exitCheck p c.kind c.pos landmarked)

/-- Step 4 of a completion: an owed or a held start acted on, or cleared where the port scans no more (R46, R49, R50). -/
def nextStart (p : PortId) (s : State) : State :=
  let q := (s.port p).seq
  match s.mode p with
  | .nulling => if q.owed && !q.closeHold then startTimeScan p (onSeq p (fun q => { q with owed := false }) s) else s
  | .armed => if q.owed && !q.closeHold then startTimeScan p (onSeq p (fun q => { q with owed := false }) s) else s
  | .acquiring =>
    match q.held with
    | some pos => startDistanceScan p pos (onSeq p (fun q => { q with held := none }) s)
    | none => s
  | .off => onSeq p (fun q => { q with owed := false, held := none }) s
  | .idle => onSeq p (fun q => { q with owed := false, held := none }) s
  | .fault => onSeq p (fun q => { q with owed := false, held := none }) s

/-- The completion of a scan (R46). -/
def completeScan (p : PortId) (sc : Scan) (s : State) : State :=
  let b := s.port p
  let pos := correctedPos b sc.startPos
  let c := calibrate b.chan.nulls b.plan.working b.chan.held b.seq.seqNo sc.kind pos
  let removed := onChan p (fun ch => { ch with held := [] }) (onSeq p Sequencer.complete s)
  nextStart p (consume p c b.chan.held (noteScan p sc pos removed))

/-- A sample passed on to the channel processor, then the next slot or the completion (R45, R75). -/
def passSample (p : PortId) (sc : Scan) (e : Sample) (s : State) : State :=
  let held := onChan p (fun c => { c with held := c.held ++ [e] }) s
  if sc.slot + 1 < (s.port p).seq.slots.length then onSeq p (fun q => { q with scan := some sc.nextSlot }) held
  else completeScan p sc held

/-- The end of a slot's integration (R45, R9, R10). -/
def deliver (p : PortId) (sc : Scan) (e : Sample) (s : State) : State :=
  let counted := onCtl p (fun c => { c with runs := runsAfter e c.runs }) s
  if Config.coilFaultRun ≤ (counted.port p).ctl.runs.getD e.slot 0 then coilFault p e.slot e.status counted
  else passSample p sc e counted

/-- The expiry of the time-mode period timer at the tick it held (R49). -/
def timeExpiry (p : PortId) (at0 : Nat) (s : State) : State :=
  let stopped := onSeq p (fun q => { q with timer := none }) (advance at0 s)
  if s.mode p = .nulling ∨ s.mode p = .armed then
    match (s.port p).seq.scan with
    | some _ => onSeq p (fun q => { q with owed := true }) stopped
    | none => if (s.port p).seq.closeHold then stopped else startTimeScan p stopped
  else stopped

end Sys2Proof.Machine
end

