-- ==== Sys2Proof/Machine/PortRequests.lean ====
section
/-! DEFINITION. The requests to a port controller: PORT_ENABLE, PORT_DISABLE, CLEAR_FAULT, PORT_STATUS and
NULL_CHANNELS (R5, R6, R12, R17, R85). -/

namespace Sys2Proof.Machine

/-- The quadrature state loaded from the filtered levels (R5). -/
def TravelUnit.loadQuad (u : TravelUnit) : TravelUnit := { u with quad := u.levels }

/-- PORT_ENABLE on a port (R5). -/
def enableRequest (p : PortId) (place : Nat) (s : State) : State :=
  if s.mode p = .off then
    replyDone place (.entered .idle) (enterIdle p .enable none (onTravel p TravelUnit.loadQuad s))
  else replyRefused place .badState s

/-- PORT_DISABLE on a port (R6). DESIGN CHOICE (log entry 20): taken in OFF its DONE carries the state OFF. Unsafe: R6
and R189 give no item for that reply. -/
def disableRequest (p : PortId) (place : Nat) (s : State) : State :=
  if s.mode p = .off then replyDone place (.left .off) s else replyDone place (.left (s.mode p)) (disablePort p s)

/-- CLEAR_FAULT on a port (R12). -/
def clearRequest (p : PortId) (place : Nat) (s : State) : State :=
  if s.mode p = .fault then replyDone place .nothing (enterIdle p .clear none s) else replyRefused place .badState s

/-- The run counts as PORT_STATUS shows them: 0 beyond the slot table in force (R17). -/
def shownRuns (slots : Nat) (runs : List Nat) : List Nat := runs.zipIdx.map fun (n, k) => if k < slots then n else 0

/-- What PORT_STATUS carries (R17). -/
def statusView (s : State) (p : PortId) : PortStatusView :=
  let b := s.port p
  { mode := b.ctl.mode
    previous := b.ctl.previous
    lastCause := b.ctl.lastCause
    fault := b.ctl.fault
    runs := shownRuns b.seq.slots.length b.ctl.runs
    closePending := b.seq.closeHold
    nullProgress := if b.ctl.mode = .nulling then b.chan.accum.map NullAccumulation.count else none
    openRecord := s.openNumber p
    seqNo := b.seq.seqNo
    rawTenths := clampPos (toTenths b.travel.raw)
    corrected := if b.ctl.mode = .acquiring then b.travel.lastScan.map (fun l => clampPos l.corrected) else none
    generation := b.plan.generation
    pending := b.plan.pending
    drive := b.drive.state }

/-- PORT_STATUS on a port (R17). -/
def statusRequest (p : PortId) (place : Nat) (s : State) : State := replyDone place (.portStatus (statusView s p)) s

/-- Entry to NULLING (R85, R3). -/
def enterNulling (p : PortId) (s : State) : State :=
  let accum := onChan p (fun c => { c with accum := some (NullAccumulation.start (s.port p).seq.slots.length) }) s
  stateEvent p .nullStart none (startTimeMode p (transition p .nulling .nullStart accum))

/-- NULL_CHANNELS on a port; it is answered when the operation ends (R85). -/
def nullRequest (p : PortId) (place : Nat) (s : State) : State :=
  if s.mode p = .idle then enterNulling p s else replyRefused place .badState s

/-- PORT_ENABLE. -/
def execPortEnable (tag port : Byte) (s : State) : Host.Outcome State Fault Refusal :=
  serveOnPort (.portEnable tag port) .portEnable tag port enableRequest s

/-- PORT_DISABLE. -/
def execPortDisable (tag port : Byte) (s : State) : Host.Outcome State Fault Refusal :=
  serveOnPort (.portDisable tag port) .portDisable tag port disableRequest s

/-- CLEAR_FAULT. -/
def execClearFault (tag port : Byte) (s : State) : Host.Outcome State Fault Refusal :=
  serveOnPort (.clearFault tag port) .clearFault tag port clearRequest s

/-- PORT_STATUS. -/
def execPortStatus (tag port : Byte) (s : State) : Host.Outcome State Fault Refusal :=
  serveOnPort (.portStatus tag port) .portStatus tag port statusRequest s

/-- NULL_CHANNELS. -/
def execNullChannels (tag port : Byte) (s : State) : Host.Outcome State Fault Refusal :=
  serveOnPort (.nullChannels tag port) .nullChannels tag port nullRequest s

end Sys2Proof.Machine
end

