-- ==== Sys2Proof/Machine/Travel.lean ====
section
/-! DEFINITION. The travel unit's work on counted edges: start travel, the entry to ACQUIRING, the trigger grid, taken
and missed points, reversals, speed and the speed guard (R4, R58, R61 to R65, R68 to R71). -/

namespace Sys2Proof.Machine

/-! ### The preset of a tube (R61) -/

/-- The travel unit preset for a tube at P0 (R61). -/
def TravelUnit.preset (p0 : Nat) (u : TravelUnit) : TravelUnit :=
  { u.noGrid with raw := (p0 : Int) * 100, startAcc := 0, pushAcc := 0, reversalMark := false, illegal := 0 }

/-! ### Fired points (R51, R65, R69, R71) -/

/-- The speed of a captured interval, in mm/s: step over whole microseconds (R69). -/
def capturedSpeed (step ticks : Nat) : Nat := step * 1000 / (ticks / Config.ticksPerMicro)

/-- The capture of the interval between point `n` and the point started before it (R69). -/
def captureSpeed (p : PortId) (n : Nat) (s : State) : State :=
  match (s.port p).travel.lastStarted with
  | none => s
  | some st =>
    if st.index + 1 = n then
      onOpen p (Record.raiseSpeed (capturedSpeed (s.working p).travel.step (s.now - st.firedAt))) s
    else s

/-- A run present ended at a TAKEN point, its gap written (R65, R66). -/
def endRun (p : PortId) (pos : Int) (s : State) : State :=
  match (s.port p).travel.run with
  | none => s
  | some r => writeRun p r pos s

/-- A point answered TAKEN (R51, R65). -/
def takePoint (p : PortId) (n : Nat) (pos : Int) (s : State) : State :=
  startDistanceScan p pos
    (onTravel p (fun u => { u with lastStarted := some { index := n, firedAt := s.now } }) (captureSpeed p n (endRun p pos s)))

/-- The flag OVERSPEED set at the first miss of a record, with its event (R65, R16). -/
def noteOverspeed (p : PortId) (s : State) : State :=
  match s.openRecord p with
  | none => s
  | some r =>
    if r.flags.overspeed then s
    else
      report (.portEvent { portEvent s p .overspeed .missedTrigger with record := some r.number })
        (onOpen p Record.setOverspeed s)

/-- The limit value: the guard limit brought into the speed range of the drive line (R70). -/
def limitValue (u : TravelUnit) : Nat := clampTo Config.speedMin Config.speedMax u.guardLimit

/-- Whether a limit request is made: guard ON, channel MOVING, and the last limit sent none or greater (R71). -/
def guardActs (b : PortBlocks) : Bool :=
  b.plan.working.travel.speedGuard && decide (b.drive.state = .moving) &&
    (match b.drive.lastLimit with
     | none => true
     | some v => decide (limitValue b.travel < v))

/-- The speed guard at a miss (R71, R159). -/
def speedGuard (p : PortId) (s : State) : State :=
  if guardActs (s.port p) then onDriveEvents p (DriveChannel.sendLimit (limitValue (s.port p).travel)) s else s

/-- The travel unit with a point answered MISSED (R65). -/
def TravelUnit.miss (pos : Int) (u : TravelUnit) : TravelUnit :=
  { u with run := some (runWithMiss u.run pos), lastStarted := none }

/-- The notices of a miss to the detector and the stream unit (R65, R99, R169). -/
def noticeMiss (p : PortId) (s : State) : State :=
  onStream p (fun u => { u with miss := true }) (noticeMissDetector p s)

/-- A point answered MISSED (R65). -/
def missPoint (p : PortId) (pos : Int) (s : State) : State :=
  speedGuard p (noticeMiss p (noteOverspeed p (onTravel p (TravelUnit.miss pos) (onOpen p Record.countMissed s))))

/-- Whether the sequencer answers a start TAKEN (R51). -/
def Sequencer.takes (q : Sequencer) : Bool := q.scan.isNone && q.held.isNone && !q.closeHold

/-- A fired point handed to the sequencer, and its answer acted on (R51, R65). -/
def firePoint (p : PortId) (n : Nat) (pos : Int) (s : State) : State :=
  if (s.port p).seq.takes then takePoint p n pos s else missPoint p pos s

/-! ### Entry to ACQUIRING (R4, R50, R63) -/

/-- The travel unit with the grid laid at its raw position, point 0 fired (R63). -/
def TravelUnit.layGrid (now : Nat) (u : TravelUnit) : TravelUnit :=
  { u with grid := some { origin := u.raw, next := 1 }, low := some u.raw, pushAcc := 0, reversalMark := false,
           lastStarted := some { index := 0, firedAt := now } }

/-- The blocks of a port on entry to ACQUIRING, before the start of point 0 (R3, R4, R50, R63). -/
def PortBlocks.enterAcquiring (now : Nat) (b : PortBlocks) : PortBlocks :=
  { b with
    seq := { b.seq with timer := none, owed := false }
    travel := b.travel.layGrid now
    det := .clear
    land := b.land.windowIdle }

/-- The grid origin position given to the header (R63). -/
def Record.setGridOrigin (g : Int) (r : Record) : Record := { r with gridOrigin := some (clampPos (toTenths g)) }

/-- The start of grid point 0: a DISTANCE scan at once, or the held start behind a TIME scan (R50). -/
def startPointZero (p : PortId) (g : Int) (s : State) : State :=
  if (s.port p).seq.scan.isNone then startDistanceScan p g s else onSeq p (fun q => { q with held := some g }) s

/-- Entry to ACQUIRING (R4, R63). -/
def enterAcquiring (p : PortId) (s : State) : State :=
  let g := (s.port p).travel.raw
  let laid := onPort p (PortBlocks.enterAcquiring s.now) (discardGroup p s)
  stateEvent p .startTravel (s.openNumber p)
    (startPointZero p g (transition p .acquiring .startTravel (onOpen p (Record.setGridOrigin g) laid)))

/-! ### Counted edges (R62, R64, R68) -/

/-- The start-travel accumulator after an edge (R62). -/
def startAccAfter (e : Edge) (acc : Nat) : Nat := if e.push then acc - e.moved else acc + e.moved

/-- Whether an edge reaches the start travel and may enter ACQUIRING (R62, R53). -/
def reachesStart (b : PortBlocks) (e : Edge) : Bool :=
  !e.push && decide (b.plan.working.travel.startTravel * 100 ≤ startAccAfter e b.travel.startAcc) && !b.seq.closeHold

/-- An edge in ARMED (R62). -/
def armedEdge (p : PortId) (e : Edge) (s : State) : State :=
  let counted := onTravel p (fun u => { u with startAcc := startAccAfter e u.startAcc }) s
  if reachesStart (s.port p) e then enterAcquiring p counted else counted

/-- A push edge in ACQUIRING (R68). -/
def pushEdge (p : PortId) (moved : Nat) (s : State) : State :=
  let u := (s.port p).travel
  let pushed := onTravel p (fun u => { u with pushAcc := u.pushAcc + moved }) s
  if Config.reversalTravel < u.pushAcc + moved ∧ u.reversalMark = false then
    onTravel p (fun u => { u with reversalMark := true }) (onOpen p Record.countReversal pushed)
  else pushed

/-- The trigger position of a grid point (R63). -/
def pointPos (step : Nat) (g : Grid) : Int := g.origin - (g.next : Int) * step

/-- The grid with the next point fired (R64). -/
def Grid.fired (g : Grid) : Grid := { g with next := g.next + 1 }

/-- The pull edge's part on the low-water mark, and the point it fires (R64). -/
def passLowWater (p : PortId) (s : State) : State :=
  let u := (s.port p).travel
  match u.low, u.grid with
  | some low, some g =>
    if u.raw < low then
      let pos := pointPos (s.working p).travel.step g
      if u.raw ≤ pos ∧ pos < low then
        firePoint p g.next pos (onTravel p (fun u => { u with low := some u.raw, grid := some g.fired }) s)
      else onTravel p (fun u => { u with low := some u.raw }) s
    else s
  | _, _ => s

/-- A pull edge in ACQUIRING (R64, R68). -/
def pullEdge (p : PortId) (s : State) : State :=
  passLowWater p (onTravel p (fun u => { u with pushAcc := 0, reversalMark := false }) s)

/-- An edge in ACQUIRING (R64, R68). -/
def acquiringEdge (p : PortId) (e : Edge) (s : State) : State := if e.push then pushEdge p e.moved s else pullEdge p s

/-- A counted edge handed to the mechanism of the port state (R59). -/
def countedEdge (p : PortId) (e : Edge) (s : State) : State :=
  match s.mode p with
  | .armed => armedEdge p e s
  | .acquiring => acquiringEdge p e s
  | .off => s
  | .idle => s
  | .nulling => s
  | .fault => s

/-- The flag ENCODER_SUSPECT at the illegal transition that brings the count to 16 (R58). -/
def noteIllegal (p : PortId) (s : State) : State :=
  if (s.mode p).hasRecord && decide ((s.port p).travel.illegal = Config.suspectCount) then onOpen p Record.setEncoderSuspect s
  else s

/-- The internal levels decoded against the quadrature state, and what the decoding found acted on; in OFF nothing is
decoded (R57 to R59). -/
def decodeTracks (p : PortId) (s : State) : State :=
  if s.mode p = .off then s
  else
    let r := (s.port p).travel.decode (s.working p).travel
    let decoded := onTravel p (fun _ => r.1) s
    match r.2.1 with
    | some e => countedEdge p e decoded
    | none => if r.2.2 then noteIllegal p decoded else decoded

/-! ### The track inputs (R56) -/

/-- The two inputs brought to given levels (R56). -/
def TravelUnit.onInputs (deglitch now : Nat) (level1 level2 : Bool) (u : TravelUnit) : TravelUnit :=
  { u with track1 := u.track1.onInput deglitch now level1, track2 := u.track2.onInput deglitch now level2 }

/-- The tick at which the first running filter completes its hold (R56). -/
def TravelUnit.dueAt (deglitch : Nat) (u : TravelUnit) : Option Nat := earliest (u.track1.due deglitch) (u.track2.due deglitch)

/-- The filters whose hold is complete at a tick passed (R56). -/
def TravelUnit.passAt (deglitch time : Nat) (u : TravelUnit) : TravelUnit :=
  { u with track1 := u.track1.passAt deglitch time, track2 := u.track2.passAt deglitch time }

/-- A change of the track inputs (R56). -/
def inputChange (p : PortId) (level1 level2 : Bool) (s : State) : State :=
  decodeTracks p (onTravel p (TravelUnit.onInputs (s.working p).travel.deglitch s.now level1 level2) s)

/-- The expiry of the first running filter; without one nothing expires (R56; log entry 4). -/
def filterExpiry (p : PortId) (s : State) : State :=
  match (s.port p).travel.dueAt (s.working p).travel.deglitch with
  | none => s
  | some t => decodeTracks p (onTravel p (TravelUnit.passAt (s.working p).travel.deglitch t) (advance t s))

end Sys2Proof.Machine
end

