-- ==== Sys2Proof/Machine/TubeRequests.lean ====
section
/-! DEFINITION. The requests on tubes and records: OPEN_TUBE, CLOSE_TUBE, MARK, RECORD_LIST, RECORD_FETCH and
RECORD_RELEASE (R92, R126, R132 to R135, R142, R146 to R148). -/

namespace Sys2Proof.Machine

/-- The raw channels in use for the test of R92. -/
def Plan.usedRaw (w : Plan) : List Nat :=
  ([w.detect.channel, w.landmark.channel].filter fun n => decide (n < Config.rawChannels)) ++
    w.mix.flatMap fun e => match e with
      | none => []
      | some m => [m.primary, m.secondary]

/-- Whether a raw channel in use is unbalanced (R92). -/
def unbalancedInUse (w : Plan) (nulls : List NullEntry) : Bool :=
  w.usedRaw.any fun n => !(nulls.getD n { x0 := 0, y0 := 0, balanced := false }).balanced

/-- A newly opened record (R135). -/
def Record.new (number : Nat) (p : PortId) (row column sec p0 : Nat) (generation : BitVec 16) (unbalanced : Bool) : Record where
  number := number
  port := p
  row := row
  column := column
  sec := sec
  p0 := p0
  generation := generation
  gridOrigin := none
  finalPos := none
  finalCorrection := none
  closeReason := none
  flags := .atOpen unbalanced
  counters := .zero
  matched := none
  notReached := none
  landmarks := []
  indications := []
  gaps := []

/-- The number the next record takes (R132). -/
def RecordStore.takeNumber (st : RecordStore) : Nat := freeNumber st.slots Config.recordSlots st.counter

/-- A record placed in a FREE slot, the counter advanced past its number (R132, R134). -/
def RecordStore.openWith (r : Record) (st : RecordStore) : RecordStore :=
  { st with slots := fillFree r st.slots, counter := nextNumber r.number }

/-- The landmark unit at OPEN_TUBE (R119). -/
def LandmarkUnit.atOpen (supports : List Nat) (p0 : Nat) : LandmarkUnit :=
  { LandmarkUnit.clear with pointer := placePointer supports p0 }

/-- The blocks of a port on entry to ARMED (R3, R61, R119, R159, R166). -/
def PortBlocks.presetTube (p0 : Nat) (b : PortBlocks) : PortBlocks :=
  { b with
    travel := b.travel.preset p0
    land := .atOpen b.plan.working.supports p0
    drive := { b.drive with lastLimit := none }
    stream := { b.stream with lastPos := p0 } }

/-- Entry to ARMED with a record opened (R134, R3). -/
def enterArmed (p : PortId) (r : Record) (s : State) : State :=
  stateEvent p .tubeOpen (some r.number)
    (startTimeMode p (transition p .armed .tubeOpen (onPort p (PortBlocks.presetTube r.p0) (onStore (RecordStore.openWith r) s))))

/-- The record OPEN_TUBE opens (R134, R135). -/
def tubeRecord (s : State) (p : PortId) (row column sec p0 : Nat) : Record :=
  Record.new s.store.takeNumber p (storedTubeNumber row) (storedTubeNumber column) (storedTubeSection sec) (storedP0 p0)
    (s.port p).plan.generation (unbalancedInUse (s.working p) (s.port p).chan.nulls)

/-- OPEN_TUBE on a port (R134). -/
def openRequest (row column sec p0 : Nat) (p : PortId) (place : Nat) (s : State) : State :=
  if s.mode p ≠ .idle then replyRefused place .badState s
  else if !(s.store.slots.any RecordSlot.isFree) then replyRefused place .noRecordSlot s
  else
    let r := tubeRecord s p row column sec p0
    replyDone place (.opened r.number r.row r.column r.sec r.p0 r.flags.unbalanced) (enterArmed p r s)

/-- CLOSE_TUBE on a port: closed at once, or held for the scan in flight (R142, R53). -/
def closeRequest (p : PortId) (place : Nat) (s : State) : State :=
  if (s.mode p).hasRecord && !(s.port p).seq.closeHold then
    if (s.port p).seq.scan.isSome then onSeq p (fun q => { q with closeHold := true }) s
    else closeToIdle p .host .closeHost s
  else replyRefused place .badState s

/-- The position of an OPERATOR mark (R126). DEDUCED (log entry 12): with no scan completed, the header's grid origin
position. Safe: it is the position as the header places it. -/
def markPos (s : State) (p : PortId) : Nat :=
  match (s.port p).travel.lastScan with
  | some l => clampPos l.corrected
  | none => clampPos ((((s.openRecord p).bind Record.gridOrigin).getD 0 : Nat) + (s.port p).land.correction)

/-- The index a landmark is listed at; absent at a full list (R126). -/
def markIndex (s : State) (p : PortId) : Option Nat :=
  match s.openRecord p with
  | some r => if r.landmarks.length < Config.landmarkEntries then some r.landmarks.length else none
  | none => none

/-- MARK on a port (R126). -/
def markRequest (p : PortId) (place : Nat) (s : State) : State :=
  if s.mode p = .acquiring ∧ (s.port p).seq.closeHold = false then
    replyDone place (.marked (markPos s p) (markIndex s p)) (listLandmarks p [operatorEntry (markPos s p)] s)
  else replyRefused place .badState s

/-- RECORD_LIST (R146). -/
def listRequest (place : Nat) (s : State) : State := replyDone place (.recordList (readyList s) (openList s)) s

/-- RECORD_FETCH (R136, R147). DESIGN CHOICE (log entry 31): R147 does not use the first index for the HEADER section and
R189 gives the reply a first-index byte, whose value for that section is left open; the received index is sent back.
Unsafe: a part that sends another value there differs. -/
def fetchRequest (number sec first : Nat) (place : Nat) (s : State) : State :=
  match (slotOf s number).bind RecordSlot.fetched with
  | none => replyRefused place .noSuchRecord s
  | some r =>
    let c := fetchContent r (storedFetchSection sec) first
    replyDone place (.fetched number (storedFetchSection sec) first c.2 c.1) s

/-- RECORD_RELEASE (R148). -/
def releaseRequest (number : Nat) (place : Nat) (s : State) : State :=
  match slotOf s number with
  | some (.ready _) => replyDone place (.released number) (releaseRecord number s)
  | some (.opened _) => replyRefused place .recordOpen s
  | some .free => replyRefused place .noSuchRecord s
  | none => replyRefused place .noSuchRecord s

/-- OPEN_TUBE. -/
def execOpenTube (tag port : Byte) (row column sec p0 : Nat) (s : State) : Host.Outcome State Fault Refusal :=
  serveOnPort (.openTube tag port row column sec p0) .openTube tag port (openRequest row column sec p0) s

/-- CLOSE_TUBE. -/
def execCloseTube (tag port : Byte) (s : State) : Host.Outcome State Fault Refusal :=
  serveOnPort (.closeTube tag port) .closeTube tag port closeRequest s

/-- MARK. -/
def execMark (tag port : Byte) (s : State) : Host.Outcome State Fault Refusal :=
  serveOnPort (.mark tag port) .mark tag port markRequest s

/-- RECORD_LIST. -/
def execRecordList (tag port : Byte) (s : State) : Host.Outcome State Fault Refusal :=
  serve (.recordList tag port) .recordList tag port listRequest s

/-- RECORD_FETCH. -/
def execRecordFetch (tag port : Byte) (number sec first : Nat) (s : State) : Host.Outcome State Fault Refusal :=
  serve (.recordFetch tag port number sec first) .recordFetch tag port (fetchRequest number sec first) s

/-- RECORD_RELEASE. -/
def execRecordRelease (tag port : Byte) (number : Nat) (s : State) : Host.Outcome State Fault Refusal :=
  serve (.recordRelease tag port number) .recordRelease tag port (releaseRequest number) s

end Sys2Proof.Machine
end

