-- ==== Sys2Proof/Machine/LinkCommands.lean ====
section
/-! DEFINITION. Power, the host link's own events, LINK_STATUS and RESET (R18, R177, R178, R183 to R186). -/

namespace Sys2Proof.Machine

open Sys2Proof.Wire

/-- A port at power-on with its track inputs where the lines hold them (R18, R55). -/
def PortBlocks.powerOnAt (b : PortBlocks) : PortBlocks :=
  { PortBlocks.powerOn with
    travel := { TravelUnit.powerOn with track1 := .atInput b.travel.track1.input, track2 := .atInput b.travel.track2.input } }

/-- The part at power-on (R18, R185, R149). DESIGN CHOICE (log entry 18): the queue of commands, the clock and the
levels of the pins are the world's and stand. Safe: none of them is a register of the part. -/
def powerUp (s : State) : State :=
  { State.reset with
    ports := { a := s.ports.a.powerOnAt, b := s.ports.b.powerOnAt, c := s.ports.c.powerOnAt, d := s.ports.d.powerOnAt }
    now := s.now
    pending := s.pending }

/-- POWER_ON. -/
def execPowerOn (s : State) : Host.Outcome State Fault Refusal := .next (powerUp s)

/-- TRANSMIT_FRAME_DONE (R183). -/
def execTransmitFrameDone (time : Nat) (s : State) : Host.Outcome State Fault Refusal :=
  .next (arbitrate (frameSent (advance time s)))

/-- What LINK_STATUS carries (R184). -/
def linkView (s : State) : LinkStatusView :=
  { counters := s.link.counters
    held := s.link.buffer.length
    refusals := refusalsWaiting s.link
    reports := s.link.reports.length
    ringA := s.ports.a.stream.ring.length
    ringB := s.ports.b.stream.ring.length
    ringC := s.ports.c.stream.ring.length
    ringD := s.ports.d.stream.ring.length }

/-- LINK_STATUS taken (R184). -/
def linkStatusRequest (place : Nat) (s : State) : State := replyDone place (.linkStatus (linkView s)) s

/-- LINK_STATUS. -/
def execLinkStatus (tag port : Byte) (s : State) : Host.Outcome State Fault Refusal :=
  serve (.linkStatus tag port) .linkStatus tag port linkStatusRequest s

/-- RESET taken: the held requests answered, its own reply, then the part reset (R186, R19). -/
def resetRequest (place : Nat) (s : State) : State := resetPart (replyDone place .nothing (abortHeld place s))

/-- RESET. -/
def execReset (tag port : Byte) (s : State) : Host.Outcome State Fault Refusal :=
  serve (.reset tag port) .reset tag port resetRequest s

/-! ### The end of a frame (R177 to R180) -/

/-- A request read from a frame, carried out as its command is (R180). -/
def runRequest (c : Instr) (s : State) : Host.Outcome State Fault Refusal :=
  match c with
  | .portEnable tag port => execPortEnable tag port s
  | .portDisable tag port => execPortDisable tag port s
  | .clearFault tag port => execClearFault tag port s
  | .portStatus tag port => execPortStatus tag port s
  | .planFreq tag port entries => execPlanFreq tag port entries s
  | .planSlots tag port entries => execPlanSlots tag port entries s
  | .planCal tag port entries => execPlanCal tag port entries s
  | .planMix tag port entries => execPlanMix tag port entries s
  | .planDetect tag port fields => execPlanDetect tag port fields s
  | .planLandmark tag port fields => execPlanLandmark tag port fields s
  | .planSupports tag port positions => execPlanSupports tag port positions s
  | .planCurve tag port points => execPlanCurve tag port points s
  | .planTravel tag port fields => execPlanTravel tag port fields s
  | .planStream tag port fields => execPlanStream tag port fields s
  | .planCommit tag port => execPlanCommit tag port s
  | .planDiscard tag port => execPlanDiscard tag port s
  | .planRead tag port sec copy => execPlanRead tag port sec copy s
  | .nullChannels tag port => execNullChannels tag port s
  | .openTube tag port row column sec p0 => execOpenTube tag port row column sec p0 s
  | .closeTube tag port => execCloseTube tag port s
  | .mark tag port => execMark tag port s
  | .recordList tag port => execRecordList tag port s
  | .recordFetch tag port number sec first => execRecordFetch tag port number sec first s
  | .recordRelease tag port number => execRecordRelease tag port number s
  | .driveQueue tag port entries => execDriveQueue tag port entries s
  | .driveAbort tag port => execDriveAbort tag port s
  | .driveStatus tag port => execDriveStatus tag port s
  | .linkStatus tag port => execLinkStatus tag port s
  | .reset tag port => execReset tag port s
  | .powerOn => .next s
  | .hostFrameReceived _ => .next s
  | .transmitFrameDone _ => .next s
  | .trackInputChange _ _ _ _ => .next s
  | .trackFilterExpiry _ => .next s
  | .timeModeExpiry _ => .next s
  | .switchEnd _ => .next s
  | .settleEnd _ => .next s
  | .integrateEnd _ _ _ _ _ => .next s
  | .driveMessageSent _ _ => .next s
  | .accept _ _ _ => .next s
  | .refuse _ _ _ _ => .next s
  | .done _ _ _ => .next s
  | .driveMessageDamaged _ _ _ => .next s
  | .acceptDeadline _ => .next s
  | .limitAcceptDeadline _ => .next s
  | .doneDeadline _ => .next s
  | .hostLinkByteReceived _ _ => .next s

/-- The refusal of a request whose payload has not the length its kind needs: BAD_PORT comes before BAD_LENGTH (R179). -/
def refuseUnread (k : RequestKind) (tag port : Byte) (s : State) : State :=
  match testRequest k port false s with
  | some code => refuseAtOnce code k.code tag port s
  | none => s

/-- An intact request frame tested, and the request it spells held and handed to its block in the same step (R179,
R180). -/
def takeFrame (kind tag port : Byte) (payload : List Byte) (s : State) : Host.Outcome State Fault Refusal :=
  match RequestKind.ofCode kind with
  | none => .next (arbitrate (refuseAtOnce .unknownRequest kind tag port s))
  | some k =>
    match parsePayload k tag port payload with
    | none => .next (arbitrate (refuseUnread k tag port s))
    | some c => runRequest c s

/-- What an ended frame comes to: discarded and counted, or taken (R178). -/
def endFrame (content : List Byte) (s : State) : Host.Outcome State Fault Refusal :=
  match checkFrame content with
  | .framing => .next (arbitrate (onCounters LinkCounters.countFraming s))
  | .crc => .next (arbitrate (onCounters LinkCounters.countCrc s))
  | .intact kind tag port payload => takeFrame kind tag port payload s

/-- One byte from the line (R177, R178). -/
def lineByte (b : LineByte) (s : State) : Host.Outcome State Fault Refusal :=
  match receiveByte b s with
  | (s', none) => .next (arbitrate s')
  | (s', some content) => endFrame content s'

/-- HOST_FRAME_RECEIVED: the delimiter that ends a frame (R177 to R179). -/
def execHostFrameReceived (time : Nat) (s : State) : Host.Outcome State Fault Refusal :=
  lineByte (.byte Wire.delimiter) (advance time s)

/-- HOST_LINK_BYTE_RECEIVED (R177). -/
def execHostLinkByteReceived (time : Nat) (b : LineByte) (s : State) : Host.Outcome State Fault Refusal :=
  lineByte b (advance time s)

end Sys2Proof.Machine
end

