-- ==== Sys2Proof/Machine/PortEvents.lean ====
section
/-! DEFINITION. The events of a port's encoder inputs and of its scan: inputs, filters, the time-mode timer and the
phases of a slot (R42, R43, R45, R49, R56). -/

namespace Sys2Proof.Machine

/-- TRACK_INPUT_CHANGE (R56). -/
def execTrackInputChange (time : Nat) (p : PortId) (level1 level2 : Bool) (s : State) : Host.Outcome State Fault Refusal :=
  .next (arbitrate (inputChange p level1 level2 (advance time s)))

/-- TRACK_FILTER_EXPIRY (R56). -/
def execTrackFilterExpiry (p : PortId) (s : State) : Host.Outcome State Fault Refusal := .next (arbitrate (filterExpiry p s))

/-- The time-mode timer expired, where it runs (R49). -/
def passTimer (p : PortId) (s : State) : State :=
  match (s.port p).seq.timer with
  | none => s
  | some t => timeExpiry p t s

/-- TIME_MODE_EXPIRY. -/
def execTimeModeExpiry (p : PortId) (s : State) : Host.Outcome State Fault Refusal := .next (arbitrate (passTimer p s))

/-- SWITCH_END (R42). -/
def execSwitchEnd (p : PortId) (s : State) : Host.Outcome State Fault Refusal :=
  .next (arbitrate (endPhase p .switch Scan.afterSwitch s))

/-- SETTLE_END (R42). -/
def execSettleEnd (p : PortId) (s : State) : Host.Outcome State Fault Refusal :=
  .next (arbitrate (endPhase p .settle Scan.toIntegrate s))

/-- The integration of the slot in progress ended, where one is (R42, R45). -/
def endIntegrate (p : PortId) (x y : Int) (clipped : Bool) (found : List DriveFault) (s : State) : State :=
  match inPhase s p .integrate with
  | none => s
  | some sc => deliver p sc (sampleOf sc.slot x y clipped found) (advance sc.phaseEnd s)

/-- INTEGRATE_END. -/
def execIntegrateEnd (p : PortId) (x y : Int) (clipped : Bool) (found : List DriveFault) (s : State) :
    Host.Outcome State Fault Refusal :=
  .next (arbitrate (endIntegrate p x y clipped found s))

end Sys2Proof.Machine
end

