-- ==== Sys2Proof/Machine/Dispatch.lean ====
section
/-! DEFINITION. The dispatch: one arm for each row of the opcode table. -/

namespace Sys2Proof.Machine

/-- The effect of a command on everything but the queue. -/
def exec (i : Instr) (s : State) : Host.Outcome State Fault Refusal :=
  match i with
  | .powerOn => Sys2Proof.Machine.execPowerOn s
  | .hostFrameReceived time => Sys2Proof.Machine.execHostFrameReceived time s
  | .portEnable tag port => Sys2Proof.Machine.execPortEnable tag port s
  | .portDisable tag port => Sys2Proof.Machine.execPortDisable tag port s
  | .clearFault tag port => Sys2Proof.Machine.execClearFault tag port s
  | .portStatus tag port => Sys2Proof.Machine.execPortStatus tag port s
  | .planFreq tag port entries => Sys2Proof.Machine.execPlanFreq tag port entries s
  | .planSlots tag port entries => Sys2Proof.Machine.execPlanSlots tag port entries s
  | .planCal tag port entries => Sys2Proof.Machine.execPlanCal tag port entries s
  | .planMix tag port entries => Sys2Proof.Machine.execPlanMix tag port entries s
  | .planDetect tag port fields => Sys2Proof.Machine.execPlanDetect tag port fields s
  | .planLandmark tag port fields => Sys2Proof.Machine.execPlanLandmark tag port fields s
  | .planSupports tag port positions => Sys2Proof.Machine.execPlanSupports tag port positions s
  | .planCurve tag port points => Sys2Proof.Machine.execPlanCurve tag port points s
  | .planTravel tag port fields => Sys2Proof.Machine.execPlanTravel tag port fields s
  | .planStream tag port fields => Sys2Proof.Machine.execPlanStream tag port fields s
  | .planCommit tag port => Sys2Proof.Machine.execPlanCommit tag port s
  | .planDiscard tag port => Sys2Proof.Machine.execPlanDiscard tag port s
  | .planRead tag port sec copy => Sys2Proof.Machine.execPlanRead tag port sec copy s
  | .nullChannels tag port => Sys2Proof.Machine.execNullChannels tag port s
  | .openTube tag port row column sec p0 => Sys2Proof.Machine.execOpenTube tag port row column sec p0 s
  | .closeTube tag port => Sys2Proof.Machine.execCloseTube tag port s
  | .mark tag port => Sys2Proof.Machine.execMark tag port s
  | .recordList tag port => Sys2Proof.Machine.execRecordList tag port s
  | .recordFetch tag port number sec first => Sys2Proof.Machine.execRecordFetch tag port number sec first s
  | .recordRelease tag port number => Sys2Proof.Machine.execRecordRelease tag port number s
  | .driveQueue tag port entries => Sys2Proof.Machine.execDriveQueue tag port entries s
  | .driveAbort tag port => Sys2Proof.Machine.execDriveAbort tag port s
  | .driveStatus tag port => Sys2Proof.Machine.execDriveStatus tag port s
  | .linkStatus tag port => Sys2Proof.Machine.execLinkStatus tag port s
  | .reset tag port => Sys2Proof.Machine.execReset tag port s
  | .transmitFrameDone time => Sys2Proof.Machine.execTransmitFrameDone time s
  | .trackInputChange time p level1 level2 => Sys2Proof.Machine.execTrackInputChange time p level1 level2 s
  | .trackFilterExpiry p => Sys2Proof.Machine.execTrackFilterExpiry p s
  | .timeModeExpiry p => Sys2Proof.Machine.execTimeModeExpiry p s
  | .switchEnd p => Sys2Proof.Machine.execSwitchEnd p s
  | .settleEnd p => Sys2Proof.Machine.execSettleEnd p s
  | .integrateEnd p x y clipped found => Sys2Proof.Machine.execIntegrateEnd p x y clipped found s
  | .driveMessageSent time p => Sys2Proof.Machine.execDriveMessageSent time p s
  | .accept time p number => Sys2Proof.Machine.execAccept time p number s
  | .refuse time p number reason => Sys2Proof.Machine.execRefuse time p number reason s
  | .done time p number => Sys2Proof.Machine.execDone time p number s
  | .driveMessageDamaged time p raw => Sys2Proof.Machine.execDriveMessageDamaged time p raw s
  | .acceptDeadline p => Sys2Proof.Machine.execAcceptDeadline p s
  | .limitAcceptDeadline p => Sys2Proof.Machine.execLimitAcceptDeadline p s
  | .doneDeadline p => Sys2Proof.Machine.execDoneDeadline p s
  | .hostLinkByteReceived time b => Sys2Proof.Machine.execHostLinkByteReceived time b s

end Sys2Proof.Machine
end

