-- ==== Sys2Proof/Machine/Step.lean ====
section
/-! DEFINITION. One step: the command that has waited longest is taken from the queue and carried out. -/

namespace Sys2Proof.Machine

/-- One step. With no command in the queue the part idles. DESIGN CHOICE (log entry 3). Safe: what the part does at a
time of its own is a row of the table, and comes through the queue. -/
def step (s : State) : Host.Outcome State Fault Refusal :=
  match s.pending with
  | c :: rest => exec c { s with pending := rest }
  | [] => .next s

/-- The command a word spells put at the front of the queue; no word spells one, because the opcode table gives none of
its rows any bits. -/
def State.withFetchWord (s : State) (nbits w : Nat) : State :=
  match decodeTableWord nbits w with
  | some c => { s with pending := c :: s.pending }
  | none => s

end Sys2Proof.Machine
end

