-- ==== Sys2Proof/WellFormed.lean ====
section
/-! DEFINITION. Which commands can stand on the lines: every field of a request fits the width R188 and R189 give it
and every count lies in its range (R20, R153), and an event's operands lie in their ranges. A command that is not well
formed cannot be spelled in bytes. The machine is total on it all the same. -/

namespace Sys2Proof

/-- A one-byte field. -/
abbrev fits8 (n : Nat) : Bool := decide (n < 256)

/-- A two-byte field. -/
abbrev fits16 (n : Nat) : Bool := decide (n < 65536)

/-- A four-byte field. -/
abbrev fits32 (n : Nat) : Bool := decide (n < 4294967296)

/-- A signed two-byte field. -/
abbrev fitsSigned (v : Int) : Bool := decide (-32768 ≤ v) && decide (v ≤ 32767)

/-- A slot as received. -/
def SlotFields.wellFormed (e : SlotFields) : Bool := fits8 e.freq && fits8 e.mode && fits8 e.settle && fits8 e.integrate

/-- A CAL entry as received. -/
def CalFields.wellFormed (e : CalFields) : Bool := fits16 e.rotation && fits16 e.gain

/-- A present mix entry as received. -/
def MixFields.wellFormed (e : MixFields) : Bool :=
  fits8 e.primary && fits8 e.secondary && fitsSigned e.kxx && fitsSigned e.kxy && fitsSigned e.kyx && fitsSigned e.kyy &&
    fits16 e.rotation && fits16 e.gain

/-- The DETECT fields as received. -/
def DetectFields.wellFormed (f : DetectFields) : Bool :=
  fits8 f.channel && fits16 f.tOpen && fits16 f.tClose && fits8 f.qClose && fits16 f.lMax && fits16 f.aMin &&
    fits32 f.gateLow && fits32 f.gateHigh

/-- The LANDMARK fields as received. -/
def LandmarkFields.wellFormed (f : LandmarkFields) : Bool :=
  fits8 f.channel && fits16 f.lOpen && fits16 f.lClose && fits8 f.qLand && fits8 f.autoClose && fits16 f.tolerance &&
    fits32 f.exitPos

/-- A curve point as received. -/
def CurvePoint.wellFormed (e : CurvePoint) : Bool := fits16 e.phase && fits8 e.depth

/-- The TRAVEL fields as received. -/
def TravelFields.wellFormed (f : TravelFields) : Bool :=
  fits16 f.step && fits16 f.scale && fits8 f.sense && fits16 f.startTravel && fits32 f.period && fits8 f.deglitch &&
    fits8 f.speedGuard

/-- The STREAM fields as received: 0 to 8 channels. -/
def StreamFields.wellFormed (f : StreamFields) : Bool :=
  decide (f.channels.length ≤ 8) && f.channels.all (fits8 ·) && fits8 f.decimation && fits8 f.width

/-- A move as received. -/
def MoveFields.wellFormed (e : MoveFields) : Bool := fits8 e.direction && fits8 e.endByte && fits16 e.speed && fits32 e.distance

/-- An optional entry: the check of what it holds. -/
def optionWellFormed {α : Type} (check : α → Bool) : Option α → Bool
  | none => true
  | some v => check v

/-- The well-formedness of a command. -/
def Instr.wellFormed : Instr → Bool
  | .planFreq _ _ e => decide (e.length = 4) && e.all (optionWellFormed (fits16 ·))
  | .planSlots _ _ e => decide (1 ≤ e.length) && decide (e.length ≤ 12) && e.all SlotFields.wellFormed
  | .planCal _ _ e => decide (e.length = 12) && e.all CalFields.wellFormed
  | .planMix _ _ e => decide (e.length = 4) && e.all (optionWellFormed MixFields.wellFormed)
  | .planDetect _ _ f => f.wellFormed
  | .planLandmark _ _ f => f.wellFormed
  | .planSupports _ _ e => decide (e.length ≤ 24) && e.all (fits32 ·)
  | .planCurve _ _ e => decide (e.length ≤ 8) && e.all CurvePoint.wellFormed
  | .planTravel _ _ f => f.wellFormed
  | .planStream _ _ f => f.wellFormed
  | .planRead _ _ sec copy => fits8 sec && fits8 copy
  | .openTube _ _ row column sec p0 => fits16 row && fits16 column && fits8 sec && fits32 p0
  | .recordFetch _ _ number sec first => fits16 number && fits8 sec && fits8 first
  | .recordRelease _ _ number => fits16 number
  | .driveQueue _ _ e => decide (1 ≤ e.length) && decide (e.length ≤ 4) && e.all MoveFields.wellFormed
  | .driveMessageDamaged _ _ raw => (readAnswer raw).isNone
  | _ => true

end Sys2Proof
end

