-- ==== Sys2Proof/Safety.lean ====
section
/-! DEFINITION. The terms in which claims are stated: what waits to be sent, when a request is taken, what stands
unchanged, and the laws that every state of a run keeps. -/

namespace Sys2Proof.Machine

/-! ### What waits to be sent -/

/-- The reply being sent, where one is. -/
def sendingReply : Option TxFrame → List Reply
  | some (.reply r) => [r]
  | _ => []

/-- The report being sent, where one is. -/
def sendingReport : Option TxFrame → List Report
  | some (.report r) => [r]
  | _ => []

/-- The replies made and not yet sent whole, oldest first. -/
def State.unsentReplies (s : State) : List Reply := sendingReply s.link.sending ++ s.link.replies

/-- The reports raised and not yet sent whole, oldest first. -/
def State.unsentReports (s : State) : List Report := sendingReport s.link.sending ++ s.link.reports

/-! ### Requests -/

/-- The conditions on the link under which a request is taken: a place is free and the tests of R179 pass. -/
def Accepts (s : State) (c : Instr) (k : RequestKind) (port : Byte) : Prop :=
  testRequest k port (Instr.lengthAllowed c) s = none

/-- A held request waits for its answer. -/
def HeldRequest.inProgress (h : HeldRequest) : Prop := h.answered = false

/-- From `s` to `t` one reply has been made, to a held request of this kind, tag and port byte. -/
def Answered (s t : State) (k : RequestKind) (tag port : Byte) (body : ReplyBody) : Prop :=
  ∃ place, t.unsentReplies =
    s.unsentReplies ++ [{ place := some place, kind := k.code, tag := tag, port := port, body := body }]

/-- From `s` to `t` the reports `rs` have been raised, where the queue has room for them. -/
def Raised (s t : State) (rs : List Report) : Prop :=
  s.link.reports.length + rs.length ≤ Config.reportPlaces → t.unsentReports = s.unsentReports ++ rs

/-- The report of a STATE event: the detail holds a record number or nothing (R15). -/
def stateReport (p : PortId) (state previous : PortMode) (cause : Cause) (record : Option Nat) : Report :=
  .portEvent { port := p, kind := .state, state := state, previous := previous, cause := cause, record := record,
               generation := none, slot := none, status := none, declaredIn := none }

/-- The report of a PLAN_PROMOTED event: the detail holds the new generation (R15). -/
def promotedReport (p : PortId) (state previous : PortMode) (cause : Cause) (generation : BitVec 16) : Report :=
  .portEvent { port := p, kind := .planPromoted, state := state, previous := previous, cause := cause, record := none,
               generation := some generation, slot := none, status := none, declaredIn := none }

/-! ### What stands -/

/-- Every block of every port, the record store, the clock and the queue stand; the link controller may differ. -/
def SameBlocks (s t : State) : Prop := t.ports = s.ports ∧ t.store = s.store ∧ t.now = s.now ∧ t.pending = s.pending

/-- The blocks of every port but `p` stand. -/
def SameOthers (p : PortId) (s t : State) : Prop := ∀ q, q ≠ p → t.port q = s.port q

/-- A port's blocks with its stream ring set aside: the transmitter may take a frame at the end of any command. -/
def PortBlocks.sansRing (b : PortBlocks) : PortBlocks := { b with stream := { b.stream with ring := [] } }

/-- No reply is made, and the receive side of the link and its counters stand. -/
def QuietLink (s t : State) : Prop :=
  t.unsentReplies = s.unsentReplies ∧ t.link.deframer = s.link.deframer ∧ t.link.counters = s.link.counters

/-- From `s` to `t` an event has acted on port `p` alone, at the tick `time`: its blocks are `b`, every other port and
the record store stand, and nothing is said to the host. The transmitter may have taken a stream frame. -/
def EventOn (p : PortId) (s t : State) (time : Nat) (b : PortBlocks) : Prop :=
  (t.port p).sansRing = b.sansRing ∧ (∀ q, q ≠ p → (t.port q).sansRing = (s.port q).sansRing) ∧ t.store = s.store ∧
  t.pending = s.pending ∧ t.now = max s.now time ∧ QuietLink s t ∧ t.unsentReports = s.unsentReports

/-- From `s` to `t` an event has acted on the drive channel of port `p` alone, at the tick `time`, and raised the
DRIVE_EVENTs `es`, where the queue has room for them. -/
def DriveEventOn (p : PortId) (s t : State) (time : Nat) (d : DriveChannel) (es : List DriveEvent) : Prop :=
  (t.port p).sansRing = { (s.port p).sansRing with drive := d } ∧
  (∀ q, q ≠ p → (t.port q).sansRing = (s.port q).sansRing) ∧ t.store = s.store ∧ t.pending = s.pending ∧
  t.now = max s.now time ∧ t.unsentReplies = s.unsentReplies ∧ Raised s t (es.map (Report.driveEvent p))

/-- From `s` to `t` a request has acted on port `p` alone: every other port, the record store, the clock and the queue
stand. -/
def RequestOn (p : PortId) (s t : State) : Prop :=
  SameOthers p s t ∧ t.store = s.store ∧ t.now = s.now ∧ t.pending = s.pending

/-- A request is taken and answered, and nothing else changes. -/
def OnlyAnswers (s : State) (c : Instr) (k : RequestKind) (tag port : Byte) (body : ReplyBody) : Prop :=
  ∃ t, exec c s = .next t ∧ SameBlocks s t ∧ Answered s t k tag port body ∧ t.unsentReports = s.unsentReports ∧
    t.link.deframer = s.link.deframer ∧ t.link.counters = s.link.counters

/-- What the rotation, the gain and the clamp make of a pair, with the saturated flag set where `before` is or the clamp
changed a value (R79, R80, R82). -/
def Shaped (rotation gain : Nat) (x y : Int) (before : Bool) (v : ChannelValue) : Prop :=
  let x3 := ((x * cosineEntry rotation - y * sineEntry rotation + 8192) / 16384 * gain + 128) / 256
  let y3 := ((x * sineEntry rotation + y * cosineEntry rotation + 8192) / 16384 * gain + 128) / 256
  v.x = max (-32768) (min 32767 x3) ∧ v.y = max (-32768) (min 32767 y3) ∧
  (v.saturated = true ↔ before = true ∨ x3 < -32768 ∨ 32767 < x3 ∨ y3 < -32768 ∨ 32767 < y3)

/-- An edge counted from `u` under a scale and a sense: the travel unit is `x`, its raw position moved by the scale toward
the edge's direction, within the limits (R57, R59). -/
def EdgeCounted (scale : Nat) (sense : Sense) (forward : Bool) (u x : TravelUnit) : Prop :=
  ∃ raw, ((sense = .normal ↔ forward = true) → raw = min 31000000 (u.raw + scale)) ∧
    (¬ (sense = .normal ↔ forward = true) → raw = max (-1000000) (u.raw - scale)) ∧
    x = { u with quad := x.quad, track1 := x.track1, track2 := x.track2, raw := raw }

/-! ### The work of a completed scan and the close of a record, on one port's blocks and its record -/

/-- The landmark unit and the open record once a closed window has been classified: a tube end is listed with END_SEEN,
any other window is judged against the map (R118, R121). -/
def classified (w : Plan) (win : ClosedLandmark) (u : LandmarkUnit) (r : Record) : LandmarkUnit × Record :=
  if 4 ≤ win.satLongest then
    let listed := r.addLandmark (win.entry .tubeEnd)
    (u, { listed with flags := { listed.flags with endSeen := true } })
  else
    let j := u.judge w.supports w.landmark.tolerance win
    (j.1, r.addLandmarks j.2)

/-- The indication detector and the open record after a DISTANCE scan (R94 to R99, R107). -/
def detectorWork (w : Plan) (c : CalibratedSet) (d : Detector) (r : Record) : Detector × Record :=
  let v := c.channel w.detect.channel
  let step := d.scan w.detect { x := v.x, y := v.y, seqNo := c.seqNo, pos := c.pos } v.saturated
  match step.2 with
  | none => (step.1, r)
  | some win => (step.1, r.judge w.detect w.curve win)

/-- The landmark unit and the open record after steps 1 and 2 of a DISTANCE scan, and whether step 1 handled a tube end
(R114 to R118, R120). -/
def landmarkWork (w : Plan) (c : CalibratedSet) (u : LandmarkUnit) (r : Record) : LandmarkUnit × Record × Bool :=
  let v := c.channel w.landmark.channel
  let step := u.scan w.landmark { absX := v.x.natAbs, seqNo := c.seqNo, pos := c.pos } v.saturated
  let k := match step.2 with
    | none => (step.1, r)
    | some win => classified w win step.1 r
  let checked :=
    if step.1.window = .idle then
      let m := k.1.passing w.supports w.landmark.tolerance c.pos
      (m.1, k.2.addLandmarks m.2)
    else k
  (checked.1, checked.2, match step.2 with
    | none => false
    | some win => decide (4 ≤ win.satLongest))

/-- The start of an OVERSPEED gap: the corrected position of the last completed scan, or, where that is absent, the grid
origin position floor(G / 100) plus the correction now in force; clamped (R66). Without a grid, which no run reaches, the
model's default stands, log entry 14. -/
def overspeedStart (u : TravelUnit) (correction : Int) : Nat :=
  min 300000 (match u.lastScan, u.grid with
    | some l, _ => l.corrected
    | none, some g => g.origin / 100 + correction
    | none, none => correction).toNat

/-- The fired point that waits for its scan or for its start, in ACQUIRING (R67). -/
def PortBlocks.waitingPoint (b : PortBlocks) : Option Int :=
  if b.ctl.mode = .acquiring then
    match b.seq.scan with
    | none => b.seq.held
    | some sc => if sc.kind = .distance then some sc.startPos else b.seq.held
  else none

/-- A record as steps 1 to 4 of a close leave it: an open indication window judged TRUNCATED, an open landmark window
classified TRUNCATED, the waiting point counted as missed, the OVERSPEED and the STREAM gap written, the map entries passed
by the end of the tube listed, and the closing fields of the header (R143, R101, R127, R67, R66, R173, R128). Where no scan
has completed the final position starts from the grid origin as R66 has it, log entry 12. -/
def Record.closedBy (b : PortBlocks) (reason : CloseReason) (r : Record) : Record :=
  let w := b.plan.working
  let judged := match b.det.state with
    | .opened => r.judge w.detect w.curve (b.det.close { x := 0, y := 0, seqNo := 0, pos := 0 } false true)
    | .idle => r
    | .blocked => r
  let k := match b.land.window with
    | .opened => classified w (b.land.close { absX := 0, seqNo := 0, pos := 0 } false true) b.land.windowIdle judged
    | .idle => (b.land, judged)
  let missed : Record × Option MissedRun := match b.waitingPoint with
    | some pos => ({ k.2 with counters := { k.2.counters with missed := k.2.counters.missed + 1 } },
        some (match b.travel.run with
          | none => { first := pos, last := pos, count := 1 }
          | some m => { m with count := m.count + 1 }))
    | none => (k.2, b.travel.run)
  let sped := match missed.2 with
    | some m => missed.1.addGap {
        kind := .overspeed, start := overspeedStart b.travel k.1.correction,
        stop := min 300000 (m.last / 100 + k.1.correction).toNat, count := m.count }
    | none => missed.1
  let gapped := match b.stream.gap with
    | some g => sped.addGap { kind := .stream, start := g.start, stop := g.last, count := g.count }
    | none => sped
  let final := (match b.travel.lastScan, b.travel.grid with
    | some l, _ => l.trigger / 100
    | none, some g => g.origin / 100
    | none, none => 0) + k.1.correction
  let armed : Bool := decide (b.ctl.mode = PortMode.armed)
  let passed := if b.ctl.mode = .acquiring then k.1.passing w.supports w.landmark.tolerance final else (k.1, [])
  { gapped.addLandmarks passed.2 with
    closeReason := some reason
    finalPos := some (if armed then r.p0 else min 300000 final.toNat)
    finalCorrection := some (if armed then 0 else passed.1.correction)
    matched := some passed.1.matched
    notReached := some (match passed.1.pointer with
      | none => 0
      | some k => k + 1) }

/-- The record pool once the open record `r` has become the READY record `r'` at the tail of the ready order (R143). -/
def RecordStore.closing (r r' : Record) (st : RecordStore) : RecordStore :=
  { st with
    slots := st.slots.map fun slot => if slot = .opened r then .ready r' else slot
    ready := st.ready ++ [r.number] }

/-- The blocks of a port brought to IDLE by a close, before a pending plan is promoted (R3, R55, R93, R128, R143, R173). -/
def PortBlocks.closedToIdle (cause : Cause) (b : PortBlocks) : PortBlocks :=
  { b with
    ctl := { mode := .idle, previous := b.ctl.mode, lastCause := cause, runs := List.replicate 12 0, fault := none }
    seq := { b.seq with scan := none, timer := none, owed := false, held := none, closeHold := false }
    travel := { b.travel with grid := none, low := none, run := none, lastStarted := none, lastScan := none }
    det := .clear
    land := match b.land.window with
      | .opened => .clear
      | .idle => { b.land with correction := 0, matched := 0, pointer := none }
    stream := { b.stream with group := none, miss := false, gap := none } }

/-- The blocks of port `p` after its pending plan, where it has one, has been promoted at the tick `now`. -/
def State.promotedBlocks (s : State) (now : Nat) (p : PortId) (b : PortBlocks) : PortBlocks :=
  if b.plan.pending then (promote p none ({ s with now := now }.setPort p b)).port p else b

/-- The reports of a close that brings the port to IDLE (R15, R31, R145). -/
def closeReports (p : PortId) (b : PortBlocks) (n : Nat) (reason : CloseReason) (cause : Cause) : List Report :=
  [.recordReady p n reason, stateReport p .idle b.ctl.mode cause (some n)] ++
    if b.plan.pending then [promotedReport p .idle b.ctl.mode .stateEntry (b.plan.generation + 1)] else []

/-- The CLOSE_TUBE held for port `p`, where there is one, is answered with the reason the record closed for (R144). -/
def CloseAnswered (p : PortId) (s t : State) (n : Nat) (reason : CloseReason) : Prop :=
  (∀ h ∈ s.link.buffer, h.inProgress → h.kind = .closeTube → h.port = p.byte →
    t.unsentReplies = s.unsentReplies ++ [{
      place := some h.place, kind := RequestKind.closeTube.code, tag := h.tag, port := p.byte, body := .done (.closed n reason) }]) ∧
  ((∀ h ∈ s.link.buffer, h.inProgress → h.kind = .closeTube → h.port ≠ p.byte) → t.unsentReplies = s.unsentReplies)

/-- The blocks `t` of a port in OFF, cleared from `b` by PORT_DISABLE or RESET, but for its controller and its drive channel:
every item at the value R7, R37, R55, R74, R93, R113 and R166 give, the plan kept or, where one was pending, promoted with
the tables, the speeds and the null table that follow it (R30, R32, R38, R40, R70). -/
def ClearedFrom (b t : PortBlocks) : Prop :=
  let w := b.plan.staged
  let u := b.travel
  t.plan = (if b.plan.pending then { working := w, staged := w, pending := false, generation := b.plan.generation + 1 }
    else b.plan) ∧
  t.seq = {
    periods := if b.plan.pending then w.periods else b.seq.periods
    slots := if b.plan.pending then w.slotTable else b.seq.slots
    duration := if b.plan.pending then (w.slotTable.map SlotInForce.slotTime).sum else b.seq.duration
    scan := none, timer := none, owed := false, held := none, closeHold := false, seqNo := 0 } ∧
  t.travel = {
    track1 := { input := u.track1.input, level := u.track1.input, since := none }
    track2 := { input := u.track2.input, level := u.track2.input, since := none }
    quad := u.quad, raw := 0, startAcc := 0, pushAcc := 0, reversalMark := false, illegal := 0, grid := none, low := none,
    run := none, lastStarted := none, lastScan := none
    limitSpeed := if b.plan.pending then w.travel.step * 40000 / (w.slotTable.map SlotInForce.slotTime).sum else u.limitSpeed
    guardLimit := if b.plan.pending then (w.travel.step * 40000 / (w.slotTable.map SlotInForce.slotTime).sum) * 9 / 10
      else u.guardLimit } ∧
  t.chan = {
    nulls := if b.plan.pending then comparedNulls b.plan.working w b.chan.nulls else b.chan.nulls, held := [], accum := none } ∧
  t.det = {
    state := .idle, high := none, low := none, length := 0, closeRun := 0, saturated := false, gapped := false,
    miss := false } ∧
  t.land = {
    window := .idle, length := 0, quiet := 0, peak := none, satRun := 0, satLongest := 0, pointer := none, correction := 0,
    matched := 0 } ∧
  t.stream = { ring := [], group := none, miss := false, lost := 0, lastPos := 0, gap := none }

/-! ### Validation, and what a fetch returns -/

/-- Whether a channel 0 to 15 exists in a plan (R26). -/
def Plan.hasChannel (w : Plan) (n : Nat) : Prop :=
  (n < 12 ∧ n < w.slots.length) ∨ (12 ≤ n ∧ ∃ m, w.mix[n - 12]? = some (some m))

/-- Check 1 to 12 of R26's table fails at an item. -/
def Plan.FailsAt (w : Plan) (check k : Nat) : Prop :=
  match check with
  | 1 => ∃ e, w.slots[k]? = some e ∧ w.freq.getD e.freq none = none
  | 2 => ∃ m, w.mix[k]? = some (some m) ∧ ¬ (m.primary < 12 ∧ m.primary < w.slots.length)
  | 3 => ∃ m, w.mix[k]? = some (some m) ∧ ¬ (m.secondary < 12 ∧ m.secondary < w.slots.length)
  | 4 => ∃ m, w.mix[k]? = some (some m) ∧ m.primary = m.secondary
  | 5 => k = 0 ∧ ¬ w.hasChannel w.detect.channel
  | 6 => k = 1 ∧ w.detect.gateHigh < w.detect.gateLow
  | 7 => k = 0 ∧ ¬ w.hasChannel w.landmark.channel
  | 8 => ∃ j a b, k = j + 1 ∧ w.supports[j]? = some a ∧ w.supports[k]? = some b ∧ b ≤ a
  | 9 => k = 0 ∧ w.curve.length = 1
  | 10 => ∃ j a b, k = j + 1 ∧ w.curve[j]? = some a ∧ w.curve[k]? = some b ∧ b.phase ≤ a.phase
  | 11 => ∃ n, w.stream.channels[k]? = some n ∧ ¬ w.hasChannel n
  | 12 => ∃ n, w.stream.channels[k]? = some n ∧ n ∈ w.stream.channels.take k
  | _ => False

/-- What a failing check is reported as (R26). -/
def planFaultOf (check k : Nat) : PlanFault :=
  match check with
  | 1 => { sec := .slots, item := k, kind := .absentFrequency }
  | 2 => { sec := .mix, item := k, kind := .badMixInput }
  | 3 => { sec := .mix, item := k, kind := .badMixInput }
  | 4 => { sec := .mix, item := k, kind := .sameMixInput }
  | 5 => { sec := .detect, item := k, kind := .noSuchChannel }
  | 6 => { sec := .detect, item := k, kind := .gateOrder }
  | 7 => { sec := .landmark, item := k, kind := .noSuchChannel }
  | 8 => { sec := .supports, item := k, kind := .notAscending }
  | 9 => { sec := .curve, item := k, kind := .onePoint }
  | 10 => { sec := .curve, item := k, kind := .notAscending }
  | 11 => { sec := .stream, item := k, kind := .noSuchChannel }
  | _ => { sec := .stream, item := k, kind := .duplicate }

/-- The checks made together, item by item: 2 to 4, and 11 and 12 (R26). -/
def checkGroup (check : Nat) : Nat := if check = 3 ∨ check = 4 then 2 else if check = 12 then 11 else check

/-- One check at one item is made before another: by the group, within it by the item, within that by the check (R26). -/
def MadeBefore (check k check' k' : Nat) : Prop :=
  checkGroup check < checkGroup check' ∨
    (checkGroup check = checkGroup check' ∧ (k < k' ∨ (k = k' ∧ check < check')))

/-- Up to sixteen entries of a list from an index on, each with its index (R147). -/
def sixteenFrom {α : Type} (first : Nat) (l : List α) : List (Nat × α) :=
  (List.range 16).filterMap fun j => (l[first + j]?).map fun e => (first + j, e)

/-! ### The laws of every state -/

/-- The link controller's law (R175, R180, R181): the capacities; one place for each held request; a reply that
answers a held request names the place of an answered one, and no two name the same. -/
def LinkLaw (s : State) : Prop :=
  s.link.buffer.length ≤ Config.requestPlaces ∧
  (s.link.buffer.map HeldRequest.place).Nodup ∧
  (s.link.replies.filterMap Reply.place).Nodup ∧
  (∀ n ∈ s.link.replies.filterMap Reply.place, ∃ h ∈ s.link.buffer, h.place = n ∧ h.answered = true) ∧
  refusalsWaiting s.link ≤ Config.refusalPlaces ∧
  s.link.reports.length ≤ Config.reportPlaces ∧
  s.link.deframer.content.length ≤ Config.contentMax

/-- The law of the requests that take time (R85, R142, R181): a held request not yet answered is the NULL_CHANNELS
of a port in NULLING or the CLOSE_TUBE of a port whose close hold is set, and a port has at most one of each. -/
def HeldLaw (s : State) : Prop :=
  (∀ h ∈ s.link.buffer, h.inProgress → ∃ p : PortId, h.port = p.byte ∧
    ((h.kind = .nullChannels ∧ s.mode p = .nulling) ∨ (h.kind = .closeTube ∧ (s.port p).seq.closeHold = true))) ∧
  (∀ h ∈ s.link.buffer, ∀ h' ∈ s.link.buffer, h.inProgress → h'.inProgress → h.kind = h'.kind → h.port = h'.port → h = h')

/-- A record's law (R125, R139 to R141): the capacities of its lists, the tally of its indications, and their order. -/
def Record.lawful (r : Record) : Prop :=
  r.landmarks.length ≤ Config.landmarkEntries ∧ r.indications.length ≤ Config.indicationEntries ∧
  r.gaps.length ≤ Config.gapEntries ∧ r.indications.length + r.counters.overflow = r.counters.accepted ∧
  r.indications.Pairwise fun a b => b.pos ≤ a.pos

/-- The records in the pool. -/
def State.records (s : State) : List Record := s.store.slots.filterMap RecordSlot.record

/-- The law of every record in the pool. -/
def ListLaw (s : State) : Prop := ∀ r ∈ s.records, r.lawful

/-- The open records of a port. -/
def State.openRecords (s : State) (p : PortId) : List Record := s.store.slots.filterMap (RecordSlot.openFor p)

/-- The READY records in the pool. -/
def State.readyRecords (s : State) : List Record := s.store.slots.filterMap RecordSlot.readyRecord

/-- The pool's law (R130 to R133): twelve slots; an OPEN record exactly in ARMED and ACQUIRING, and then one; record
numbers 1 to 65,535, no two alike; the ready order lists the READY records once each. -/
def PoolLaw (s : State) : Prop :=
  s.store.slots.length = Config.recordSlots ∧
  (∀ p, (s.openRecords p).length = if (s.mode p).hasRecord then 1 else 0) ∧
  (s.records.map Record.number).Nodup ∧
  (∀ r ∈ s.records, 1 ≤ r.number ∧ r.number ≤ 65535) ∧
  1 ≤ s.store.counter ∧ s.store.counter ≤ 65535 ∧
  s.store.ready.Perm (s.readyRecords.map Record.number)

/-- The law of a port controller, its sequencer and its plan store (R1, R2, R29, R48 to R53): a scan runs in the three
scanning states alone, the timer and an owed start in NULLING and ARMED, a held start in ACQUIRING, a close hold with
an open record; twelve run counts below 3, all 0 where no scan runs; the fault detail present in FAULT alone; a plan
pending in the scanning states alone. -/
def PortBlocks.lawful (b : PortBlocks) : Prop :=
  (b.seq.scan.isSome = true → b.ctl.mode.scanning = true) ∧
  (b.seq.timer.isSome = true ∨ b.seq.owed = true → b.ctl.mode = .nulling ∨ b.ctl.mode = .armed) ∧
  (b.seq.held.isSome = true → b.ctl.mode = .acquiring) ∧
  (b.seq.closeHold = true → b.ctl.mode.hasRecord = true) ∧
  b.ctl.runs.length = Config.rawChannels ∧ (∀ n ∈ b.ctl.runs, n < Config.coilFaultRun) ∧
  (b.ctl.mode.scanning = false → ∀ n ∈ b.ctl.runs, n = 0) ∧
  (b.ctl.fault.isSome = true ↔ b.ctl.mode = .fault) ∧
  (b.plan.pending = true → b.ctl.mode.scanning = true)

/-- The law of every port. -/
def PortLaw (s : State) : Prop := ∀ p, (s.port p).lawful

/-- The law of a drive channel (R152's table of states): what each state holds and awaits. -/
def DriveChannel.lawful (d : DriveChannel) : Prop :=
  d.queue.length ≤ Config.driveQueuePlaces ∧
  (d.awaited.map AwaitedAccept.kind =
    match d.state with
    | .awaitAccept => some .move
    | .awaitHalt => some .halt
    | .holding => if d.awaited.isSome then some .release else none
    | .released => none
    | .moving => none
    | .lost => none) ∧
  (d.current.isSome = true ↔ d.state = .awaitAccept ∨ (d.state = .moving ∧ d.deferred = none)) ∧
  (d.limit.isSome = true ∨ d.doneDeadline.isSome = true → d.state = .moving) ∧
  (d.deferred.isSome = true → d.limit.isSome = true ∧ d.doneDeadline = none) ∧
  (d.state = .lost → d.queue = [])

/-- The law of every drive channel. -/
def DriveLaw (s : State) : Prop := ∀ p, (s.port p).drive.lawful

/-- Whether the scan in flight of a port is a DISTANCE scan. -/
def Sequencer.inDistance (q : Sequencer) : Bool :=
  match q.scan with
  | none => false
  | some sc => decide (sc.kind = .distance)

/-- The fired points that have neither completed a scan nor been counted as missed: the one of a DISTANCE scan in
flight, or point 0 while its start is held (R50, R67). -/
def Sequencer.openPoints (q : Sequencer) : Nat := if q.inDistance || q.held.isSome then 1 else 0

/-- The tally of trigger points on a port (R67, R138): a record of ARMED has counted none; in ACQUIRING every fired
point, 0 up to the one before the next, is a scan taken, a point missed, or the one still open. A start is held only
behind a TIME scan. -/
def PortTally (s : State) (p : PortId) : Prop :=
  (s.mode p = .armed → (s.port p).seq.inDistance = false ∧
    ∀ r ∈ s.openRecords p, r.counters.scansTaken = 0 ∧ r.counters.missed = 0) ∧
  (s.mode p = .acquiring → ∃ g, (s.port p).travel.grid = some g ∧
    ((s.port p).seq.held.isSome = true → (s.port p).seq.scan.isSome = true ∧ (s.port p).seq.inDistance = false) ∧
    ∀ r ∈ s.openRecords p, r.counters.scansTaken + r.counters.missed + (s.port p).seq.openPoints = g.next)

/-- The tally of trigger points on every port. -/
def TallyLaw (s : State) : Prop := ∀ p, PortTally s p

/-- The law of a port's position correction (R122, R128): within the matched count times the tolerance in force, and 0
with a matched count of 0 where no record is open. -/
def CorrectionLaw (s : State) : Prop :=
  ∀ p, (s.port p).land.correction.natAbs ≤ (s.port p).land.matched * (s.working p).landmark.tolerance ∧
    ((s.mode p).hasRecord = false → (s.port p).land.correction = 0 ∧ (s.port p).land.matched = 0)

/-- Every field of a plan lies in its range, and every list in its count (R20, R23). -/
def Plan.InRange (w : Plan) : Prop :=
  w.freq.length = 4 ∧ (∀ v, some v ∈ w.freq → v ∈ Finset.Icc 50 10000) ∧
  w.slots.length ∈ Finset.Icc 1 12 ∧ (∀ e ∈ w.slots, e.freq ≤ 3 ∧ e.settle ≤ 15 ∧ e.integrate ∈ Finset.Icc 1 64) ∧
  w.cal.length = 12 ∧ (∀ e ∈ w.cal, e.rotation ≤ 3599 ∧ e.gain ∈ Finset.Icc 1 65535) ∧
  w.mix.length = 4 ∧
  (∀ m, some m ∈ w.mix → m.primary ≤ 15 ∧ m.secondary ≤ 15 ∧ m.rotation ≤ 3599 ∧ m.gain ∈ Finset.Icc 1 65535) ∧
  (w.detect.channel ≤ 15 ∧ w.detect.tOpen ∈ Finset.Icc 1 32767 ∧ w.detect.tClose ≤ 32767 ∧
    w.detect.qClose ∈ Finset.Icc 1 64 ∧ w.detect.lMax ∈ Finset.Icc 8 1024 ∧ w.detect.aMin ∈ Finset.Icc 1 65535 ∧
    w.detect.gateLow ≤ 300000 ∧ w.detect.gateHigh ≤ 300000) ∧
  (w.landmark.channel ≤ 15 ∧ w.landmark.lOpen ∈ Finset.Icc 1 32767 ∧ w.landmark.lClose ≤ 32767 ∧
    w.landmark.qLand ∈ Finset.Icc 1 64 ∧ w.landmark.tolerance ∈ Finset.Icc 1 500 ∧ w.landmark.exitPos ≤ 300000) ∧
  w.supports.length ≤ 24 ∧ (∀ v ∈ w.supports, v ≤ 300000) ∧
  w.curve.length ≤ 8 ∧ (∀ e ∈ w.curve, e.phase ≤ 3599 ∧ e.depth ≤ 100) ∧
  (w.travel.step ∈ Finset.Icc 250 10000 ∧ w.travel.scale ∈ Finset.Icc 1 1000 ∧ w.travel.startTravel ∈ Finset.Icc 1 500 ∧
    w.travel.period ∈ Finset.Icc 100 100000 ∧ w.travel.deglitch ≤ 63) ∧
  w.stream.channels.length ≤ 8 ∧ (∀ n ∈ w.stream.channels, n ≤ 15) ∧ w.stream.decimation ∈ [1, 2, 4, 8] ∧
  w.stream.width ∈ [8, 16]

/-- A plan as a commit that passes leaves it: no check of R26 fails, and the clamps of R28 hold. -/
def Plan.Committed (w : Plan) : Prop :=
  w.validate = none ∧ w.detect.tClose ≤ w.detect.tOpen ∧ w.landmark.lClose ≤ w.landmark.lOpen ∧ w.travel.scale ≤ w.travel.step

/-- The law of a port's plans and what hangs on them: both copies in range, the working plan and a pending one as a commit
leaves them (R23, R28, R29); the period and the slot table of the working plan, and the two speeds (R38, R40, R70); twelve
null entries, those beyond the slot table (0, 0) and unbalanced (R84); an accumulation in NULLING alone, with no sum beyond
the slot table (R85). -/
def PortBlocks.planLawful (b : PortBlocks) : Prop :=
  b.plan.working.InRange ∧ b.plan.staged.InRange ∧ b.plan.working.Committed ∧
  (b.plan.pending = true → b.plan.staged.Committed) ∧
  b.seq.periods = b.plan.working.periods ∧ b.seq.slots = b.plan.working.slotTable ∧
  b.seq.duration = (b.seq.slots.map SlotInForce.slotTime).sum ∧
  b.travel.limitSpeed = b.plan.working.travel.step * 40000 / b.seq.duration ∧
  b.travel.guardLimit = b.travel.limitSpeed * 9 / 10 ∧
  b.chan.nulls.length = 12 ∧
  (∀ k e, b.chan.nulls[k]? = some e → b.seq.slots.length ≤ k → e = { x0 := 0, y0 := 0, balanced := false }) ∧
  (∀ a, b.chan.accum = some a → b.ctl.mode = .nulling ∧ a.sums.length ≤ b.seq.slots.length)

/-- The law of every port's plans. -/
def PlanLaw (s : State) : Prop := ∀ p, (s.port p).planLawful

/-- The law of every stream ring: at most 32 frames (R170). -/
def RingLaw (s : State) : Prop := ∀ p, (s.port p).stream.ring.length ≤ Config.ringFrames

end Sys2Proof.Machine
end

