-- ==== Sys2Proof/Certificates/Slice0/Obligations.lean ====
section
/-! DEFINITION. The statements for the provers, in the order of OBLIGATIONS.json. -/

open Sys2Proof Sys2Proof.Machine

/-! ### The queue, power and the link's receive side -/

/-- A step takes the command at the front of the queue and is exec of it with the queue's rest; on an empty queue the part
idles. The manual has no queue: idling is the model's choice, log entry 3. -/
def Obligations.StepRunsFrontCommand : Prop :=
  (∀ (c : Instr) (rest : List Instr) (s : State), s.pending = c :: rest → step s = exec c { s with pending := rest }) ∧
  ∀ s : State, s.pending = [] → step s = .next s

/-- Every command completes in every state, leaves the queue as it finds it, and never turns the clock back. These are the
model's choices: that the clock never turns back is log entry 1, that the queue is the world's and stands log entries 18
and 19, and that an event of a timer that does not run completes without effect log entry 4. -/
def Obligations.EveryCommandCompletes : Prop :=
  ∀ (c : Instr) (s : State), ∃ t, exec c s = .next t ∧ t.pending = s.pending ∧ s.now ≤ t.now

/-- POWER_ON brings every block to its power-on values: ports OFF, default plans with the tables and speeds they give,
offsets (0, 0) and unbalanced, travel and filters at rest, an empty pool, a quiet link (R18, R36, R37, R55, R149, R185).
What the clock, the queue and the pins do is the model's choice, log entry 18, and that the quadrature state stands low
until PORT_ENABLE loads it log entry 5. -/
def Obligations.PowerOnBringsUp : Prop :=
  ∀ s : State, ∃ t, exec .powerOn s = .next t ∧
    (∀ p, (t.port p).ctl = { mode := .off, previous := .off, lastCause := .powerOn, runs := List.replicate 12 0, fault := none } ∧
      (t.port p).plan = { working := .default, staged := .default, pending := false, generation := 0 } ∧
      (t.port p).chan = { nulls := List.replicate 12 { x0 := 0, y0 := 0, balanced := false }, held := [], accum := none } ∧
      (t.port p).seq = {
        periods := Plan.default.periods, slots := Plan.default.slotTable, duration := 4080, scan := none, timer := none,
        owed := false, held := none, closeHold := false, seqNo := 0 } ∧
      (let in1 := (s.port p).travel.track1.input
       let in2 := (s.port p).travel.track2.input
       (t.port p).travel = {
        track1 := { input := in1, level := in1, since := none }, track2 := { input := in2, level := in2, since := none },
        quad := { one := false, two := false }, raw := 0, startAcc := 0, pushAcc := 0, reversalMark := false, illegal := 0,
        grid := none, low := none, run := none, lastStarted := none, lastScan := none, limitSpeed := 9803,
        guardLimit := 8822 }) ∧
      (t.port p).det = .clear ∧ (t.port p).land = .clear ∧ (t.port p).stream = .clear ∧ (t.port p).drive = .powerOn) ∧
    t.store = { slots := List.replicate 12 .free, ready := [], counter := 1 } ∧
    t.link.buffer = [] ∧ t.link.replies = [] ∧ t.link.reports = [] ∧ t.link.sending = none ∧ t.link.lastServed = .d ∧
    t.link.deframer = { state := .hunt, content := [] } ∧
    t.link.counters = { crcDiscards := 0, framingDiscards := 0, reportsLost := 0, refusalsNotSent := 0 } ∧
    t.now = s.now ∧ t.pending = s.pending

/-- Every well-formed request is read back from the payload that spells it, and its kind from its code; and escaped
content of any kind, which holds no delimiter, is read back from the line (R176, R188, R189). -/
def Obligations.RequestsReadBack : Prop :=
  (∀ (c : Instr) (k : RequestKind) (tag port : Byte), c.wellFormed = true → c.request? = some (k, tag, port) →
    RequestKind.ofCode k.code = some k ∧ parsePayload k tag port (encodePayload c) = some c) ∧
  ∀ content : List Byte, Wire.unescaped ((Wire.escaped content).map .byte) = some content ∧
    Wire.delimiter ∉ Wire.escaped content

/-- The delimiter that ends the intact frame of a well-formed request does what the request's own command does, with the
deframer IN_FRAME and empty and the clock brought to the frame's tick: the request is refused at once, or held and handed
to its block in the same step (R178 to R180). That a command stands for its whole frame is the model's choice, log entry 2. -/
def Obligations.IntactFrameIsHandedOn : Prop :=
  ∀ (s : State) (time : Nat) (c : Instr) (content : List Byte),
    c.wellFormed = true → encodeRequest c = some content → s.link.deframer = { state := .inFrame, content := content } →
    let received := { s with
      now := max s.now time, link := { s.link with deframer := { state := .inFrame, content := [] } } }
    exec (.hostFrameReceived time) s = exec c received ∧
    exec (.hostLinkByteReceived time (.byte 0x7E)) s = exec c received

/-- R178: the checks of a frame ended by a delimiter, in their order. A discarded frame makes no reply and is counted;
an intact frame goes to R179. -/
def Obligations.FrameChecks : Prop :=
  ∀ (s : State) (time : Nat) (content : List Byte), content ≠ [] →
    s.link.deframer = { state := .inFrame, content := content } →
    ∃ t, exec (.hostFrameReceived time) s = .next t ∧ t.link.deframer = { state := .inFrame, content := [] } ∧
      (content.length < 7 → t.link.counters = { s.link.counters with framingDiscards := satInc s.link.counters.framingDiscards } ∧
        t.unsentReplies = s.unsentReplies) ∧
      (7 ≤ content.length → (Wire.crc16 (content.take (content.length - 2))).toNat ≠ Wire.u16 content (content.length - 2) →
        t.link.counters = { s.link.counters with crcDiscards := satInc s.link.counters.crcDiscards } ∧
        t.unsentReplies = s.unsentReplies) ∧
      (7 ≤ content.length → (Wire.crc16 (content.take (content.length - 2))).toNat = Wire.u16 content (content.length - 2) →
        Wire.u16 content 3 ≠ content.length - 7 →
        t.link.counters = { s.link.counters with framingDiscards := satInc s.link.counters.framingDiscards } ∧
        t.unsentReplies = s.unsentReplies) ∧
      (7 ≤ content.length → (Wire.crc16 (content.take (content.length - 2))).toNat = Wire.u16 content (content.length - 2) →
        Wire.u16 content 3 = content.length - 7 →
        exec (.hostFrameReceived time) s = takeFrame (content.getD 0 0) (content.getD 1 0) (content.getD 2 0)
          ((content.drop 5).take (content.length - 7)) (setDeframer .inFrame [] (advance time s)))

/-- R177: the deframer's table, for every byte. A delimiter that ends a frame leaves the deframer IN_FRAME with the content
empty and has the content checked, as HOST_FRAME_RECEIVED does. -/
def Obligations.DeframerTable : Prop :=
  (∀ (s : State) (time : Nat) (content : List Byte), content ≠ [] →
    s.link.deframer = { state := .inFrame, content := content } →
    ∃ t, exec (.hostLinkByteReceived time (.byte 0x7E)) s = .next t ∧
      exec (.hostFrameReceived time) s = .next t ∧ t.link.deframer = { state := .inFrame, content := [] } ∧
      endFrame content (setDeframer .inFrame [] (advance time s)) = .next t) ∧
  ∀ (s : State) (time : Nat) (b : LineByte) (d : Deframer), s.link.deframer = d →
    ¬ (d.state = .inFrame ∧ d.content ≠ [] ∧ b = .byte 0x7E) →
    ∃ t, exec (.hostLinkByteReceived time b) s = .next t ∧ t.unsentReplies = s.unsentReplies ∧
      t.unsentReports = s.unsentReports ∧ (∀ q, (t.port q).sansRing = (s.port q).sansRing) ∧ t.store = s.store ∧
      t.pending = s.pending ∧ t.now = max s.now time ∧
      (d.state = .hunt → t.link.counters = s.link.counters ∧
        t.link.deframer = if b = .byte 0x7E then { state := .inFrame, content := [] } else d) ∧
      (d.state = .inFrame → b = .byte 0x7E → t.link.counters = s.link.counters ∧ t.link.deframer = d) ∧
      (d.state = .inFrame → b = .byte 0x7D → t.link.counters = s.link.counters ∧
        t.link.deframer = { d with state := .escape }) ∧
      (∀ v, b = .byte v → (d.state = .inFrame ∧ v ≠ 0x7E ∧ v ≠ 0x7D) → d.content.length < 1031 →
        t.link.counters = s.link.counters ∧ t.link.deframer = { state := .inFrame, content := d.content ++ [v] }) ∧
      (d.state = .escape → (b = .byte 0x5E ∨ b = .byte 0x5D) → d.content.length < 1031 →
        t.link.counters = s.link.counters ∧
        t.link.deframer = { state := .inFrame, content := d.content ++ [if b = .byte 0x5E then 0x7E else 0x7D] }) ∧
      (d.state = .escape → b = .byte 0x7E →
        t.link.counters = { s.link.counters with framingDiscards := satInc s.link.counters.framingDiscards } ∧
        t.link.deframer = { state := .inFrame, content := [] }) ∧
      ((d.state ≠ .hunt ∧ b = .error) ∨ (d.state = .escape ∧ b ≠ .byte 0x7E ∧ b ≠ .byte 0x5E ∧ b ≠ .byte 0x5D) ∨
        (d.state = .inFrame ∧ b ≠ .byte 0x7E ∧ b ≠ .byte 0x7D ∧ 1031 ≤ d.content.length) ∨
        (d.state = .escape ∧ (b = .byte 0x5E ∨ b = .byte 0x5D) ∧ 1031 ≤ d.content.length) →
        t.link.counters = { s.link.counters with framingDiscards := satInc s.link.counters.framingDiscards } ∧
        t.link.deframer = { state := .hunt, content := [] })

/-- R179 on the 29 requests, as commands and as intact frames of any kind, tag, port byte and payload: the first test that
fails gives an immediate refusal (UNKNOWN_REQUEST, BAD_PORT, BAD_LENGTH, BUSY), the request does nothing, and at 8 immediate
refusals the frame is dropped and counted. That a command stands for its frame is the model's choice, log entry 2. -/
def Obligations.RefusedAtOnce : Prop :=
  let refused := fun (s t : State) (kind tag port : Byte) (code : RefusalCode) =>
    t.ports = s.ports ∧ t.store = s.store ∧ t.pending = s.pending ∧ t.unsentReports = s.unsentReports ∧
    (refusalsWaiting s.link < 8 → t.link.counters = s.link.counters ∧
      t.unsentReplies = s.unsentReplies ++
        [{ place := none, kind := kind, tag := tag, port := port, body := .refused code none }]) ∧
    (8 ≤ refusalsWaiting s.link → t.unsentReplies = s.unsentReplies ∧
      t.link.counters = { s.link.counters with refusalsNotSent := satInc s.link.counters.refusalsNotSent })
  (∀ (s : State) (c : Instr) (k : RequestKind) (tag port : Byte) (code : RefusalCode),
    c.request? = some (k, tag, port) →
    (if k.actsOnPort = true ∧ 3 < port.toNat then some RefusalCode.badPort
      else if Instr.lengthAllowed c = false then some .badLength
      else if 8 ≤ s.link.buffer.length then some .busy else none) = some code →
    ∃ t, exec c s = .next t ∧ refused s t k.code tag port code ∧ t.now = s.now ∧ t.link.deframer = s.link.deframer) ∧
  ∀ (s : State) (time : Nat) (kind tag port : Byte) (payload : List Byte) (code : RefusalCode), payload.length ≤ 1024 →
    s.link.deframer = { state := .inFrame, content := Wire.frameContent kind tag port payload } →
    (match RequestKind.ofCode kind with
      | none => some RefusalCode.unknownRequest
      | some k =>
        if k.actsOnPort = true ∧ 3 < port.toNat then some .badPort
        else if parsePayload k tag port payload = none then some .badLength
        else if 8 ≤ s.link.buffer.length then some .busy else none) = some code →
    ∃ t, exec (.hostFrameReceived time) s = .next t ∧ refused s t kind tag port code ∧ t.now = max s.now time ∧
      t.link.deframer = { state := .inFrame, content := [] }

/-! ### Requests turned away -/

/-- The seven requests that need a state of the port are answered BAD_STATE in every other, and change nothing: in OFF
(R8), in FAULT (R11), and as R5, R12, R85, R134, R142 and R126 give. Other refusals of taken requests, each with nothing
else changed: NO_RECORD_SLOT (R134), NO_SUCH_RECORD of a fetch (R147), DRIVE_LOST and QUEUE_FULL (R153), PLAN_INVALID with
the first fault (R27; ValidationAdmits says which that is). -/
def Obligations.RequestsRefused : Prop :=
  ∀ (s : State) (p : PortId) (tag port : Byte), LinkLaw s →
    (Accepts s (.portEnable tag p.byte) .portEnable p.byte → s.mode p ≠ .off →
      OnlyAnswers s (.portEnable tag p.byte) .portEnable tag p.byte (.refused .badState none)) ∧
    (Accepts s (.clearFault tag p.byte) .clearFault p.byte → s.mode p ≠ .fault →
      OnlyAnswers s (.clearFault tag p.byte) .clearFault tag p.byte (.refused .badState none)) ∧
    (Accepts s (.nullChannels tag p.byte) .nullChannels p.byte → s.mode p ≠ .idle →
      OnlyAnswers s (.nullChannels tag p.byte) .nullChannels tag p.byte (.refused .badState none)) ∧
    (∀ row column sec p0, Accepts s (.openTube tag p.byte row column sec p0) .openTube p.byte → s.mode p ≠ .idle →
      OnlyAnswers s (.openTube tag p.byte row column sec p0) .openTube tag p.byte (.refused .badState none)) ∧
    (Accepts s (.closeTube tag p.byte) .closeTube p.byte →
      (s.mode p ≠ .armed ∧ s.mode p ≠ .acquiring) ∨ (s.port p).seq.closeHold = true →
      OnlyAnswers s (.closeTube tag p.byte) .closeTube tag p.byte (.refused .badState none)) ∧
    (Accepts s (.mark tag p.byte) .mark p.byte → s.mode p ≠ .acquiring ∨ (s.port p).seq.closeHold = true →
      OnlyAnswers s (.mark tag p.byte) .mark tag p.byte (.refused .badState none)) ∧
    (∀ entries, Accepts s (.driveQueue tag p.byte entries) .driveQueue p.byte → s.mode p = .off →
      OnlyAnswers s (.driveQueue tag p.byte entries) .driveQueue tag p.byte (.refused .badState none)) ∧
    (∀ row column sec p0, Accepts s (.openTube tag p.byte row column sec p0) .openTube p.byte → s.mode p = .idle →
      (∀ slot ∈ s.store.slots, slot ≠ .free) →
      OnlyAnswers s (.openTube tag p.byte row column sec p0) .openTube tag p.byte (.refused .noRecordSlot none)) ∧
    (∀ number sec first, Accepts s (.recordFetch tag port number sec first) .recordFetch port →
      (∀ r ∈ s.records, r.number ≠ number) →
      OnlyAnswers s (.recordFetch tag port number sec first) .recordFetch tag port (.refused .noSuchRecord none)) ∧
    (∀ entries, Accepts s (.driveQueue tag p.byte entries) .driveQueue p.byte → s.mode p ≠ .off →
      (s.port p).drive.state = .lost →
      OnlyAnswers s (.driveQueue tag p.byte entries) .driveQueue tag p.byte (.refused .driveLost none)) ∧
    (∀ entries, Accepts s (.driveQueue tag p.byte entries) .driveQueue p.byte → s.mode p ≠ .off →
      (s.port p).drive.state ≠ .lost → 8 < (s.port p).drive.queue.length + entries.length →
      OnlyAnswers s (.driveQueue tag p.byte entries) .driveQueue tag p.byte (.refused .queueFull none)) ∧
    (∀ f, Accepts s (.planCommit tag p.byte) .planCommit p.byte → (s.port p).plan.pending = false →
      (s.port p).plan.staged.validate = some f →
      OnlyAnswers s (.planCommit tag p.byte) .planCommit tag p.byte (.refused .planInvalid (some f)))

/-- With the pending flag set every section request is refused with PLAN_PENDING and the staged plan is unchanged
(R21), and PLAN_COMMIT is answered PENDING with an empty clamp report and changes nothing (R25). -/
def Obligations.PendingPlanIsLocked : Prop :=
  ∀ (s : State) (p : PortId) (tag : Byte), LinkLaw s → (s.port p).plan.pending = true →
    (∀ e, Accepts s (.planFreq tag p.byte e) .planFreq p.byte →
      OnlyAnswers s (.planFreq tag p.byte e) .planFreq tag p.byte (.refused .planPending none)) ∧
    (∀ e, Accepts s (.planSlots tag p.byte e) .planSlots p.byte →
      OnlyAnswers s (.planSlots tag p.byte e) .planSlots tag p.byte (.refused .planPending none)) ∧
    (∀ e, Accepts s (.planCal tag p.byte e) .planCal p.byte →
      OnlyAnswers s (.planCal tag p.byte e) .planCal tag p.byte (.refused .planPending none)) ∧
    (∀ e, Accepts s (.planMix tag p.byte e) .planMix p.byte →
      OnlyAnswers s (.planMix tag p.byte e) .planMix tag p.byte (.refused .planPending none)) ∧
    (∀ e, Accepts s (.planDetect tag p.byte e) .planDetect p.byte →
      OnlyAnswers s (.planDetect tag p.byte e) .planDetect tag p.byte (.refused .planPending none)) ∧
    (∀ e, Accepts s (.planLandmark tag p.byte e) .planLandmark p.byte →
      OnlyAnswers s (.planLandmark tag p.byte e) .planLandmark tag p.byte (.refused .planPending none)) ∧
    (∀ e, Accepts s (.planSupports tag p.byte e) .planSupports p.byte →
      OnlyAnswers s (.planSupports tag p.byte e) .planSupports tag p.byte (.refused .planPending none)) ∧
    (∀ e, Accepts s (.planCurve tag p.byte e) .planCurve p.byte →
      OnlyAnswers s (.planCurve tag p.byte e) .planCurve tag p.byte (.refused .planPending none)) ∧
    (∀ e, Accepts s (.planTravel tag p.byte e) .planTravel p.byte →
      OnlyAnswers s (.planTravel tag p.byte e) .planTravel tag p.byte (.refused .planPending none)) ∧
    (∀ e, Accepts s (.planStream tag p.byte e) .planStream p.byte →
      OnlyAnswers s (.planStream tag p.byte e) .planStream tag p.byte (.refused .planPending none)) ∧
    (Accepts s (.planCommit tag p.byte) .planCommit p.byte →
      OnlyAnswers s (.planCommit tag p.byte) .planCommit tag p.byte
        (.done (.commit .pending (s.port p).plan.generation [])))

/-! ### Requests that read -/

/-- PORT_DISABLE in OFF, PORT_STATUS, PLAN_READ, DRIVE_STATUS, LINK_STATUS, RECORD_LIST and RECORD_FETCH are answered DONE
at once with what stands, and change nothing (R6, R17, R34, R163, R184, R146, R147). That the reply of the PORT_DISABLE
carries the state OFF is the model's choice, log entry 20; that a fetch of an OPEN record shows no grid origin position is
its reading of R136, log entry 29; and that a fetch of the HEADER section sends the received first index back is its choice,
log entry 31. -/
def Obligations.ReadsChangeNothing : Prop :=
  ∀ (s : State) (p : PortId) (tag port : Byte), LinkLaw s →
    (Accepts s (.portStatus tag p.byte) .portStatus p.byte →
      OnlyAnswers s (.portStatus tag p.byte) .portStatus tag p.byte (.done (.portStatus {
        mode := (s.port p).ctl.mode, previous := (s.port p).ctl.previous, lastCause := (s.port p).ctl.lastCause,
        fault := (s.port p).ctl.fault,
        runs := (s.port p).ctl.runs.mapIdx (fun k n => if k < (s.port p).seq.slots.length then n else 0),
        closePending := (s.port p).seq.closeHold,
        nullProgress := if s.mode p = .nulling then (s.port p).chan.accum.map NullAccumulation.count else none,
        openRecord := (s.openRecords p).head?.map Record.number, seqNo := (s.port p).seq.seqNo,
        rawTenths := min 300000 ((s.port p).travel.raw / 100).toNat,
        corrected := if s.mode p = .acquiring then (s.port p).travel.lastScan.map (fun l => min 300000 l.corrected.toNat) else none,
        generation := (s.port p).plan.generation, pending := (s.port p).plan.pending, drive := (s.port p).drive.state }))) ∧
    (Accepts s (.portDisable tag p.byte) .portDisable p.byte → s.mode p = .off →
      OnlyAnswers s (.portDisable tag p.byte) .portDisable tag p.byte (.done (.left .off))) ∧
    (∀ sec copy, Accepts s (.planRead tag p.byte sec copy) .planRead p.byte →
      let w := if copy = 0 then (s.port p).plan.staged else (s.port p).plan.working
      let content : SectionContent :=
        if sec = 0 then .freq w.freq
          (if copy = 0 then w.freq.map (fun _ => none) else (s.port p).seq.periods.map (Option.map fun n => 40000000 / n))
        else if sec = 1 then .slots w.slots
        else if sec = 2 then .cal w.cal
        else if sec = 3 then .mix w.mix
        else if sec = 4 then .detect w.detect
        else if sec = 5 then .landmark w.landmark
        else if sec = 6 then .supports w.supports
        else if sec = 7 then .curve w.curve
        else if sec = 8 then .travel w.travel
        else .stream w.stream
      OnlyAnswers s (.planRead tag p.byte sec copy) .planRead tag p.byte
        (.done (.planRead content (s.port p).plan.generation (s.port p).plan.pending))) ∧
    (Accepts s (.driveStatus tag p.byte) .driveStatus p.byte →
      OnlyAnswers s (.driveStatus tag p.byte) .driveStatus tag p.byte
        (.done (.driveStatus
          { state := (s.port p).drive.state, queueLength := (s.port p).drive.queue.length,
            current := (s.port p).drive.current.map CurrentMove.move,
            awaited := (s.port p).drive.awaited.map AwaitedAccept.kind,
            limitAwaited := (s.port p).drive.limit.isSome, lastLimit := (s.port p).drive.lastLimit }))) ∧
    (PoolLaw s → Accepts s (.recordList tag port) .recordList port → ∃ ready,
      OnlyAnswers s (.recordList tag port) .recordList tag port
        (.done (.recordList ready
          ([PortId.a, .b, .c, .d].flatMap fun q => (s.openRecords q).map fun r => (r.number, q)))) ∧
      ready.map Prod.fst = s.store.ready ∧ ∀ e ∈ ready, ∃ r ∈ s.readyRecords, r.number = e.1 ∧ r.port = e.2) ∧
    (∀ number sec first r, PoolLaw s → r ∈ s.records → r.number = number →
      Accepts s (.recordFetch tag port number sec first) .recordFetch port →
      let fetched := fun (code : Nat) (last : Bool) (content : FetchContent) =>
        OnlyAnswers s (.recordFetch tag port number sec first) .recordFetch tag port
          (.done (.fetched number code first last content))
      (sec = 0 → .ready r ∈ s.store.slots → fetched 0 true (.header r)) ∧
      (sec = 0 → .opened r ∈ s.store.slots → fetched 0 true (.header { r with
        gridOrigin := none, finalPos := none, finalCorrection := none, closeReason := none, matched := none,
        notReached := none })) ∧
      (sec = 1 → fetched 1 (decide (r.landmarks.length ≤ first + 16)) (.landmarks (sixteenFrom first r.landmarks))) ∧
      (sec = 2 → fetched 2 (decide (r.indications.length ≤ first + 16)) (.indications (sixteenFrom first r.indications))) ∧
      (3 ≤ sec → fetched 3 (decide (r.gaps.length ≤ first + 16)) (.gaps (sixteenFrom first r.gaps)))) ∧
    (Accepts s (.linkStatus tag port) .linkStatus port →
      OnlyAnswers s (.linkStatus tag port) .linkStatus tag port
        (.done (.linkStatus
          { counters := s.link.counters, refusals := refusalsWaiting s.link,
            held := s.link.buffer.length + 1,
            reports := s.link.reports.length, ringA := (s.port .a).stream.ring.length,
            ringB := (s.port .b).stream.ring.length, ringC := (s.port .c).stream.ring.length,
            ringD := (s.port .d).stream.ring.length })))

/-! ### Port requests -/

/-- PORT_ENABLE in OFF and CLEAR_FAULT in FAULT: the port enters IDLE with the cause ENABLE or CLEAR and no fault detail;
an enabled port takes its quadrature state from the filtered levels; nothing else changes (R5, R12). -/
def Obligations.PortEntersIdle : Prop :=
  ∀ (s : State) (p : PortId) (tag : Byte), LinkLaw s → PortLaw s →
    (Accepts s (.portEnable tag p.byte) .portEnable p.byte → s.mode p = .off →
      ∃ t, exec (.portEnable tag p.byte) s = .next t ∧
        t.port p = { s.port p with
          ctl := { mode := .idle, previous := .off, lastCause := .enable, runs := List.replicate 12 0, fault := none },
          travel := { (s.port p).travel with
            quad := { one := (s.port p).travel.track1.level, two := (s.port p).travel.track2.level } } } ∧
        RequestOn p s t ∧ Answered s t .portEnable tag p.byte (.done (.entered .idle)) ∧
        Raised s t [stateReport p .idle .off .enable none]) ∧
    (Accepts s (.clearFault tag p.byte) .clearFault p.byte → s.mode p = .fault →
      ∃ t, exec (.clearFault tag p.byte) s = .next t ∧
        t.port p = { s.port p with
          ctl := { mode := .idle, previous := .fault, lastCause := .clear, runs := List.replicate 12 0, fault := none } } ∧
        RequestOn p s t ∧ Answered s t .clearFault tag p.byte (.done .nothing) ∧
        Raised s t [stateReport p .idle .fault .clear none])

/-- PORT_DISABLE outside OFF: the port goes to OFF with its blocks cleared, its record closed with reason DISABLED, its
drive channel halted and its pending plan promoted, and the ports beside it carry on. A held NULL_CHANNELS is answered
ABORTED or a held CLOSE_TUBE DONE with DISABLED before its own reply, and the reports stand in the order of the work (R6,
R7, R143, R144). Where the record's final position starts without a scan is the model's reading, log entry 12. -/
def Obligations.PortDisableClears : Prop :=
  ∀ (s : State) (p : PortId) (tag : Byte), LinkLaw s → HeldLaw s → PoolLaw s → PortLaw s →
    Accepts s (.portDisable tag p.byte) .portDisable p.byte → s.mode p ≠ .off →
    let b := s.port p
    let number := (s.openRecords p).head?.map Record.number
    ∃ t before place, exec (.portDisable tag p.byte) s = .next t ∧ SameOthers p s t ∧ t.now = s.now ∧ t.pending = s.pending ∧
      (t.port p).ctl = { mode := .off, previous := s.mode p, lastCause := .disable, runs := List.replicate 12 0, fault := none } ∧
      ClearedFrom b (t.port p) ∧
      (t.port p).drive = { b.drive with
        state := .awaitHalt, queue := [], current := none, limit := none, deferred := none, doneDeadline := none,
        awaited := some { kind := .halt, number := b.drive.number, deadline := none },
        outgoing := b.drive.outgoing ++ [.halt b.drive.number], number := b.drive.number + 1 } ∧
      (∀ r, s.openRecords p = [r] → t.store = s.store.closing r (r.closedBy b .disabled)) ∧
      (s.openRecords p = [] → t.store = s.store) ∧
      t.unsentReplies = s.unsentReplies ++ before ++ [{
        place := some place, kind := RequestKind.portDisable.code, tag := tag, port := p.byte,
        body := .done (.left (s.mode p)) }] ∧
      (∀ h ∈ s.link.buffer, h.inProgress → h.port = p.byte → h.kind = .nullChannels → before = [{
        place := some h.place, kind := RequestKind.nullChannels.code, tag := h.tag, port := p.byte,
        body := .refused .aborted none }]) ∧
      (∀ h ∈ s.link.buffer, h.inProgress → h.port = p.byte → h.kind = .closeTube → ∀ r, s.openRecords p = [r] →
        before = [{
          place := some h.place, kind := RequestKind.closeTube.code, tag := h.tag, port := p.byte,
          body := .done (.closed r.number .disabled) }]) ∧
      ((∀ h ∈ s.link.buffer, h.inProgress → h.port ≠ p.byte) → before = []) ∧
      Raised s t ((s.openRecords p).map (fun r => .recordReady p r.number .disabled) ++
        [.driveEvent p { kind := .aborted .portOff none, state := .awaitHalt, queueLength := 0 },
         stateReport p .off (s.mode p) .disable number] ++
        if b.plan.pending then [promotedReport p .off (s.mode p) .stateEntry (b.plan.generation + 1)] else [])

/-! ### The plan -/

/-- The ten section requests, with the pending flag clear: the section of the staged plan is replaced whole by the
stored values, the clamp report is the answer, and nothing else changes (R21, R24). -/
def Obligations.SectionRequestsStore : Prop :=
  ∀ (s : State) (p : PortId) (tag : Byte), LinkLaw s → (s.port p).plan.pending = false →
    let staged := (s.port p).plan.staged
    let stores := fun (c : Instr) (k : RequestKind) (w : Plan) (items : List ClampItem) =>
      Accepts s c k p.byte → ∃ t, exec c s = .next t ∧
        t.port p = { s.port p with plan := { (s.port p).plan with staged := w } } ∧ RequestOn p s t ∧
        Answered s t k tag p.byte (.done (.clamps items)) ∧ t.unsentReports = s.unsentReports
    (∀ e, stores (.planFreq tag p.byte e) .planFreq { staged with freq := e.map (Option.map storedFCode) } (entryItems freqItems e)) ∧
    (∀ e, stores (.planSlots tag p.byte e) .planSlots { staged with slots := e.map storedSlot } (entryItems slotItems e)) ∧
    (∀ e, stores (.planCal tag p.byte e) .planCal { staged with cal := e.map storedCal } (entryItems calItems e)) ∧
    (∀ e, stores (.planMix tag p.byte e) .planMix { staged with mix := e.map (Option.map storedMix) } (entryItems mixItems e)) ∧
    (∀ f, stores (.planDetect tag p.byte f) .planDetect { staged with detect := storedDetect f } (detectItems f)) ∧
    (∀ f, stores (.planLandmark tag p.byte f) .planLandmark { staged with landmark := storedLandmark f } (landmarkItems f)) ∧
    (∀ e, stores (.planSupports tag p.byte e) .planSupports { staged with supports := e.map storedSupport } (entryItems supportItems e)) ∧
    (∀ e, stores (.planCurve tag p.byte e) .planCurve { staged with curve := e.map storedPoint } (entryItems pointItems e)) ∧
    (∀ f, stores (.planTravel tag p.byte f) .planTravel { staged with travel := storedTravel f } (travelItems f)) ∧
    (∀ f, stores (.planStream tag p.byte f) .planStream { staged with stream := storedStream f } (streamItems f))

/-- Every stored field lies in its range, a field out of range is brought to the nearest value of its range (a rotation
modulo 3600, a decimation to the one below), and a field in range is stored as received with no item in the clamp report.
A clamp report has one item for each field stored at another value, with the field's place in the entry, the entry's place in
its list and the stored value, in the order of the request (R22, R23, R24, R153, R189). -/
def Obligations.StoredFieldsInRange : Prop :=
  let within := fun lo hi v got : Nat => (v < lo → got = lo) ∧ (hi < v → got = hi) ∧ (lo ≤ v → v ≤ hi → got = v)
  let report := fun (item : Nat) (fields : List (Nat × Nat × Nat)) =>
    fields.filterMap fun (field, received, stored) =>
      if received = stored then none else some ({ field := field, item := item, value := stored } : ClampItem)
  (∀ v, within 50 10000 v (storedFCode v) ∧ ∀ k, freqItems k none = [] ∧
    (freqItems k (some v) = [] ↔ 50 ≤ v ∧ v ≤ 10000) ∧ freqItems k (some v) = report k [(1, v, storedFCode v)]) ∧
  (∀ k e, within 0 3 e.freq (storedSlot e).freq ∧ within 0 2 e.mode (storedSlot e).mode.code ∧
    within 0 15 e.settle (storedSlot e).settle ∧ within 1 64 e.integrate (storedSlot e).integrate ∧
    (slotItems k e = [] ↔ e.freq ≤ 3 ∧ e.mode ≤ 2 ∧ e.settle ≤ 15 ∧ 1 ≤ e.integrate ∧ e.integrate ≤ 64) ∧
    slotItems k e = report k [(0, e.freq, (storedSlot e).freq), (1, e.mode, (storedSlot e).mode.code),
      (2, e.settle, (storedSlot e).settle), (3, e.integrate, (storedSlot e).integrate)]) ∧
  (∀ k e, (storedCal e).rotation = e.rotation % 3600 ∧ within 1 65535 e.gain (storedCal e).gain ∧
    (calItems k e = [] ↔ e.rotation < 3600 ∧ 1 ≤ e.gain ∧ e.gain ≤ 65535) ∧
    calItems k e = report k [(0, e.rotation, (storedCal e).rotation), (1, e.gain, (storedCal e).gain)]) ∧
  (∀ k e, within 0 15 e.primary (storedMix e).primary ∧ within 0 15 e.secondary (storedMix e).secondary ∧
    (storedMix e).kxx = e.kxx ∧ (storedMix e).kxy = e.kxy ∧ (storedMix e).kyx = e.kyx ∧ (storedMix e).kyy = e.kyy ∧
    (storedMix e).rotation = e.rotation % 3600 ∧ within 1 65535 e.gain (storedMix e).gain ∧ mixItems k none = [] ∧
    (mixItems k (some e) = [] ↔
      e.primary ≤ 15 ∧ e.secondary ≤ 15 ∧ e.rotation < 3600 ∧ 1 ≤ e.gain ∧ e.gain ≤ 65535) ∧
    mixItems k (some e) = report k [(1, e.primary, (storedMix e).primary), (2, e.secondary, (storedMix e).secondary),
      (7, e.rotation, (storedMix e).rotation), (8, e.gain, (storedMix e).gain)]) ∧
  (∀ f, within 0 15 f.channel (storedDetect f).channel ∧ within 1 32767 f.tOpen (storedDetect f).tOpen ∧
    within 0 32767 f.tClose (storedDetect f).tClose ∧ within 1 64 f.qClose (storedDetect f).qClose ∧
    within 8 1024 f.lMax (storedDetect f).lMax ∧ within 1 65535 f.aMin (storedDetect f).aMin ∧
    within 0 300000 f.gateLow (storedDetect f).gateLow ∧ within 0 300000 f.gateHigh (storedDetect f).gateHigh ∧
    (detectItems f = [] ↔ storedDetect f = f) ∧
    detectItems f = report 0 [(0, f.channel, (storedDetect f).channel), (1, f.tOpen, (storedDetect f).tOpen),
      (2, f.tClose, (storedDetect f).tClose), (3, f.qClose, (storedDetect f).qClose), (4, f.lMax, (storedDetect f).lMax),
      (5, f.aMin, (storedDetect f).aMin), (6, f.gateLow, (storedDetect f).gateLow),
      (7, f.gateHigh, (storedDetect f).gateHigh)]) ∧
  (∀ f, within 0 15 f.channel (storedLandmark f).channel ∧ within 1 32767 f.lOpen (storedLandmark f).lOpen ∧
    within 0 32767 f.lClose (storedLandmark f).lClose ∧ within 1 64 f.qLand (storedLandmark f).qLand ∧
    within 0 1 f.autoClose (switchCode (storedLandmark f).autoClose) ∧
    within 1 500 f.tolerance (storedLandmark f).tolerance ∧ within 0 300000 f.exitPos (storedLandmark f).exitPos ∧
    (landmarkItems f = [] ↔ f.channel ≤ 15 ∧ 1 ≤ f.lOpen ∧ f.lOpen ≤ 32767 ∧ f.lClose ≤ 32767 ∧ 1 ≤ f.qLand ∧
      f.qLand ≤ 64 ∧ f.autoClose ≤ 1 ∧ 1 ≤ f.tolerance ∧ f.tolerance ≤ 500 ∧ f.exitPos ≤ 300000) ∧
    landmarkItems f = report 0 [(0, f.channel, (storedLandmark f).channel), (1, f.lOpen, (storedLandmark f).lOpen),
      (2, f.lClose, (storedLandmark f).lClose), (3, f.qLand, (storedLandmark f).qLand),
      (4, f.autoClose, switchCode (storedLandmark f).autoClose), (5, f.tolerance, (storedLandmark f).tolerance),
      (6, f.exitPos, (storedLandmark f).exitPos)]) ∧
  (∀ k v, within 0 300000 v (storedSupport v) ∧ (supportItems k v = [] ↔ v ≤ 300000) ∧
    supportItems k v = report k [(0, v, storedSupport v)]) ∧
  (∀ k e, within 0 3599 e.phase (storedPoint e).phase ∧ within 0 100 e.depth (storedPoint e).depth ∧
    (pointItems k e = [] ↔ e.phase ≤ 3599 ∧ e.depth ≤ 100) ∧
    pointItems k e = report k [(0, e.phase, (storedPoint e).phase), (1, e.depth, (storedPoint e).depth)]) ∧
  (∀ f, within 250 10000 f.step (storedTravel f).step ∧ within 1 1000 f.scale (storedTravel f).scale ∧
    within 0 1 f.sense (storedTravel f).sense.code ∧ within 1 500 f.startTravel (storedTravel f).startTravel ∧
    within 100 100000 f.period (storedTravel f).period ∧ within 0 63 f.deglitch (storedTravel f).deglitch ∧
    within 0 1 f.speedGuard (switchCode (storedTravel f).speedGuard) ∧
    (travelItems f = [] ↔ 250 ≤ f.step ∧ f.step ≤ 10000 ∧ 1 ≤ f.scale ∧ f.scale ≤ 1000 ∧ f.sense ≤ 1 ∧
      1 ≤ f.startTravel ∧ f.startTravel ≤ 500 ∧ 100 ≤ f.period ∧ f.period ≤ 100000 ∧ f.deglitch ≤ 63 ∧ f.speedGuard ≤ 1) ∧
    travelItems f = report 0 [(0, f.step, (storedTravel f).step), (1, f.scale, (storedTravel f).scale),
      (2, f.sense, (storedTravel f).sense.code), (3, f.startTravel, (storedTravel f).startTravel),
      (4, f.period, (storedTravel f).period), (5, f.deglitch, (storedTravel f).deglitch),
      (6, f.speedGuard, switchCode (storedTravel f).speedGuard)]) ∧
  (∀ f, (storedStream f).channels = f.channels.map (fun v => if 15 < v then 15 else v) ∧
    (storedStream f).decimation = (if f.decimation < 2 then 1 else if f.decimation < 4 then 2
      else if f.decimation < 8 then 4 else 8) ∧
    (storedStream f).width = (if f.width < 16 then 8 else 16) ∧
    (streamItems f = [] ↔ (∀ v ∈ f.channels, v ≤ 15) ∧ f.decimation ∈ [1, 2, 4, 8] ∧ f.width ∈ [8, 16]) ∧
    streamItems f = (f.channels.mapIdx fun k v => report k [(0, v, if 15 < v then 15 else v)]).flatten ++
      report 0 [(1, f.decimation, (storedStream f).decimation), (2, f.width, (storedStream f).width)]) ∧
  (∀ k e, within 0 1 e.direction (storedMove e).direction.code ∧ within 10 3000 e.speed (storedMove e).speed ∧
    within 1 300000 e.distance (storedMove e).distance ∧ ((storedMove e).stop = true ↔ e.endByte ≠ 0) ∧
    (moveItems k e = [] ↔
      e.direction ≤ 1 ∧ 10 ≤ e.speed ∧ e.speed ≤ 3000 ∧ 1 ≤ e.distance ∧ e.distance ≤ 300000) ∧
    moveItems k e = report k [(0, e.direction, (storedMove e).direction.code), (2, e.speed, (storedMove e).speed),
      (3, e.distance, (storedMove e).distance)]) ∧
  (∀ (α : Type) (items : Nat → α → List ClampItem) (entries : List α),
    entryItems items entries = (entries.mapIdx items).flatten) ∧
  ∀ field item received stored, clampItem field item received stored =
    if received = stored then [] else [{ field := field, item := item, value := stored }]

/-- PLAN_COMMIT of a plan that passes every check, in OFF, IDLE or FAULT: the clamps of R28 are applied and the plan is
promoted. A promotion, whatever its cause, puts the staged plan in force with its period table, slot table and speeds
derived anew and the nulls of R32, and applies a changed filter length to the running filters (R25, R28 to R30, R38, R40,
R56, R70). That a filter passed so is decoded in the same step, except in OFF, and that the edge it makes is moved by the
scale and the sense of the incoming plan, is the model's reading, log entry 21. -/
def Obligations.CommitPromotesAtRest : Prop :=
  (∀ (s : State) (p : PortId) (tag : Byte), LinkLaw s → Accepts s (.planCommit tag p.byte) .planCommit p.byte →
    s.mode p = .off ∨ s.mode p = .idle ∨ s.mode p = .fault → (s.port p).plan.pending = false →
    (s.port p).plan.staged.validate = none →
    let b := s.port p
    let staged := b.plan.staged
    let w := { staged with
      detect := { staged.detect with tClose := min staged.detect.tClose staged.detect.tOpen },
      landmark := { staged.landmark with lClose := min staged.landmark.lClose staged.landmark.lOpen },
      travel := { staged.travel with step := max staged.travel.step staged.travel.scale } }
    let items := (if staged.detect.tOpen < staged.detect.tClose then
        [{ field := 2, item := 0, value := staged.detect.tOpen }] else []) ++
      (if staged.landmark.lOpen < staged.landmark.lClose then
        [{ field := 2, item := 0, value := staged.landmark.lOpen }] else []) ++
      (if staged.travel.step < staged.travel.scale then
        [{ field := 0, item := 0, value := staged.travel.scale }] else [])
    ∃ t, exec (.planCommit tag p.byte) s = .next t ∧ RequestOn p s t ∧
      t.port p = (promote p none (s.setPort p { b with plan := { b.plan with staged := w } })).port p ∧
      Answered s t .planCommit tag p.byte (.done (.commit .promoted (b.plan.generation + 1) items)) ∧
      Raised s t [promotedReport p (s.mode p) b.ctl.previous .commit (b.plan.generation + 1)]) ∧
  ∀ (s : State) (p : PortId) (cause : Option Cause),
    let b := s.port p
    let w := b.plan.staged
    let u := b.travel
    let t := promote p cause s
    let passes := fun f : TrackFilter =>
      b.plan.working.travel.deglitch ≠ w.travel.deglitch ∧
        ∃ began, f.since = some began ∧ began + w.travel.deglitch ≤ s.now
    let followed := fun f g : TrackFilter =>
      (passes f → g = { input := f.input, level := f.input, since := none }) ∧ (¬ passes f → g = f)
    let x := (t.port p).travel
    SameOthers p s t ∧ t.store = s.store ∧ t.now = s.now ∧ t.pending = s.pending ∧
    t.port p = { b with
      plan := { working := w, staged := w, pending := false, generation := b.plan.generation + 1 },
      seq := { b.seq with
        periods := (t.port p).seq.periods, slots := w.slotTable, duration := (w.slotTable.map SlotInForce.slotTime).sum },
      chan := { b.chan with nulls := comparedNulls b.plan.working w b.chan.nulls },
      travel := { u with
        track1 := x.track1, track2 := x.track2, quad := x.quad, raw := x.raw, illegal := x.illegal,
        limitSpeed := w.travel.step * 40000 / (w.slotTable.map SlotInForce.slotTime).sum,
        guardLimit := (w.travel.step * 40000 / (w.slotTable.map SlotInForce.slotTime).sum) * 9 / 10 } } ∧
    (t.port p).seq.periods.length = w.freq.length ∧
    (∀ k : Nat, w.freq[k]? = some none → (t.port p).seq.periods[k]? = some none) ∧
    (∀ (k c : Nat), w.freq[k]? = some (some c) → 0 < c →
      ∃ n, (t.port p).seq.periods[k]? = some (some n) ∧ 2 * c * n ≤ 800000 + c ∧ 800000 + c < 2 * c * (n + 1)) ∧
    (∀ (k : Nat) (e : PlanSlot), w.slots[k]? = some e → ∀ n, (t.port p).seq.periods[e.freq]? = some (some n) →
      w.slotTable[k]? = some {
        period := n, mode := e.mode, settle := e.settle, integrate := e.integrate,
        slotTime := 80 + (e.settle + e.integrate) * n }) ∧
    followed u.track1 x.track1 ∧ followed u.track2 x.track2 ∧
    (s.mode p = .off → x.quad = u.quad ∧ x.raw = u.raw ∧ x.illegal = u.illegal) ∧
    (s.mode p ≠ .off →
      x.quad = { one := x.track1.level, two := x.track2.level } ∧
      (x.track1.level = u.quad.one → x.track2.level = u.quad.two → x.raw = u.raw ∧ x.illegal = u.illegal) ∧
      (x.track1.level ≠ u.quad.one → x.track2.level ≠ u.quad.two →
        x.raw = u.raw ∧ x.illegal = if u.illegal < 65535 then u.illegal + 1 else u.illegal) ∧
      (x.track1.level ≠ u.quad.one → x.track2.level = u.quad.two → x.illegal = u.illegal ∧
        EdgeCounted w.travel.scale w.travel.sense (u.quad.one == u.quad.two) u
          { u with quad := x.quad, track1 := x.track1, track2 := x.track2, raw := x.raw }) ∧
      (x.track1.level = u.quad.one → x.track2.level ≠ u.quad.two → x.illegal = u.illegal ∧
        EdgeCounted w.travel.scale w.travel.sense (u.quad.one != u.quad.two) u
          { u with quad := x.quad, track1 := x.track1, track2 := x.track2, raw := x.raw })) ∧
    (cause = none → t = s.setPort p (t.port p)) ∧
    (∀ why, cause = some why →
      t = report (promotedReport p (s.mode p) b.ctl.previous why (b.plan.generation + 1)) (s.setPort p (t.port p)))

/-- PLAN_COMMIT of a plan that passes every check, in NULLING, ARMED or ACQUIRING: the clamps are applied, the pending
flag is set, the open record is marked, and the working plan stands (R29). -/
def Obligations.CommitGoesPending : Prop :=
  ∀ (s : State) (p : PortId) (tag : Byte), LinkLaw s → Accepts s (.planCommit tag p.byte) .planCommit p.byte →
    s.mode p = .nulling ∨ s.mode p = .armed ∨ s.mode p = .acquiring → (s.port p).plan.pending = false →
    (s.port p).plan.staged.validate = none →
    ∃ t, exec (.planCommit tag p.byte) s = .next t ∧ SameOthers p s t ∧ t.now = s.now ∧ t.pending = s.pending ∧
      t.port p = { s.port p with
        plan := { (s.port p).plan with staged := (s.port p).plan.staged.commitClamped, pending := true } } ∧
      t.store.ready = s.store.ready ∧ t.store.counter = s.store.counter ∧
      t.openRecords p = (s.openRecords p).map (fun r => { r with flags := { r.flags with planPendingInTube := true } }) ∧
      (∀ q, q ≠ p → t.openRecords q = s.openRecords q) ∧
      Answered s t .planCommit tag p.byte
        (.done (.commit .pending (s.port p).plan.generation (s.port p).plan.staged.commitItems)) ∧
      t.unsentReports = s.unsentReports

/-- R33: PLAN_DISCARD copies the working plan into the staged plan and clears the pending flag, in every port state. -/
def Obligations.PlanDiscardRestores : Prop :=
  ∀ (s : State) (p : PortId) (tag : Byte), LinkLaw s → Accepts s (.planDiscard tag p.byte) .planDiscard p.byte →
    ∃ t, exec (.planDiscard tag p.byte) s = .next t ∧ RequestOn p s t ∧
      t.port p = { s.port p with plan := { (s.port p).plan with staged := (s.port p).plan.working, pending := false } } ∧
      Answered s t .planDiscard tag p.byte (.done (.discarded (s.port p).plan.generation)) ∧
      t.unsentReports = s.unsentReports

/-- R32: at a promotion the null of each raw channel is kept, or set to (0, 0) and unbalanced, by the f_code and the
mode of its slot in the outgoing and the incoming plan. -/
def Obligations.PromotionComparesNulls : Prop :=
  (∀ (s : State) (p : PortId) (cause : Option Cause), ((promote p cause s).port p).chan.nulls =
    comparedNulls (s.port p).plan.working (s.port p).plan.staged (s.port p).chan.nulls) ∧
  ∀ (outgoing incoming : Plan) (nulls : List NullEntry) (k : Nat) (e : NullEntry), nulls[k]? = some e →
    (comparedNulls outgoing incoming nulls)[k]? = some
      (match outgoing.slots[k]?, incoming.slots[k]? with
       | some a, some b =>
         if outgoing.freq.getD a.freq none = incoming.freq.getD b.freq none ∧ a.mode = b.mode then e
         else { x0 := 0, y0 := 0, balanced := false }
       | none, none => e
       | _, _ => { x0 := 0, y0 := 0, balanced := false })

/-- What a commit that passes validation leaves to rely on: every slot names a present frequency, every channel named
exists, mix inputs are two existing raw channels, the gate, the map and the curve are in order, and no stream channel is
listed twice. Validation fails exactly where a check of R26 fails, and then reports the failing check that R26 makes
first. -/
def Obligations.ValidationAdmits : Prop :=
  (∀ w : Plan, (w.validate = none ↔ ∀ check k, ¬ w.FailsAt check k) ∧
    ∀ check k, w.FailsAt check k → (∀ check' k', w.FailsAt check' k' → ¬ MadeBefore check' k' check k) →
      w.validate = some (planFaultOf check k)) ∧
  ∀ w : Plan, w.validate = none →
    (∀ e ∈ w.slots, (w.freq.getD e.freq none).isSome = true) ∧
    (∀ m, some m ∈ w.mix → m.primary < w.slots.length ∧ m.secondary < w.slots.length ∧ m.primary ≠ m.secondary) ∧
    w.channelExists w.detect.channel = true ∧ w.detect.gateLow ≤ w.detect.gateHigh ∧
    w.channelExists w.landmark.channel = true ∧
    w.supports.Pairwise (· < ·) ∧ w.curve.length ≠ 1 ∧ (w.curve.map CurvePoint.phase).Pairwise (· < ·) ∧
    (∀ n ∈ w.stream.channels, w.channelExists n = true) ∧ w.stream.channels.Nodup

/-! ### Nulls and calibration -/

/-- NULL_CHANNELS in IDLE: the port enters NULLING, the accumulation starts at 0, a TIME scan starts at once, and the
request stays held without an answer (R85, R48). -/
def Obligations.NullChannelsStarts : Prop :=
  ∀ (s : State) (p : PortId) (tag : Byte), LinkLaw s → Accepts s (.nullChannels tag p.byte) .nullChannels p.byte →
    s.mode p = .idle →
    ∃ t, exec (.nullChannels tag p.byte) s = .next t ∧ t.store = s.store ∧ t.now = s.now ∧ t.pending = s.pending ∧
      (∀ q, q ≠ p → t.port q = s.port q) ∧
      t.port p = { s.port p with
        ctl := { (s.port p).ctl with mode := .nulling, previous := .idle, lastCause := .nullStart },
        seq := { (s.port p).seq with
          scan := some { kind := .time, startPos := (s.port p).travel.raw, slot := 0, phase := .switch, phaseEnd := s.now + 80 },
          timer := some (s.now + (s.port p).plan.working.travel.period * 40), owed := false, held := none,
          closeHold := false, seqNo := 0 },
        chan := { (s.port p).chan with
          accum := some { count := 0, sums := List.replicate (s.port p).seq.slots.length { x := 0, y := 0, saturated := false } } } } ∧
      t.unsentReplies = s.unsentReplies ∧
      (∃ h ∈ t.link.buffer, h.kind = .nullChannels ∧ h.tag = tag ∧ h.port = p.byte ∧ h.answered = false) ∧
      Raised s t [stateReport p .nulling .idle .nullStart none]

/-- The null table and the calibration that reads it. A null operation writes the entry of a channel whose sum is without
the saturation mark with the mean, rounded, and balanced; with the mark the offset stands, unbalanced; entries beyond the
slot table stand (R87, R88). A raw channel is its sample less the null, rotated by the table's sine and cosine, scaled and
clamped, and saturated exactly when its sample was or the clamp changed a value (R77, R79, R80); a mix channel is its primary
less the weighted secondary, rotated, scaled and clamped in the same way (R81, R82). -/
def Obligations.NullsAndCalibration : Prop :=
  (∀ (nulls : List NullEntry) (sums : List ChannelValue) (k : Nat) (e : NullEntry), nulls[k]? = some e →
    (nulledTable nulls sums)[k]? = some
      (match sums[k]? with
       | none => e
       | some v =>
         if v.saturated then { e with balanced := false }
         else { x0 := (v.x + 8) / 16, y0 := (v.y + 8) / 16, balanced := true }) ∧
    (∀ v, sums[k]? = some v → (k ∈ saturatedFrom 0 sums ↔ v.saturated = true))) ∧
  (∀ (nulls : List NullEntry) (cal : List CalFields) (e : Sample),
    let n := nulls.getD e.slot { x0 := 0, y0 := 0, balanced := false }
    let c := cal.getD e.slot { rotation := 0, gain := 256 }
    Shaped c.rotation c.gain (e.x - n.x0) (e.y - n.y0) e.saturated (rawValue nulls cal e)) ∧
  ∀ (nulls : List NullEntry) (w : Plan) (samples : List Sample) (seqNo : BitVec 32) (kind : ScanKind) (pos : Int),
    let c := calibrate nulls w samples seqNo kind pos
    c.seqNo = seqNo ∧ c.kind = kind ∧ c.pos = pos ∧ c.raw = samples.map (rawValue nulls w.cal) ∧
    c.mix.length = w.mix.length ∧ (∀ k : Nat, w.mix[k]? = some none → c.mix[k]? = some none) ∧
    ∀ (k : Nat) (m : MixFields) (a z : ChannelValue), w.mix[k]? = some (some m) → c.raw[m.primary]? = some a → c.raw[m.secondary]? = some z →
      ∃ v, c.mix[k]? = some (some v) ∧
        Shaped m.rotation m.gain (a.x - (m.kxx * z.x + m.kxy * z.y + 8192) / 16384)
          (a.y - (m.kyx * z.x + m.kyy * z.y + 8192) / 16384) (a.saturated || z.saturated) v

/-- The sine and cosine entries are 16,384 times the sine and the cosine, to the nearest integer (R78); the phase of a
vector is its angle to the nearest tenth of a degree, 0 to 3599, and 0 for the zero vector (R104). How the model computes
them is log entry 7. -/
def Obligations.AnglesAreNearest : Prop :=
  (∀ a : Nat, a < 3600 →
    |16384 * Real.sin (a * Real.pi / 1800) - (sineEntry a : ℝ)| ≤ 1 / 2 ∧
    |16384 * Real.cos (a * Real.pi / 1800) - (cosineEntry a : ℝ)| ≤ 1 / 2) ∧
  phaseOf 0 0 = 0 ∧
  ∀ dx dy : Int, dx.natAbs ≤ 65535 → dy.natAbs ≤ 65535 → ¬ (dx = 0 ∧ dy = 0) → phaseOf dx dy < 3600 ∧
    ∃ length angle : ℝ, 0 < length ∧ (dx : ℝ) = length * Real.cos angle ∧ (dy : ℝ) = length * Real.sin angle ∧
      |angle - phaseOf dx dy * Real.pi / 1800| ≤ Real.pi / 3600

/-! ### Tubes and records -/

/-- OPEN_TUBE in IDLE with a FREE slot: a record with a number no record holds is opened as R135 fills it, the port enters
ARMED with its travel, landmark, drive and stream items preset, and a TIME scan starts (R134, R135, R61, R119, R48). -/
def Obligations.OpenTubeOpensRecord : Prop :=
  ∀ (s : State) (p : PortId) (tag : Byte) (row column sec p0 : Nat), LinkLaw s → PoolLaw s →
    Accepts s (.openTube tag p.byte row column sec p0) .openTube p.byte → s.mode p = .idle → .free ∈ s.store.slots →
    let w := (s.port p).plan.working
    ∀ unbalanced : Bool,
    (unbalanced = true ↔ ∃ k, ((k = w.detect.channel ∧ k < 12) ∨ (k = w.landmark.channel ∧ k < 12) ∨
        ∃ m, some m ∈ w.mix ∧ (k = m.primary ∨ k = m.secondary)) ∧
      ((s.port p).chan.nulls.getD k { x0 := 0, y0 := 0, balanced := false }).balanced = false) →
    ∃ t n, exec (.openTube tag p.byte row column sec p0) s = .next t ∧ SameOthers p s t ∧ t.now = s.now ∧
      t.pending = s.pending ∧ 1 ≤ n ∧ n ≤ 65535 ∧ (∀ r ∈ s.records, r.number ≠ n) ∧
      t.openRecords p = [{
        number := n, port := p, row := max 1 (min 999 row), column := max 1 (min 999 column), sec := min 15 sec,
        p0 := min 300000 p0, generation := (s.port p).plan.generation, gridOrigin := none, finalPos := none,
        finalCorrection := none, closeReason := none,
        flags := {
          unbalanced := unbalanced, encoderSuspect := false, overspeed := false, reversal := false, windowTruncated := false,
          landmarksTruncated := false, gapsMerged := false, endSeen := false, planPendingInTube := false },
        counters := {
          scansTaken := 0, missed := 0, reversals := 0, maxSpeed := 0, accepted := 0, overflow := 0, small := 0, gated := 0 },
        matched := none, notReached := none, landmarks := [], indications := [], gaps := [] }] ∧
      (∀ q, q ≠ p → t.openRecords q = s.openRecords q) ∧ t.readyRecords = s.readyRecords ∧
      t.store.ready = s.store.ready ∧ t.store.counter = (if n < 65535 then n + 1 else 1) ∧
      (s.store.counter = n ∨ ∃ r ∈ s.records, r.number = s.store.counter) ∧
      t.port p = { s.port p with
        ctl := { (s.port p).ctl with mode := .armed, previous := .idle, lastCause := .tubeOpen },
        seq := { (s.port p).seq with
          scan := some {
            kind := .time, startPos := ((min 300000 p0 : Nat) : Int) * 100, slot := 0, phase := .switch, phaseEnd := s.now + 80 },
          timer := some (s.now + (s.port p).plan.working.travel.period * 40), owed := false, held := none,
          closeHold := false, seqNo := 0 },
        travel := { (s.port p).travel with
          raw := ((min 300000 p0 : Nat) : Int) * 100, startAcc := 0, pushAcc := 0, reversalMark := false, illegal := 0,
          grid := none, low := none, run := none, lastStarted := none, lastScan := none },
        land := { LandmarkUnit.clear with pointer := placePointer (s.port p).plan.working.supports (min 300000 p0) },
        drive := { (s.port p).drive with lastLimit := none },
        stream := { (s.port p).stream with lastPos := min 300000 p0 } } ∧
      Answered s t .openTube tag p.byte (.done (.opened n (max 1 (min 999 row)) (max 1 (min 999 column)) (min 15 sec)
        (min 300000 p0) unbalanced)) ∧
      Raised s t [stateReport p .armed .idle .tubeOpen (some n)]

/-- At OPEN_TUBE the pointer is placed at the highest entry at or below P0, or is none. A position then passes the entries
from the pointer down to the first it has not passed beyond tolerance; each is listed once as MISSING, with its index and
nominal position, and the pointer names that first one, or none (R119 to R121, R124, R128). A support candidate within the
tolerance of the entry the pointer then names is a SUPPORT: one entry listed with its step, the correction moved by it, the
matched count raised, the pointer moved below; any other candidate is an EXTRA and moves none of them (R121). -/
def Obligations.SupportMapFollowed : Prop :=
  (∀ (supports : List Nat) (p0 : Nat),
    (∀ k, placePointer supports p0 = some k →
      (∃ e, supports[k]? = some e ∧ e ≤ p0) ∧ ∀ j e, k < j → supports[j]? = some e → p0 < e) ∧
    (placePointer supports p0 = none → ∀ e ∈ supports, p0 < e)) ∧
  (∀ (supports : List Nat) (tolerance : Nat) (pos : Int) (k : Nat),
    let r := passEntries supports tolerance pos (some k)
    (∀ j ∈ r.1, j ≤ k ∧ pos < (supports.getD j 0 : Int) - tolerance) ∧ r.1.Pairwise (fun a b => b < a) ∧
    (∀ m, r.2 = some m → m ≤ k ∧ ¬ pos < (supports.getD m 0 : Int) - tolerance ∧ ∀ j, j ∈ r.1 ↔ m < j ∧ j ≤ k) ∧
    (r.2 = none → ∀ j, j ∈ r.1 ↔ j ≤ k) ∧ passEntries supports tolerance pos none = ([], none)) ∧
  ∀ (supports : List Nat) (tolerance : Nat) (w : ClosedLandmark) (u : LandmarkUnit),
    let passed := passEntries supports tolerance w.peak.pos u.pointer
    let missing : List LandmarkEntry := passed.1.map fun j => {
      kind := .missing, mapIndex := some j, measured := none, nominal := some (supports.getD j 0), step := none, peak := none,
      long := false, truncated := false }
    let r := u.judge supports tolerance w
    r.1.window = u.window ∧ r.1.peak = u.peak ∧
    (∀ k, passed.2 = some k → (w.peak.pos - (supports.getD k 0 : Int)).natAbs ≤ tolerance →
      r.1.correction = u.correction + ((supports.getD k 0 : Int) - w.peak.pos) ∧ r.1.matched = u.matched + 1 ∧
      r.1.pointer = (if k = 0 then none else some (k - 1)) ∧
      ∃ e, r.2 = missing ++ [e] ∧ e.kind = .support ∧ e.mapIndex = some k ∧
        e.nominal = some (supports.getD k 0) ∧ e.step = some ((supports.getD k 0 : Int) - w.peak.pos) ∧
        e.measured = some (min 300000 w.peak.pos.toNat) ∧ e.peak = some w.peak.absX ∧
        e.long = w.long ∧ e.truncated = w.truncated) ∧
    ((∀ k, passed.2 = some k → tolerance < (w.peak.pos - (supports.getD k 0 : Int)).natAbs) →
      r.1.correction = u.correction ∧ r.1.matched = u.matched ∧ r.1.pointer = passed.2 ∧
      ∃ e, r.2 = missing ++ [e] ∧ e.kind = .extra ∧ e.mapIndex = none ∧ e.nominal = none ∧
        e.step = none ∧ e.measured = some (min 300000 w.peak.pos.toNat) ∧ e.peak = some w.peak.absX ∧
        e.long = w.long ∧ e.truncated = w.truncated)

/-- CLOSE_TUBE with a scan in flight sets the close hold and changes nothing else; the request stays held (R142, R53).
CLOSE_TUBE with no scan in flight closes the record with reason HOST: it becomes READY at the tail of the ready order with
its closing fields, the port enters IDLE with its raw position kept, a pending plan is promoted, and the request is answered
with number and reason (R142 to R145, R55, R127, R128). Where the final position starts without a scan is the model's
reading, log entry 12. -/
def Obligations.CloseTubeHoldsOrCloses : Prop :=
  (∀ (s : State) (p : PortId) (tag : Byte), LinkLaw s → Accepts s (.closeTube tag p.byte) .closeTube p.byte →
    s.mode p = .armed ∨ s.mode p = .acquiring → (s.port p).seq.closeHold = false → (s.port p).seq.scan.isSome = true →
    ∃ t, exec (.closeTube tag p.byte) s = .next t ∧
      (∀ q, q ≠ p → (t.port q).sansRing = (s.port q).sansRing) ∧ t.store = s.store ∧ t.now = s.now ∧ t.pending = s.pending ∧
      (t.port p).sansRing = { (s.port p).sansRing with seq := { (s.port p).seq with closeHold := true } } ∧
      t.unsentReplies = s.unsentReplies ∧ t.unsentReports = s.unsentReports ∧
      ∃ h ∈ t.link.buffer, h.kind = .closeTube ∧ h.tag = tag ∧ h.port = p.byte ∧ h.answered = false) ∧
  ∀ (s : State) (p : PortId) (tag : Byte) (r : Record), LinkLaw s → HeldLaw s → PoolLaw s → PortLaw s →
    Accepts s (.closeTube tag p.byte) .closeTube p.byte → s.openRecords p = [r] → (s.port p).seq.closeHold = false →
    (s.port p).seq.scan = none →
    let b := s.port p
    let r' := r.closedBy b .host
    ∃ t, exec (.closeTube tag p.byte) s = .next t ∧ SameOthers p s t ∧ t.now = s.now ∧ t.pending = s.pending ∧
      t.port p = s.promotedBlocks s.now p (b.closedToIdle .closeHost) ∧
      ((b.plan.pending = false ∨ (b.plan.staged.travel.deglitch = b.plan.working.travel.deglitch ∧
        b.travel.quad = { one := b.travel.track1.level, two := b.travel.track2.level })) →
        (t.port p).travel.raw = b.travel.raw) ∧
      t.store = s.store.closing r r' ∧ t.openRecords p = [] ∧ (∀ q, q ≠ p → t.openRecords q = s.openRecords q) ∧
      r' ∈ t.readyRecords ∧ (∀ x ∈ s.readyRecords, x ∈ t.readyRecords) ∧
      r'.number = r.number ∧ r'.port = p ∧ r'.row = r.row ∧ r'.column = r.column ∧ r'.sec = r.sec ∧
      r'.p0 = r.p0 ∧ r'.generation = r.generation ∧ r'.gridOrigin = r.gridOrigin ∧ r'.closeReason = some .host ∧
      (s.mode p = .armed → r'.finalPos = some r.p0 ∧ r'.finalCorrection = some 0) ∧
      Answered s t .closeTube tag p.byte (.done (.closed r.number .host)) ∧
      Raised s t (closeReports p b r.number .host .closeHost)

/-- MARK in ACQUIRING with the close hold clear lists an OPERATOR entry at the corrected position of the last completed
scan, or at a full list sets LANDMARKS_TRUNCATED, and answers position and index (R126). Where no scan has completed the
position is the header's grid origin position plus the correction: the model's reading, log entry 12. -/
def Obligations.MarkListsOperator : Prop :=
  ∀ (s : State) (p : PortId) (tag : Byte) (r : Record), LinkLaw s → Accepts s (.mark tag p.byte) .mark p.byte →
    s.mode p = .acquiring → (s.port p).seq.closeHold = false → s.openRecords p = [r] →
    ∃ t pos, exec (.mark tag p.byte) s = .next t ∧ t.ports = s.ports ∧ t.now = s.now ∧ t.pending = s.pending ∧
      (∀ l, (s.port p).travel.lastScan = some l → pos = min 300000 l.corrected.toNat) ∧
      ((s.port p).travel.lastScan = none → ∀ g, r.gridOrigin = some g →
        pos = min 300000 ((g : Int) + (s.port p).land.correction).toNat) ∧
      t.openRecords p = [if r.landmarks.length < 40 then
          { r with landmarks := r.landmarks ++ [{
            kind := .operator, mapIndex := none, measured := some pos, nominal := none, step := none, peak := none,
            long := false, truncated := false }] }
        else { r with flags := { r.flags with landmarksTruncated := true } }] ∧
      (∀ q, q ≠ p → t.openRecords q = s.openRecords q) ∧ t.readyRecords = s.readyRecords ∧ t.store.ready = s.store.ready ∧
      t.store.counter = s.store.counter ∧
      Answered s t .mark tag p.byte (.done (.marked pos (if r.landmarks.length < 40 then some r.landmarks.length else none))) ∧
      t.unsentReports = s.unsentReports

/-- R148: RECORD_RELEASE of a READY record frees its slot and takes its number out of the ready order, the others keeping
theirs; of an OPEN record it is refused with RECORD_OPEN, and of a number no record carries with NO_SUCH_RECORD, and then
changes nothing. -/
def Obligations.RecordReleaseFrees : Prop :=
  ∀ (s : State) (tag port : Byte), LinkLaw s → PoolLaw s →
    (∀ r ∈ s.readyRecords, Accepts s (.recordRelease tag port r.number) .recordRelease port →
      ∃ t, exec (.recordRelease tag port r.number) s = .next t ∧ t.ports = s.ports ∧ t.now = s.now ∧ t.pending = s.pending ∧
        t.store.slots = s.store.slots.map (fun slot => if slot = .ready r then .free else slot) ∧
        t.store.ready = s.store.ready.filter (fun n => n ≠ r.number) ∧ t.store.counter = s.store.counter ∧
        Answered s t .recordRelease tag port (.done (.released r.number)) ∧ t.unsentReports = s.unsentReports) ∧
    (∀ r, .opened r ∈ s.store.slots → Accepts s (.recordRelease tag port r.number) .recordRelease port →
      OnlyAnswers s (.recordRelease tag port r.number) .recordRelease tag port (.refused .recordOpen none)) ∧
    (∀ number, Accepts s (.recordRelease tag port number) .recordRelease port → (∀ r ∈ s.records, r.number ≠ number) →
      OnlyAnswers s (.recordRelease tag port number) .recordRelease tag port (.refused .noSuchRecord none))

/-- R139 and R141, and what R140 does to a list of 64: what the record store makes of an accepted indication and of a gap. An indication joins a list of
fewer than 64 after every entry at or above its position; at 64 the overflow count rises and the last entry of smallest
amplitude gives way to a strictly greater one. A gap is appended, or at 8 merged into the last with GAPS_MERGED set. -/
def Obligations.RecordListsTake : Prop :=
  (∀ (r : Record) (i : Indication), r.indications.length < 64 → r.indications.Pairwise (fun a b => b.pos ≤ a.pos) →
    ∃ before after, r.indications = before ++ after ∧ (r.addIndication i) = { r with indications := before ++ i :: after } ∧
      (∀ e ∈ before, i.pos ≤ e.pos) ∧ (∀ e ∈ after, e.pos < i.pos) ∧
      (r.addIndication i).indications.Pairwise (fun a b => b.pos ≤ a.pos)) ∧
  (∀ (r : Record) (i : Indication), r.indications.length = 64 →
    ∃ before e after, r.indications = before ++ e :: after ∧ (∀ x ∈ r.indications, e.amplitude ≤ x.amplitude) ∧
      (∀ x ∈ after, e.amplitude < x.amplitude) ∧
      r.addIndication i = { r with
        counters := { r.counters with overflow := r.counters.overflow + 1 },
        indications := if e.amplitude < i.amplitude then placeIndication i (before ++ after) else r.indications } ∧
      (r.addIndication i).indications.length = 64) ∧
  ∀ (r : Record) (g : Gap),
    (r.gaps.length < 8 → r.addGap g = { r with gaps := r.gaps ++ [g] }) ∧
    (∀ before last, r.gaps = before ++ [last] → 8 ≤ r.gaps.length →
      r.addGap g = { r with
        gaps := before ++ [{
          kind := if last.kind = g.kind then last.kind else .mixed, start := last.start, stop := g.stop,
          count := last.count + g.count }],
        flags := { r.flags with gapsMerged := true } })

/-- A closed window measured on its two extremes: the vector runs from the one of the lower scan sequence number to the other
and is zero for one scan (R102); R103: the amplitude is the largest integer whose square does not exceed dx² + dy², lies in 0
to 92,680, and is 0 for the zero vector; the depth is that of the curve, held beyond its ends and interpolated to the nearest
integer, a half upward (R105); the position is the mean of the extremes' positions, floored and then clamped (R106). -/
def Obligations.WindowMeasured : Prop :=
  (∀ w : ClosedWindow, w.dx.natAbs ≤ 65535 → w.dy.natAbs ≤ 65535 →
    (w.amplitude : Int) * w.amplitude ≤ w.dx * w.dx + w.dy * w.dy ∧
    w.dx * w.dx + w.dy * w.dy < ((w.amplitude : Int) + 1) * (w.amplitude + 1) ∧
    w.dx * w.dx + w.dy * w.dy ≤ 8589672450 ∧ w.amplitude ≤ 92680 ∧ (w.dx = 0 → w.dy = 0 → w.amplitude = 0)) ∧
  (∀ (w : ClosedWindow) (a z : Point), (a = w.low ∧ z = w.high) ∨ (a = w.high ∧ z = w.low) →
    a.seqNo.toNat < z.seqNo.toNat → w.dx = z.x - a.x ∧ w.dy = z.y - a.y ∧ w.phase = phaseOf (z.x - a.x) (z.y - a.y) ∧
      w.pos = min 300000 ((a.pos + z.pos) / 2).toNat) ∧
  (∀ w : ClosedWindow, w.high = w.low →
    w.dx = 0 ∧ w.dy = 0 ∧ w.phase = phaseOf 0 0 ∧ w.pos = min 300000 w.high.pos.toNat) ∧
  ∀ (curve : List CurvePoint) (p : Nat), (curve.map CurvePoint.phase).Pairwise (· < ·) →
    (curve = [] → depthOf curve p = none) ∧
    (∀ e, curve.head? = some e → p ≤ e.phase → depthOf curve p = some e.depth) ∧
    (∀ e, curve.getLast? = some e → e.phase ≤ p → depthOf curve p = some e.depth) ∧
    (∀ (k : Nat) (e f : CurvePoint), curve[k]? = some e → curve[k + 1]? = some f → e.phase ≤ p → p ≤ f.phase →
      let span : Int := (f.phase : Int) - e.phase
      let above : Int := e.depth * span + ((f.depth : Int) - e.depth) * ((p : Int) - e.phase)
      ∃ d : Nat, depthOf curve p = some d ∧ 2 * span * d ≤ 2 * above + span ∧ 2 * above + span < 2 * span * (d + 1))

/-- A measured window judged: below A_min it is counted as small and leaves no other trace; outside the gate it is counted as
gated; else it is accepted, takes the raised accepted count as its detection index and the last listed landmark as its
reference, or none and the grid origin position, and is handed to the list. A truncated window that is accepted or gated sets
WINDOW_TRUNCATED. At a close an open window is judged TRUNCATED and the detector cleared (R101, R107 to R109). That the grid
origin position is the header's clamped one is the model's reading, log entry 12. -/
def Obligations.WindowJudged : Prop :=
  (∀ (cfg : DetectFields) (curve : List CurvePoint) (w : ClosedWindow) (r : Record),
    let flags := { r.flags with windowTruncated := r.flags.windowTruncated || w.truncated }
    (w.amplitude < cfg.aMin →
      r.judge cfg curve w = { r with counters := { r.counters with small := r.counters.small + 1 } }) ∧
    (cfg.aMin ≤ w.amplitude → w.pos < cfg.gateLow ∨ cfg.gateHigh < w.pos →
      r.judge cfg curve w = { r with flags := flags, counters := { r.counters with gated := r.counters.gated + 1 } }) ∧
    (∀ origin : Nat, cfg.aMin ≤ w.amplitude → cfg.gateLow ≤ w.pos → w.pos ≤ cfg.gateHigh →
      (r.landmarks = [] → r.gridOrigin = some origin) →
      (∀ e, r.landmarks.getLast? = some e → (if e.kind = .missing then e.nominal else e.measured) = some origin) →
      r.judge cfg curve w =
        ({ r with flags := flags, counters := { r.counters with accepted := r.counters.accepted + 1 } }).addIndication {
          detIndex := r.counters.accepted + 1, pos := w.pos,
          reference := if r.landmarks = [] then none else some (r.landmarks.length - 1),
          offset := (w.pos : Int) - origin, amplitude := w.amplitude, phase := w.phase, depth := depthOf curve w.phase,
          length := w.length, long := w.long, truncated := w.truncated, saturated := w.saturated, gapped := w.gapped })) ∧
  ∀ (s : State) (p : PortId),
    let b := s.port p
    let t := finaliseDetector p s
    t.port p = { b with det := .clear } ∧ SameOthers p s t ∧ t.link = s.link ∧ t.now = s.now ∧ t.pending = s.pending ∧
    t.readyRecords = s.readyRecords ∧ t.store.ready = s.store.ready ∧
    (b.det.state = .idle ∨ b.det.state = .blocked → t.store = s.store) ∧
    (∀ h l, b.det.state = .opened → b.det.high = some h → b.det.low = some l →
      t.openRecords p = (s.openRecords p).map (Record.judge b.plan.working.detect b.plan.working.curve {
        high := h, low := l, length := b.det.length, saturated := b.det.saturated, gapped := b.det.gapped,
        long := false, truncated := true }))

/-- The landmark unit's window on each scan and what becomes of it. IDLE opens a window at |X| of L_open; an open window takes
the scan's length, peak, saturation run and quiet run, and closes at Q_land quiet scans or, LONG, at 1,024 scans (R115 to
R117). A closed window with a saturation run of 4 is a tube end: it is listed, END_SEEN is set, and no map work is done; any
other is judged against the map (R118, R121). The forty-first landmark is lost with LANDMARKS_TRUNCATED (R124, R125). At a
close an open window is classified TRUNCATED (R127). -/
def Obligations.LandmarkWindows : Prop :=
  (∀ (cfg : LandmarkPlan) (pk : Peak) (saturated : Bool) (u : LandmarkUnit),
    (u.window = .idle → pk.absX < cfg.lOpen → u.scan cfg pk saturated = (u, none)) ∧
    (u.window = .idle → cfg.lOpen ≤ pk.absX → u.scan cfg pk saturated =
      ({ u with
        window := .opened, length := 1, quiet := 0, peak := some pk, satRun := if saturated then 1 else 0,
        satLongest := if saturated then 1 else 0 }, none)) ∧
    (∀ held, u.window = .opened → u.peak = some held →
      let peak := if held.absX < pk.absX then pk else held
      let run := if saturated then u.satRun + 1 else 0
      let longest := if u.satLongest < run then run else u.satLongest
      let quiet := if pk.absX < cfg.lClose then u.quiet + 1 else 0
      let idle : LandmarkUnit := {
        window := .idle, length := 0, quiet := 0, peak := none, satRun := 0, satLongest := 0, pointer := u.pointer,
        correction := u.correction, matched := u.matched }
      let closed : ClosedLandmark := { peak := peak, satLongest := longest, long := false, truncated := false }
      (cfg.qLand ≤ quiet → u.scan cfg pk saturated = (idle, some closed)) ∧
      (quiet < cfg.qLand → 1024 ≤ u.length + 1 → u.scan cfg pk saturated = (idle, some { closed with long := true })) ∧
      (quiet < cfg.qLand → u.length + 1 < 1024 → u.scan cfg pk saturated =
        ({ u with length := u.length + 1, peak := some peak, satRun := run, satLongest := longest, quiet := quiet }, none)))) ∧
  (∀ (r : Record) (e : LandmarkEntry), r.addLandmark e =
    if r.landmarks.length < 40 then { r with landmarks := r.landmarks ++ [e] }
    else { r with flags := { r.flags with landmarksTruncated := true } }) ∧
  (∀ (s : State) (p : PortId) (win : ClosedLandmark),
    let b := s.port p
    let t := classifyWindow p win s
    let entry : LandmarkEntry := {
      kind := .tubeEnd, mapIndex := none, measured := some (min 300000 win.peak.pos.toNat), nominal := none, step := none,
      peak := some win.peak.absX, long := win.long, truncated := win.truncated }
    let judged := b.land.judge b.plan.working.supports b.plan.working.landmark.tolerance win
    SameOthers p s t ∧ t.link = s.link ∧ t.now = s.now ∧ t.pending = s.pending ∧ t.readyRecords = s.readyRecords ∧
    t.store.ready = s.store.ready ∧
    (4 ≤ win.satLongest → t.port p = b ∧
      t.openRecords p = (s.openRecords p).map (fun r =>
        let r' := r.addLandmark entry
        { r' with flags := { r'.flags with endSeen := true } })) ∧
    (win.satLongest < 4 → t.port p = { b with land := judged.1 } ∧
      t.openRecords p = (s.openRecords p).map (fun r => judged.2.foldl (fun r e => r.addLandmark e) r))) ∧
  ∀ (s : State) (p : PortId), ((s.port p).land.window = .idle → finaliseLandmark p s = s) ∧
    ∀ pk, (s.port p).land.window = .opened → (s.port p).land.peak = some pk →
      let u := (s.port p).land
      finaliseLandmark p s =
        classifyWindow p { peak := pk, satLongest := u.satLongest, long := false, truncated := true }
          (s.setPort p { s.port p with
            land := {
              window := .idle, length := 0, quiet := 0, peak := none, satRun := 0, satLongest := 0, pointer := u.pointer,
              correction := u.correction, matched := u.matched } })

/-! ### Scans -/

/-- The phases of a slot: the switch gives way to settle, or with settle 0 to integrate, the settle to integrate, and an
integrate that is not the last holds its sample, counts its drive status and begins the next slot's switch (R9, R42 to
R45). That the means come as whole counts is the model's choice, log entry 6. -/
def Obligations.SlotPhasesRun : Prop :=
  ∀ (s : State) (p : PortId) (sc : Scan), (s.port p).seq.scan = some sc →
    let b := s.port p
    let e := b.seq.slotAt sc.slot
    let integrating : Scan := { sc with phase := .integrate, phaseEnd := sc.phaseEnd + e.integrate * e.period }
    let settling : Scan := { sc with phase := .settle, phaseEnd := sc.phaseEnd + e.settle * e.period }
    (sc.phase = .switch → ∃ t, exec (.switchEnd p) s = .next t ∧
      EventOn p s t sc.phaseEnd { b with
        seq := { b.seq with scan := some (if e.settle = 0 then integrating else settling) } }) ∧
    (sc.phase = .settle → ∃ t, exec (.settleEnd p) s = .next t ∧
      EventOn p s t sc.phaseEnd { b with seq := { b.seq with scan := some integrating } }) ∧
    (∀ x y clipped found, sc.phase = .integrate → sc.slot + 1 < b.seq.slots.length →
      found = [] ∨ b.ctl.runs.getD sc.slot 0 + 1 < 3 →
      ∃ t, exec (.integrateEnd p x y clipped found) s = .next t ∧
        EventOn p s t sc.phaseEnd { b with
          ctl := { b.ctl with runs := b.ctl.runs.set sc.slot (if found = [] then 0 else b.ctl.runs.getD sc.slot 0 + 1) },
          chan := { b.chan with
            held := b.chan.held ++ [{
              slot := sc.slot, x := max (-32768) (min 32767 x), y := max (-32768) (min 32767 y),
              saturated := clipped || decide (x < -32768 ∨ 32767 < x ∨ y < -32768 ∨ 32767 < y),
              status := match found with
                | [] => .ok
                | .openLead :: _ => .openLead
                | .short :: _ => .short }] },
          seq := { b.seq with
            scan := some { sc with slot := sc.slot + 1, phase := .switch, phaseEnd := sc.phaseEnd + 80 } } })

/-- The third sample in a row of a slot with a drive condition declares a coil fault: the port enters FAULT with the
detail, its scan and samples are gone, its null operation is answered ABORTED or its record closed with reason FAULT,
its drive channel is halted, its pending plan is promoted, and the reports stand in that order; a held CLOSE_TUBE is answered
DONE with FAULT (R10, R89, R143, R144, R160). Where the record's final position starts without a scan is the model's
reading, log entry 12. -/
def Obligations.CoilFaultDeclared : Prop :=
  ∀ (s : State) (p : PortId) (sc : Scan) (x y : Int) (clipped : Bool) (f : DriveFault) (found : List DriveFault),
    LinkLaw s → HeldLaw s → PoolLaw s → PortLaw s → (s.port p).seq.scan = some sc → sc.phase = .integrate →
    (s.port p).ctl.runs[sc.slot]? = some 2 →
    let b := s.port p
    let status : DriveStatus := match f with
      | .openLead => .openLead
      | .short => .short
    let number := (s.openRecords p).head?.map Record.number
    ∃ t, exec (.integrateEnd p x y clipped (f :: found)) s = .next t ∧
      (∀ q, q ≠ p → (t.port q).sansRing = (s.port q).sansRing) ∧ t.pending = s.pending ∧ t.now = max s.now sc.phaseEnd ∧
      (t.port p).ctl = {
        mode := .fault, previous := s.mode p, lastCause := .coilFault, runs := List.replicate 12 0,
        fault := some { slot := sc.slot, status := status, declaredIn := s.mode p, record := number } } ∧
      (t.port p).seq.scan = none ∧ (t.port p).seq.timer = none ∧ (t.port p).seq.owed = false ∧
      (t.port p).seq.held = none ∧ (t.port p).seq.closeHold = false ∧ (t.port p).seq.seqNo = b.seq.seqNo ∧
      (t.port p).chan.held = [] ∧
      ((b.plan.pending = false ∨ (b.plan.staged.travel.deglitch = b.plan.working.travel.deglitch ∧
        b.travel.quad = { one := b.travel.track1.level, two := b.travel.track2.level })) →
        (t.port p).travel.raw = b.travel.raw) ∧
      (t.port p).drive = { b.drive with
        state := .awaitHalt, queue := [], current := none, limit := none, deferred := none, doneDeadline := none,
        awaited := some { kind := .halt, number := b.drive.number, deadline := none },
        outgoing := b.drive.outgoing ++ [.halt b.drive.number], number := b.drive.number + 1 } ∧
      (t.port p).plan = (if b.plan.pending then
        { working := b.plan.staged, staged := b.plan.staged, pending := false, generation := b.plan.generation + 1 }
        else b.plan) ∧
      (s.mode p = .nulling → t.store = s.store ∧ (t.port p).chan.accum = none ∧
        ∀ h ∈ s.link.buffer, h.inProgress → h.kind = .nullChannels → h.port = p.byte →
          t.unsentReplies = s.unsentReplies ++ [{
            place := some h.place, kind := RequestKind.nullChannels.code, tag := h.tag, port := p.byte,
            body := .refused .aborted none }]) ∧
      (∀ r, s.openRecords p = [r] → t.store = s.store.closing r (r.closedBy b .fault) ∧ (t.port p).travel.grid = none ∧
        (t.port p).det = .clear ∧ (t.port p).land.window = .idle ∧ (t.port p).land.correction = 0 ∧
        (t.port p).land.pointer = none ∧ (t.port p).stream.gap = none ∧ CloseAnswered p s t r.number .fault) ∧
      Raised s t ((s.openRecords p).map (fun r => .recordReady p r.number .fault) ++
        [.driveEvent p { kind := .aborted .portFault none, state := .awaitHalt, queueLength := 0 },
         .portEvent {
          port := p, kind := .coilFault, state := .fault, previous := s.mode p, cause := .coilFault, record := number,
          generation := none, slot := some sc.slot, status := some status, declaredIn := some (s.mode p) }] ++
        if b.plan.pending then [promotedReport p .fault (s.mode p) .stateEntry (b.plan.generation + 1)] else [])

/-- The last slot of a scan without a coil fault completes it, and its number is taken: in ARMED an owed start then begins
a TIME scan; in NULLING a scan before the sixteenth joins the accumulation; the sixteenth writes the null table, answers the
request with it and brings the port to IDLE, where a pending plan is promoted over it (R46, R47, R49, R86 to R88, R90). The
stream unit's part is left to R167, the scans of ACQUIRING and the close held for a scan to TubeScanCompletes. -/
def Obligations.TimeScanCompletes : Prop :=
  ∀ (s : State) (p : PortId) (sc : Scan) (x y : Int) (clipped : Bool) (found : List DriveFault),
    (s.port p).seq.scan = some sc → sc.phase = .integrate → sc.kind = .time →
    sc.slot + 1 = (s.port p).seq.slots.length → found = [] ∨ (s.port p).ctl.runs.getD sc.slot 0 + 1 < 3 →
    (s.port p).seq.closeHold = false → (s.port p).stream.gap = none →
    let b := s.port p
    let e := sampleOf sc.slot x y clipped found
    let ctl : PortController := { b.ctl with
      runs := b.ctl.runs.set sc.slot (if found = [] then 0 else b.ctl.runs.getD sc.slot 0 + 1) }
    let now := max s.now sc.phaseEnd
    let next : Sequencer :=
      if b.seq.owed then { b.seq with
        seqNo := b.seq.seqNo + 1, owed := false, timer := some (now + b.plan.working.travel.period * 40),
        scan := some { kind := .time, startPos := b.travel.raw, slot := 0, phase := .switch, phaseEnd := now + 80 } }
      else { b.seq with seqNo := b.seq.seqNo + 1, scan := none }
    ∃ t, exec (.integrateEnd p x y clipped found) s = .next t ∧ t.store = s.store ∧ t.now = now ∧ t.pending = s.pending ∧
      (∀ q, q ≠ p → (t.port q).sansRing = (s.port q).sansRing) ∧
      (s.mode p = .armed →
        { t.port p with stream := b.stream } = { b with ctl := ctl, seq := next, chan := { b.chan with held := [] } } ∧
        QuietLink s t ∧ t.unsentReports = s.unsentReports) ∧
      (∀ a, s.mode p = .nulling → b.chan.accum = some a → a.count + 1 < 16 →
        { t.port p with stream := b.stream } = { b with
          ctl := ctl, seq := next,
          chan := { b.chan with
            held := [],
            accum := some {
              count := a.count + 1,
              sums := List.zipWith ChannelValue.add a.sums ((b.chan.held ++ [e]).map Sample.value) } } } ∧
        QuietLink s t ∧ t.unsentReports = s.unsentReports) ∧
      (∀ a h, s.mode p = .nulling → b.chan.accum = some a → a.count = 15 → LinkLaw s → HeldLaw s →
        h ∈ s.link.buffer → h.inProgress → h.kind = .nullChannels → h.port = p.byte →
        let sums := List.zipWith ChannelValue.add a.sums ((b.chan.held ++ [e]).map Sample.value)
        { t.port p with stream := b.stream } = s.promotedBlocks now p { b with
          ctl := { mode := .idle, previous := .nulling, lastCause := .nullDone, runs := List.replicate 12 0, fault := none },
          seq := { b.seq with seqNo := b.seq.seqNo + 1, scan := none, timer := none, owed := false, held := none },
          chan := { nulls := nulledTable b.chan.nulls sums, held := [], accum := none } } ∧
        t.unsentReplies = s.unsentReplies ++ [{
          place := some h.place, kind := RequestKind.nullChannels.code, tag := h.tag, port := p.byte,
          body := .done (.nulled ((nulledTable b.chan.nulls sums).take sums.length) (saturatedFrom 0 sums)) }] ∧
        Raised s t (stateReport p .idle .nulling .nullDone none ::
          if b.plan.pending then [promotedReport p .idle .nulling .stateEntry (b.plan.generation + 1)] else []))

/-- The last slot of a scan of ARMED or ACQUIRING without a coil fault completes it (R46). The set, at the start position's
tenths plus the correction, goes to the stream unit, and a DISTANCE scan of ACQUIRING is counted, noted as the last completed
one, and goes to the detector and then the landmark unit (R60, R83, R114, R138). Then the first that applies closes the
record: a tube end with auto-close ON, the exit position reached, a close held for the scan (R53, R72, R118, R142, R144). With
no close an owed start begins a TIME scan in ARMED, and a start held behind the last TIME scan begins the DISTANCE scan of
point 0 in ACQUIRING (R49, R50). That the scan is noted before its consumers have it is the model's reading, log entry 13, and
so is where the final position starts at a close behind the last TIME scan, with no DISTANCE scan completed, log entry 12. -/
def Obligations.TubeScanCompletes : Prop :=
  ∀ (s : State) (p : PortId) (sc : Scan) (x y : Int) (clipped : Bool) (found : List DriveFault) (r gapped : Record),
    LinkLaw s → HeldLaw s → PoolLaw s → PortLaw s → s.openRecords p = [r] → (s.port p).seq.scan = some sc →
    sc.phase = .integrate → sc.slot + 1 = (s.port p).seq.slots.length →
    found = [] ∨ (s.port p).ctl.runs.getD sc.slot 0 + 1 < 3 →
    (sc.kind = .distance → s.mode p = .acquiring ∧ (s.port p).seq.held = none) →
    let b := s.port p
    let w := b.plan.working
    let now := max s.now sc.phaseEnd
    let e := sampleOf sc.slot x y clipped found
    let c := calibrate b.chan.nulls w (b.chan.held ++ [e]) b.seq.seqNo sc.kind (sc.startPos / 100 + b.land.correction)
    (streamScan p c s).openRecords p = [gapped] →
    let counted := { b with
      ctl := { b.ctl with runs := b.ctl.runs.set sc.slot (if found = [] then 0 else b.ctl.runs.getD sc.slot 0 + 1) },
      seq := { b.seq with scan := none, seqNo := b.seq.seqNo + 1 }, chan := { b.chan with held := [] },
      stream := ((streamScan p c s).port p).stream }
    let taken := { gapped with counters := { gapped.counters with scansTaken := gapped.counters.scansTaken + 1 } }
    let d := detectorWork w c b.det taken
    let l := landmarkWork w c b.land d.2
    let work := if sc.kind = .distance then
        ({ counted with
          travel := { b.travel with lastScan := some { trigger := sc.startPos, corrected := c.pos } }, det := d.1, land := l.1 },
          l.2.1)
      else (counted, gapped)
    let closes : Option (CloseReason × Cause) :=
      if sc.kind = .distance ∧ l.2.2 = true ∧ w.landmark.autoClose = true then some (.tubeEnd, .closeTubeEnd)
      else if sc.kind = .distance ∧ c.pos ≤ w.landmark.exitPos then some (.exit, .closeExit)
      else if b.seq.closeHold = true then some (.host, .closeHost)
      else none
    let started : Sequencer :=
      if s.mode p = .armed ∧ b.seq.owed = true then { work.1.seq with
        owed := false, timer := some (now + w.travel.period * 40),
        scan := some { kind := .time, startPos := b.travel.raw, slot := 0, phase := .switch, phaseEnd := now + 80 } }
      else match b.seq.held with
        | some pos => { work.1.seq with
            held := none,
            scan := some { kind := .distance, startPos := pos, slot := 0, phase := .switch, phaseEnd := now + 80 } }
        | none => work.1.seq
    ∃ t, exec (.integrateEnd p x y clipped found) s = .next t ∧ t.now = now ∧ t.pending = s.pending ∧
      (∀ q, q ≠ p → (t.port q).sansRing = (s.port q).sansRing) ∧ t.store.counter = s.store.counter ∧
      (∀ q, q ≠ p → t.openRecords q = s.openRecords q) ∧
      (closes = none → (t.port p).sansRing = { work.1 with seq := started }.sansRing ∧ t.openRecords p = [work.2] ∧
        t.readyRecords = s.readyRecords ∧ t.store.ready = s.store.ready ∧ QuietLink s t ∧
        t.unsentReports = s.unsentReports) ∧
      (∀ reason cause, closes = some (reason, cause) →
        (t.port p).sansRing = (s.promotedBlocks now p (work.1.closedToIdle cause)).sansRing ∧
        t.store = s.store.closing r (work.2.closedBy work.1 reason) ∧ CloseAnswered p s t r.number reason ∧
        Raised s t (closeReports p b r.number reason cause))

/-- The time-mode timer expires in NULLING and ARMED: with a scan in flight a start is owed; without one a TIME scan
begins at the raw position and the timer starts again, but under a close hold nothing starts (R49, R53). -/
def Obligations.TimeModeExpires : Prop :=
  ∀ (s : State) (p : PortId) (due : Nat), (s.port p).seq.timer = some due → s.mode p = .nulling ∨ s.mode p = .armed →
    let b := s.port p
    ∃ t, exec (.timeModeExpiry p) s = .next t ∧
      EventOn p s t due { b with
        seq :=
          if b.seq.scan.isSome then { b.seq with timer := none, owed := true }
          else if b.seq.closeHold then { b.seq with timer := none }
          else { b.seq with
            timer := some (max s.now due + b.plan.working.travel.period * 40),
            scan := some {
              kind := .time, startPos := b.travel.raw, slot := 0, phase := .switch, phaseEnd := max s.now due + 80 } } }

/-- The detector's work on a scan. IDLE opens a window at |Y| of T_open; an open window takes the scan's extremes, length,
marks and close run, and closes at Q_close quiet scans or, LONG, at L_max scans, after which a LONG one leaves the detector
BLOCKED until Q_close quiet scans; a missed point marks the window that is open after the scan (R95 to R99). -/
def Obligations.DetectorWindows : Prop :=
  ∀ (cfg : DetectFields) (pt : Point) (saturated : Bool) (d : Detector),
    (d.state = .idle → pt.y.natAbs < cfg.tOpen → d.scan cfg pt saturated = ({ d with miss := false }, none)) ∧
    (d.state = .idle → cfg.tOpen ≤ pt.y.natAbs → d.scan cfg pt saturated =
      ({ state := .opened, high := some pt, low := some pt, length := 1, closeRun := 0, saturated := saturated,
         gapped := d.miss, miss := false }, none)) ∧
    (d.state = .blocked →
      let run := if pt.y.natAbs < cfg.tClose then d.closeRun + 1 else 0
      d.scan cfg pt saturated =
        (if pt.y.natAbs < cfg.tClose ∧ cfg.qClose ≤ run then { d with state := .idle, closeRun := 0, miss := false }
         else { d with closeRun := run, miss := false }, none)) ∧
    (∀ h l, d.state = .opened → d.high = some h → d.low = some l →
      let high := if h.y < pt.y then pt else h
      let low := if pt.y < l.y then pt else l
      let run := if pt.y.natAbs < cfg.tClose then d.closeRun + 1 else 0
      let closed : ClosedWindow := {
        high := high, low := low, length := d.length + 1, saturated := d.saturated || saturated, gapped := d.gapped,
        long := false, truncated := false }
      (cfg.qClose ≤ run → d.scan cfg pt saturated = (Detector.clear, some closed)) ∧
      (run < cfg.qClose → cfg.lMax ≤ d.length + 1 →
        d.scan cfg pt saturated = ({ Detector.clear with state := .blocked }, some { closed with long := true })) ∧
      (run < cfg.qClose → d.length + 1 < cfg.lMax → d.scan cfg pt saturated =
        ({ state := .opened, high := some high, low := some low, length := d.length + 1, closeRun := run,
           saturated := d.saturated || saturated, gapped := d.gapped || d.miss, miss := false }, none)))

/-- The stream unit's work on a completed scan. With no channel listed it does nothing; short of the decimation the group
takes the scan; a complete group forms a frame of the means, which the ring stores, carrying and ending the run of lost
frames and a gap being built, or at a full ring drops and counts, in ACQUIRING as part of a gap (R167 to R171). That the run
of lost frames stops at 4,294,967,295 is the model's reading, log entry 15. -/
def Obligations.StreamFramesOffered : Prop :=
  ∀ (s : State) (p : PortId) (c : CalibratedSet),
    let b := s.port p
    let cfg := b.plan.working.stream
    let values := cfg.channels.map c.channel
    let sums := match b.stream.group with
      | none => values
      | some g => List.zipWith ChannelValue.add g.sums values
    let count := match b.stream.group with
      | none => 1
      | some g => g.count + 1
    let mean := fun sum : Int => (sum + (cfg.decimation / 2 : Nat)) / cfg.decimation
    let width := fun v : Int => if cfg.width = 8 then v / 256 else v
    let pos := min 300000 c.pos.toNat
    let frame : StreamFrame := {
      port := p, generation := b.plan.generation, width := cfg.width, seqNo := c.seqNo, kind := c.kind, pos := pos,
      lost := min b.stream.lost 255, gap := b.stream.miss,
      values := sums.map fun v => { x := width (mean v.x), y := width (mean v.y), saturated := v.saturated } }
    (cfg.channels = [] → streamScan p c s = s) ∧
    (cfg.channels ≠ [] → count < cfg.decimation → streamScan p c s = s.setPort p { b with
      stream := { b.stream with
        group := some { count := count, sums := sums, seqNo := c.seqNo, kind := c.kind, pos := c.pos } } }) ∧
    (cfg.channels ≠ [] → cfg.decimation ≤ count → b.stream.ring.length < 32 →
      let t := streamScan p c s
      t.port p = { b with
        stream := { ring := b.stream.ring ++ [frame], group := none, miss := false, lost := 0, lastPos := pos, gap := none } } ∧
      SameOthers p s t ∧ t.link = s.link ∧ t.now = s.now ∧ t.readyRecords = s.readyRecords ∧
      t.openRecords p = (s.openRecords p).map (fun r => match b.stream.gap with
        | none => r
        | some g => r.addGap { kind := .stream, start := g.start, stop := pos, count := g.count })) ∧
    (cfg.channels ≠ [] → cfg.decimation ≤ count → 32 ≤ b.stream.ring.length →
      streamScan p c s = s.setPort p { b with
        stream := { b.stream with
          group := none, miss := false, lost := if b.stream.lost < 4294967295 then b.stream.lost + 1 else b.stream.lost,
          gap := if s.mode p = .acquiring then some (match b.stream.gap with
            | none => { start := b.stream.lastPos, last := pos, count := 1 }
            | some g => { g with last := pos, count := g.count + 1 })
          else b.stream.gap } })

/-! ### Travel -/

/-- The encoder tracks. With a filter length above 0 an input that leaves its level starts the filter's counter, and one
that returns stops it without output. A level that follows its input is decoded: one track counts an edge, which moves
the raw position by the scale toward its direction under the sense, within the limits; both tracks at once are an
illegal transition (R56 to R59). In IDLE, NULLING and FAULT an edge moves the raw position alone; in ARMED and ACQUIRING it is
handed on as a counted edge, and the illegal transition that brings the count to 16 sets ENCODER_SUSPECT (R58, R59). Of two
running filters the one begun first expires first, and two begun at one tick expire together, an illegal transition. In OFF
the levels follow and nothing is decoded. -/
def Obligations.TracksDecode : Prop :=
  ∀ (s : State) (p : PortId) (l1 l2 : Bool) (time : Nat),
    let u := (s.port p).travel
    let w := (s.port p).plan.working.travel
    let onInput := fun (f : TrackFilter) (l : Bool) =>
      if l = f.input then f
      else if l = f.level then { f with input := l, since := none }
      else { f with input := l, since := some (max s.now time) }
    let follow := fun (l : Bool) => ({ input := l, level := l, since := none } : TrackFilter)
    let quiet := s.mode p = .idle ∨ s.mode p = .nulling ∨ s.mode p = .fault
    let at1 := u.track1 = follow u.quad.one
    let at2 := u.track2 = follow u.quad.two
    let later := fun (f : TrackFilter) (level : Bool) (began : Nat) => f.level = level ∧ ∀ n, f.since = some n → began < n
    let running := fun (l : Bool) (began : Nat) => ({ input := !l, level := l, since := some began } : TrackFilter)
    let illegal : TravelUnit := { u with illegal := if u.illegal < 65535 then u.illegal + 1 else u.illegal }
    let edge := EdgeCounted w.scale w.sense
    let tube := s.mode p = .armed ∨ s.mode p = .acquiring
    let counts := fun (c : Instr) (at0 : Nat) (forward : Bool) (one two : TrackFilter) (quad : Levels) =>
      ∃ x, edge forward u x ∧ x.quad = quad ∧ x.track1 = one ∧ x.track2 = two ∧
        exec c s = .next (arbitrate (countedEdge p
          { push := decide (w.sense = .normal ↔ forward = true), moved := (x.raw - u.raw).natAbs }
          ({ s with now := max s.now at0 }.setPort p { s.port p with travel := x })))
    let suspects := fun (c : Instr) (at0 : Nat) (m1 m2 : Bool) =>
      ∃ t, exec c s = .next t ∧
        (t.port p).sansRing = { s.port p with
          travel := { illegal with track1 := follow m1, track2 := follow m2, quad := { one := m1, two := m2 } } }.sansRing ∧
        (∀ q, q ≠ p → (t.port q).sansRing = (s.port q).sansRing) ∧ t.now = max s.now at0 ∧ t.pending = s.pending ∧
        QuietLink s t ∧ t.unsentReports = s.unsentReports ∧ t.store.ready = s.store.ready ∧
        t.readyRecords = s.readyRecords ∧ (∀ q, q ≠ p → t.openRecords q = s.openRecords q) ∧
        t.openRecords p = (s.openRecords p).map (fun r =>
          if u.illegal + 1 = 16 then { r with flags := { r.flags with encoderSuspect := true } } else r)
    (w.deglitch ≠ 0 → s.mode p = .off ∨ u.quad = { one := u.track1.level, two := u.track2.level } →
      ∃ t, exec (.trackInputChange time p l1 l2) s = .next t ∧
        EventOn p s t time { s.port p with travel := { u with track1 := onInput u.track1 l1, track2 := onInput u.track2 l2 } }) ∧
    (w.deglitch = 0 → quiet → at1 → at2 → l1 ≠ u.quad.one → l2 = u.quad.two →
      ∃ t x, exec (.trackInputChange time p l1 l2) s = .next t ∧ EventOn p s t time { s.port p with travel := x } ∧
        edge (u.quad.one == u.quad.two) u x ∧ x.quad = { one := l1, two := l2 } ∧ x.track1 = follow l1 ∧ x.track2 = follow l2) ∧
    (w.deglitch = 0 → quiet → at1 → at2 → l1 = u.quad.one → l2 ≠ u.quad.two →
      ∃ t x, exec (.trackInputChange time p l1 l2) s = .next t ∧ EventOn p s t time { s.port p with travel := x } ∧
        edge (u.quad.one != u.quad.two) u x ∧ x.quad = { one := l1, two := l2 } ∧ x.track1 = follow l1 ∧ x.track2 = follow l2) ∧
    (w.deglitch = 0 → quiet → at1 → at2 → l1 ≠ u.quad.one → l2 ≠ u.quad.two →
      ∃ t, exec (.trackInputChange time p l1 l2) s = .next t ∧
        EventOn p s t time { s.port p with
          travel := { illegal with track1 := follow l1, track2 := follow l2, quad := { one := l1, two := l2 } } }) ∧
    (∀ began, quiet → u.track1 = running u.quad.one began → later u.track2 u.quad.two began →
      ∃ t x, exec (.trackFilterExpiry p) s = .next t ∧
        EventOn p s t (began + w.deglitch) { s.port p with travel := x } ∧
        edge (u.quad.one == u.quad.two) u x ∧ x.quad = { one := !u.quad.one, two := u.quad.two } ∧
        x.track1 = follow (!u.quad.one) ∧ x.track2 = u.track2) ∧
    (∀ began, quiet → later u.track1 u.quad.one began → u.track2 = running u.quad.two began →
      ∃ t x, exec (.trackFilterExpiry p) s = .next t ∧
        EventOn p s t (began + w.deglitch) { s.port p with travel := x } ∧
        edge (u.quad.one != u.quad.two) u x ∧ x.quad = { one := u.quad.one, two := !u.quad.two } ∧
        x.track1 = u.track1 ∧ x.track2 = follow (!u.quad.two)) ∧
    (w.deglitch = 0 → tube → at1 → at2 → l1 ≠ u.quad.one → l2 = u.quad.two →
      counts (.trackInputChange time p l1 l2) time (u.quad.one == u.quad.two) (follow l1) (follow l2) { one := l1, two := l2 }) ∧
    (w.deglitch = 0 → tube → at1 → at2 → l1 = u.quad.one → l2 ≠ u.quad.two →
      counts (.trackInputChange time p l1 l2) time (u.quad.one != u.quad.two) (follow l1) (follow l2) { one := l1, two := l2 }) ∧
    (∀ began, tube → u.track1 = running u.quad.one began → later u.track2 u.quad.two began →
      counts (.trackFilterExpiry p) (began + w.deglitch) (u.quad.one == u.quad.two) (follow (!u.quad.one)) u.track2
        { one := !u.quad.one, two := u.quad.two }) ∧
    (∀ began, tube → later u.track1 u.quad.one began → u.track2 = running u.quad.two began →
      counts (.trackFilterExpiry p) (began + w.deglitch) (u.quad.one != u.quad.two) u.track1 (follow (!u.quad.two))
        { one := u.quad.one, two := !u.quad.two }) ∧
    (w.deglitch = 0 → tube → at1 → at2 → l1 ≠ u.quad.one → l2 ≠ u.quad.two →
      suspects (.trackInputChange time p l1 l2) time l1 l2) ∧
    (∀ began, tube → u.track1 = running u.quad.one began → u.track2 = running u.quad.two began →
      suspects (.trackFilterExpiry p) (began + w.deglitch) (!u.quad.one) (!u.quad.two)) ∧
    (∀ began, quiet → u.track1 = running u.quad.one began → u.track2 = running u.quad.two began →
      ∃ t, exec (.trackFilterExpiry p) s = .next t ∧
        EventOn p s t (began + w.deglitch) { s.port p with
          travel := { illegal with
            track1 := follow (!u.quad.one), track2 := follow (!u.quad.two),
            quad := { one := !u.quad.one, two := !u.quad.two } } }) ∧
    (w.deglitch = 0 → s.mode p = .off →
      let at0 := fun (f : TrackFilter) (l : Bool) => if l = f.input then f else follow l
      ∃ t, exec (.trackInputChange time p l1 l2) s = .next t ∧
        EventOn p s t time { s.port p with travel := { u with track1 := at0 u.track1 l1, track2 := at0 u.track2 l2 } }) ∧
    (∀ began, s.mode p = .off → u.track1.since = some began ∨ u.track2.since = some began →
      (∀ n, u.track1.since = some n ∨ u.track2.since = some n → began ≤ n) →
      let passed := fun f : TrackFilter => if f.since = some began then follow f.input else f
      ∃ t, exec (.trackFilterExpiry p) s = .next t ∧
        EventOn p s t (began + w.deglitch) { s.port p with
          travel := { u with track1 := passed u.track1, track2 := passed u.track2 } })

/-- An edge counted in ARMED: a pull edge raises the start-travel accumulator and a push edge lowers it, never below 0; the
pull edge that brings it to the start travel, with no close hold, brings the port to ACQUIRING with its grid laid at the
raw position, point 0 started or held behind the TIME scan, and the header's grid origin given (R4, R50, R53, R62, R63). -/
def Obligations.StartTravelEnters : Prop :=
  ∀ (s : State) (p : PortId) (e : Edge), s.mode p = .armed →
    let b := s.port p
    let acc := b.travel.startAcc + e.moved
    (e.push = true → countedEdge p e s = s.setPort p { b with travel := { b.travel with startAcc := b.travel.startAcc - e.moved } }) ∧
    (e.push = false → acc < b.plan.working.travel.startTravel * 100 ∨ b.seq.closeHold = true →
      countedEdge p e s = s.setPort p { b with travel := { b.travel with startAcc := acc } }) ∧
    (∀ r, e.push = false → b.plan.working.travel.startTravel * 100 ≤ acc → b.seq.closeHold = false → s.openRecords p = [r] →
      let t := countedEdge p e s
      SameOthers p s t ∧ t.now = s.now ∧ t.pending = s.pending ∧ t.store.ready = s.store.ready ∧
      t.readyRecords = s.readyRecords ∧ (∀ q, q ≠ p → t.openRecords q = s.openRecords q) ∧
      t.openRecords p = [{ r with gridOrigin := some (min 300000 (b.travel.raw / 100).toNat) }] ∧
      t.port p = { b with
        ctl := { b.ctl with mode := .acquiring, previous := .armed, lastCause := .startTravel },
        travel := { b.travel with
          startAcc := acc, pushAcc := 0, reversalMark := false, grid := some { origin := b.travel.raw, next := 1 },
          low := some b.travel.raw, lastStarted := some { index := 0, firedAt := s.now } },
        det := .clear,
        land := { LandmarkUnit.clear with pointer := b.land.pointer, correction := b.land.correction, matched := b.land.matched },
        stream := { b.stream with group := none, miss := false },
        seq :=
          if b.seq.scan.isSome then { b.seq with timer := none, owed := false, held := some b.travel.raw }
          else { b.seq with
            timer := none, owed := false,
            scan := some {
              kind := .distance, startPos := b.travel.raw, slot := 0, phase := .switch, phaseEnd := s.now + 80 } } } ∧
      Raised s t [stateReport p .acquiring .armed .startTravel (some r.number)])

/-- A fired point with no scan in flight, no held start and no close hold is TAKEN: its DISTANCE scan begins at once, a
missed run present becomes an OVERSPEED gap that ends here, and the speed from the point started just before it raises
the maximum speed. Any other is MISSED: it is counted, OVERSPEED is set with one event for the record, the run takes it,
the detector and the stream unit are told, the speed guard may send a LIMIT, and the sequencer stands (R51, R65, R66, R69
to R71). -/
def Obligations.PointTakenOrMissed : Prop :=
  ∀ (s : State) (p : PortId) (n : Nat) (pos : Int) (r : Record), s.openRecords p = [r] →
    let b := s.port p
    let t := firePoint p n pos s
    let limit := max 10 (min 3000 b.travel.guardLimit)
    let first := if r.flags.overspeed then [] else [Report.portEvent {
      port := p, kind := .overspeed, state := s.mode p, previous := b.ctl.previous, cause := .missedTrigger,
      record := some r.number, generation := none, slot := none, status := none, declaredIn := none }]
    SameOthers p s t ∧ t.now = s.now ∧ t.pending = s.pending ∧ t.store.ready = s.store.ready ∧
    t.readyRecords = s.readyRecords ∧ (∀ q, q ≠ p → t.openRecords q = s.openRecords q) ∧
    (b.seq.scan = none → b.seq.held = none → b.seq.closeHold = false →
      let gapped := match b.travel.run with
        | none => r
        | some m => r.addGap {
            kind := .overspeed, start := overspeedStart b.travel b.land.correction, stop := min 300000 (pos / 100 + b.land.correction).toNat,
            count := m.count }
      t.port p = { b with
        seq := { b.seq with scan := some { kind := .distance, startPos := pos, slot := 0, phase := .switch, phaseEnd := s.now + 80 } },
        travel := { b.travel with run := none, lastStarted := some { index := n, firedAt := s.now } } } ∧
      ((∀ st, b.travel.lastStarted = some st → st.index + 1 ≠ n) → t.openRecords p = [gapped]) ∧
      (∀ st, b.travel.lastStarted = some st → st.index + 1 = n →
        t.openRecords p = [{ gapped with
          counters := { gapped.counters with
            maxSpeed := max gapped.counters.maxSpeed
              (b.plan.working.travel.step * 1000 / ((s.now - st.firedAt) / 40)) } }]) ∧
      t.unsentReports = s.unsentReports) ∧
    (b.seq.scan.isSome = true ∨ b.seq.held.isSome = true ∨ b.seq.closeHold = true →
      t.openRecords p = [{ r with
        counters := { r.counters with missed := r.counters.missed + 1 }, flags := { r.flags with overspeed := true } }] ∧
      (t.port p).seq = b.seq ∧ (t.port p).det = { b.det with miss := true } ∧
      (t.port p).stream = { b.stream with miss := true } ∧
      (t.port p).travel = { b.travel with
        lastStarted := none,
        run := some (match b.travel.run with
          | none => { first := pos, last := pos, count := 1 }
          | some m => { m with last := pos, count := m.count + 1 }) } ∧
      (b.plan.working.travel.speedGuard = false ∨ b.drive.state ≠ .moving ∨ (∃ v, b.drive.lastLimit = some v ∧ v ≤ limit) →
        (t.port p).drive = b.drive ∧ Raised s t first) ∧
      (b.plan.working.travel.speedGuard = true → b.drive.state = .moving →
        (∀ v, b.drive.lastLimit = some v → limit < v) →
        (t.port p).drive = { b.drive with
          outgoing := b.drive.outgoing ++ [.limit b.drive.number limit], number := b.drive.number + 1,
          limit := some { number := b.drive.number, speed := limit, deadline := none }, lastLimit := some limit } ∧
        Raised s t (first ++ [.driveEvent p {
          kind := .limitSent limit, state := .moving, queueLength := b.drive.queue.length }])))

/-- An edge counted in ACQUIRING. A pull edge clears the push travel; below the low-water mark it lowers the mark, and
where it reaches the next grid point it fires that point, once. A push edge adds to the push travel, and the one that
brings it beyond 2,000 um counts one reversal (R64, R68). -/
def Obligations.GridAndReversals : Prop :=
  ∀ (s : State) (p : PortId) (e : Edge) (g : Grid) (low : Int), s.mode p = .acquiring → (s.port p).travel.grid = some g →
    (s.port p).travel.low = some low →
    let b := s.port p
    let u : TravelUnit := { b.travel with pushAcc := 0, reversalMark := false }
    let pos := g.origin - (g.next : Int) * b.plan.working.travel.step
    (e.push = false → low ≤ u.raw → countedEdge p e s = s.setPort p { b with travel := u }) ∧
    (e.push = false → u.raw < low → pos < u.raw ∨ low ≤ pos →
      countedEdge p e s = s.setPort p { b with travel := { u with low := some u.raw } }) ∧
    (e.push = false → u.raw < low → u.raw ≤ pos → pos < low →
      countedEdge p e s = firePoint p g.next pos (s.setPort p { b with
        travel := { u with low := some u.raw, grid := some { g with next := g.next + 1 } } })) ∧
    (e.push = true →
      let t := countedEdge p e s
      let reversed := decide (2000 < b.travel.pushAcc + e.moved) && !b.travel.reversalMark
      t.port p = { b with
        travel := { b.travel with
          pushAcc := b.travel.pushAcc + e.moved, reversalMark := b.travel.reversalMark || reversed } } ∧
      SameOthers p s t ∧ t.link = s.link ∧ t.now = s.now ∧ t.pending = s.pending ∧ t.readyRecords = s.readyRecords ∧
      t.openRecords p = (s.openRecords p).map (fun r =>
        if reversed then { r with
          flags := { r.flags with reversal := true },
          counters := { r.counters with
            reversals := if r.counters.reversals < 4294967295 then r.counters.reversals + 1 else r.counters.reversals } }
        else r))

/-! ### The drive channels -/

/-- DRIVE_QUEUE with room: the entries join the queue as stored, the request is answered with the length after the append,
and in RELEASED or HOLDING with nothing current or awaited the head entry is issued. DRIVE_ABORT in every state of the port
and of the channel: queue and current entry are discarded, a HALT is sent and awaited, and the request is answered with the
count of entries discarded (R153, R154, R160, R161). That the length is the one before the issue, against a row of a worked
example, is the model's reading, log entry 30. -/
def Obligations.DriveRequestsAct : Prop :=
  ∀ (s : State) (p : PortId) (tag : Byte), LinkLaw s →
    let d := (s.port p).drive
    (∀ entries, Accepts s (.driveQueue tag p.byte entries) .driveQueue p.byte → s.mode p ≠ .off → d.state ≠ .lost →
      d.queue.length + entries.length ≤ 8 →
      let queue := d.queue ++ entries.map storedMove
      ∃ t d', exec (.driveQueue tag p.byte entries) s = .next t ∧ t.port p = { s.port p with drive := d' } ∧ RequestOn p s t ∧
        Answered s t .driveQueue tag p.byte (.done (.queued (d.queue.length + entries.length) (entryItems moveItems entries))) ∧
        t.unsentReports = s.unsentReports ∧
        (d.state = .awaitAccept ∨ d.state = .moving ∨ d.state = .awaitHalt ∨ d.current.isSome = true ∨ d.awaited.isSome = true →
          d' = { d with queue := queue }) ∧
        (∀ m rest, d.state = .released ∨ d.state = .holding → d.current = none → d.awaited = none → queue = m :: rest →
          d' = { d with
            state := .awaitAccept, queue := rest, current := some { move := m, number := d.number },
            awaited := some { kind := .move, number := d.number, deadline := none },
            outgoing := d.outgoing ++ [.move d.number m.direction m.speed m.distance], number := d.number + 1 })) ∧
    (Accepts s (.driveAbort tag p.byte) .driveAbort p.byte →
      ∃ t, exec (.driveAbort tag p.byte) s = .next t ∧ RequestOn p s t ∧
        t.port p = { s.port p with
          drive := { d with
            state := .awaitHalt, queue := [], current := none, limit := none, deferred := none, doneDeadline := none,
            awaited := some { kind := .halt, number := d.number, deadline := none },
            outgoing := d.outgoing ++ [.halt d.number], number := d.number + 1 } } ∧
        Answered s t .driveAbort tag p.byte
          (.done (.aborted .awaitHalt (d.queue.length + if d.current.isSome then 1 else 0))) ∧
        Raised s t [.driveEvent p { kind := .aborted .host none, state := .awaitHalt, queueLength := 0 }])

/-- ACCEPT and DONE in turn. The ACCEPT of a MOVE starts the move with its done deadline; that of a RELEASE or a HALT brings
the channel to rest; that of a LIMIT sets the done deadline anew or carries out the deferred completion. DONE completes
the current entry, or with a LIMIT awaited defers that. At rest the next entry is issued, or DRAINED raised (R154 to R160). -/
def Obligations.AcceptAndDoneAct : Prop :=
  ∀ (s : State) (p : PortId) (time : Nat) (n : Byte), DriveLaw s →
    let d := (s.port p).drive
    let now := max s.now time
    let deadline := fun distance speed : Nat => now + ((100 * distance + speed - 1) / speed + 2000) * 40000
    let released := fun x : DriveChannel => ({ x with
      state := .holding, awaited := some { kind := .release, number := x.number, deadline := none },
      outgoing := x.outgoing ++ [.release x.number], number := x.number + 1 } : DriveChannel)
    let settled := fun (x : DriveChannel) (t : State) =>
      (x.queue = [] → DriveEventOn p s t time x [{ kind := .drained, state := x.state, queueLength := 0 }]) ∧
      (∀ m rest, x.queue = m :: rest → DriveEventOn p s t time { x with
        state := .awaitAccept, queue := rest, current := some { move := m, number := x.number },
        awaited := some { kind := .move, number := x.number, deadline := none },
        outgoing := x.outgoing ++ [.move x.number m.direction m.speed m.distance], number := x.number + 1 } [])
    (∀ a, d.awaited = some a → a.number = n → ∃ t, exec (.accept time p n) s = .next t ∧
      (∀ c, a.kind = .move → d.current = some c →
        DriveEventOn p s t time { d with
          state := .moving, awaited := none, doneDeadline := some (deadline c.move.distance c.move.speed) } []) ∧
      (a.kind = .release → settled { d with awaited := none, state := .released } t) ∧
      (a.kind = .halt → settled { d with awaited := none, state := .holding } t)) ∧
    (∀ l, d.limit = some l → l.number = n → ∃ t, exec (.accept time p n) s = .next t ∧
      (∀ c, d.deferred = none → d.current = some c →
        DriveEventOn p s t time { d with limit := none, doneDeadline := some (deadline c.move.distance l.speed) } []) ∧
      (d.deferred = some true → DriveEventOn p s t time (released { d with limit := none, deferred := none }) []) ∧
      (d.deferred = some false → settled { d with limit := none, deferred := none, state := .holding } t)) ∧
    (∀ c, d.state = .moving → d.current = some c → c.number = n → ∃ t, exec (.done time p n) s = .next t ∧
      (d.limit.isSome = true →
        DriveEventOn p s t time { d with doneDeadline := none, current := none, deferred := some c.move.stop } []) ∧
      (d.limit = none → c.move.stop = true →
        DriveEventOn p s t time (released { d with doneDeadline := none, current := none }) []) ∧
      (d.limit = none → c.move.stop = false →
        settled { d with doneDeadline := none, current := none, state := .holding } t))

/-- REFUSE in turn and the three deadlines abort the channel with their source, but a HALT refused or not accepted makes
it LOST (R155 to R157, R159, R160). -/
def Obligations.RefuseAndDeadlinesAbort : Prop :=
  ∀ (s : State) (p : PortId) (time : Nat) (n reason : Byte), DriveLaw s →
    let d := (s.port p).drive
    let aborted := fun (t : State) (at0 : Nat) (source : AbortSource) (why : Option Byte) =>
      DriveEventOn p s t at0 { d with
        state := .awaitHalt, queue := [], current := none, limit := none, deferred := none, doneDeadline := none,
        awaited := some { kind := .halt, number := d.number, deadline := none },
        outgoing := d.outgoing ++ [.halt d.number], number := d.number + 1 }
        [{ kind := .aborted source why, state := .awaitHalt, queueLength := 0 }]
    let lost := fun (t : State) (at0 : Nat) =>
      DriveEventOn p s t at0 { d with state := .lost, awaited := none, queue := [] }
        [{ kind := .lost, state := .lost, queueLength := 0 }]
    (∀ a, d.awaited = some a → a.number = n → ∃ t, exec (.refuse time p n reason) s = .next t ∧
      (a.kind ≠ .halt → aborted t time .refused (some reason)) ∧ (a.kind = .halt → lost t time)) ∧
    (∀ l, d.limit = some l → l.number = n → ∃ t, exec (.refuse time p n reason) s = .next t ∧
      aborted t time .refused (some reason)) ∧
    (∀ a due, d.awaited = some a → a.deadline = some due → ∃ t, exec (.acceptDeadline p) s = .next t ∧
      (a.kind ≠ .halt → aborted t due .timeout none) ∧ (a.kind = .halt → lost t due)) ∧
    (∀ l due, d.limit = some l → l.deadline = some due → ∃ t, exec (.limitAcceptDeadline p) s = .next t ∧
      aborted t due .timeout none) ∧
    (∀ due, d.state = .moving → d.doneDeadline = some due → ∃ t, exec (.doneDeadline p) s = .next t ∧
      aborted t due .stall none)

/-- A message out of turn is ignored and a damaged one is discarded: the channel stands (R151, R162, R190). Intact bytes
given as damaged act as the answer they spell: the model's choice, log entry 9. -/
def Obligations.OutOfTurnIgnored : Prop :=
  ∀ (s : State) (p : PortId) (time : Nat) (n reason : Byte) (raw : List LineByte),
    let d := (s.port p).drive
    let awaits := (∃ a, d.awaited = some a ∧ a.number = n) ∨ ∃ l, d.limit = some l ∧ l.number = n
    let ignored := fun c : Instr => ∃ t, exec c s = .next t ∧ EventOn p s t time (s.port p)
    (¬ awaits → ignored (.accept time p n)) ∧
    (¬ awaits → ignored (.refuse time p n reason)) ∧
    (d.state ≠ .moving ∨ (∀ c, d.current = some c → c.number ≠ n) ∨ d.deferred.isSome = true → ignored (.done time p n)) ∧
    (readAnswer raw = none → ignored (.driveMessageDamaged time p raw)) ∧
    (∀ a, readAnswer raw = some a → exec (.driveMessageDamaged time p raw) s = match a with
      | .accept m => exec (.accept time p m) s
      | .refuse m why => exec (.refuse time p m why) s
      | .done m => exec (.done time p m) s)

/-- The end of sending of the oldest message on a drive line takes it from the line and starts the 20 ms accept deadline of
the message awaited, or of the LIMIT awaited (R151, R154, R156, R159, R160). -/
def Obligations.MessageSentStartsDeadline : Prop :=
  ∀ (s : State) (p : PortId) (time : Nat) (m : DriveMessage) (rest : List DriveMessage),
    (s.port p).drive.outgoing = m :: rest →
    let d := (s.port p).drive
    let due := some (max s.now time + 800000)
    ∃ t, exec (.driveMessageSent time p) s = .next t ∧
      (∀ n v, m = .limit n v → EventOn p s t time { s.port p with
        drive := { d with
          outgoing := rest, limit := d.limit.map (fun l => if l.number = n then { l with deadline := due } else l) } }) ∧
      (∀ n, m = .halt n ∨ m = .release n ∨ (∃ way speed distance, m = .move n way speed distance) →
        EventOn p s t time { s.port p with
          drive := { d with
            outgoing := rest, awaited := d.awaited.map (fun a => if a.number = n then { a with deadline := due } else a) } })

/-! ### RESET and the transmitter -/

/-- RESET: every other request held and not answered is answered RESET_ABORTED and then RESET itself, every port goes to OFF
with its blocks cleared, its drive channel halted and its pending plan promoted, the record pool is emptied, and the
link controller drops its waiting reports, clears its counters and raises one ABORTED event for each port (R19, R149,
R186). That the four events stand in port order is the model's choice, log entry 26. -/
def Obligations.ResetClearsThePart : Prop :=
  ∀ (s : State) (tag port : Byte), LinkLaw s → Accepts s (.reset tag port) .reset port →
    ∃ t place, exec (.reset tag port) s = .next t ∧ t.now = s.now ∧ t.pending = s.pending ∧
      (∀ p, (t.port p).ctl = { mode := .off, previous := s.mode p, lastCause := .reset, runs := List.replicate 12 0, fault := none } ∧
        ClearedFrom (s.port p) (t.port p) ∧
        (t.port p).drive = { (s.port p).drive with
          state := .awaitHalt, queue := [], current := none, limit := none, deferred := none, doneDeadline := none,
          lastLimit := none, awaited := some { kind := .halt, number := (s.port p).drive.number, deadline := none },
          outgoing := (s.port p).drive.outgoing ++ [.halt (s.port p).drive.number],
          number := (s.port p).drive.number + 1 }) ∧
      t.store = { slots := List.replicate 12 .free, ready := [], counter := 1 } ∧
      t.link.deframer = s.link.deframer ∧ t.link.lastServed = .d ∧
      t.link.counters = { crcDiscards := 0, framingDiscards := 0, reportsLost := 0, refusalsNotSent := 0 } ∧
      t.unsentReplies = s.unsentReplies ++
        (s.link.buffer.filter (fun h => !h.answered && h.place != place)).map (fun h => {
          place := some h.place, kind := h.kind.code, tag := h.tag, port := h.port, body := .refused .resetAborted none }) ++
        [{ place := some place, kind := RequestKind.reset.code, tag := tag, port := port, body := .done .nothing }] ∧
      t.unsentReports = sendingReport s.link.sending ++ [PortId.a, .b, .c, .d].map (fun p =>
        .driveEvent p { kind := .aborted .reset none, state := .awaitHalt, queueLength := 0 })

/-- When a frame has left the line the transmitter takes the oldest reply, else the oldest report, else the oldest frame of
the first port after the last one served whose ring holds one, else it is idle; the frame taken leaves its queue, and a
reply taken frees the place of the request it answers (R172, R180, R183). -/
def Obligations.TransmitterTakesNext : Prop :=
  ∀ (s : State) (time : Nat), ∃ t, exec (.transmitFrameDone time) s = .next t ∧ t.store = s.store ∧ t.pending = s.pending ∧
    t.now = max s.now time ∧ t.link.deframer = s.link.deframer ∧ t.link.counters = s.link.counters ∧
    (∀ r rest, s.link.replies = r :: rest → t.ports = s.ports ∧
      t.link = { s.link with
        sending := some (.reply r), replies := rest,
        buffer := s.link.buffer.filter (fun h => decide (r.place ≠ some h.place)) }) ∧
    (∀ r rest, s.link.replies = [] → s.link.reports = r :: rest → t.ports = s.ports ∧
      t.link = { s.link with sending := some (.report r), reports := rest }) ∧
    (∀ before p after f rest, s.link.replies = [] → s.link.reports = [] →
      (match s.link.lastServed with
        | .a => [PortId.b, .c, .d, .a]
        | .b => [PortId.c, .d, .a, .b]
        | .c => [PortId.d, .a, .b, .c]
        | .d => [PortId.a, .b, .c, .d]) = before ++ p :: after → (∀ q ∈ before, (s.port q).stream.ring = []) →
      (s.port p).stream.ring = f :: rest → SameOthers p s t ∧
      t.port p = { s.port p with stream := { (s.port p).stream with ring := rest } } ∧
      t.link = { s.link with sending := some (.stream f), lastServed := p }) ∧
    (s.link.replies = [] → s.link.reports = [] → (∀ p, (s.port p).stream.ring = []) → t.ports = s.ports ∧
      t.link = { s.link with sending := none })

/-! ### What every step keeps -/

/-- Every step keeps the link controller's capacities and the ties between its buffer and its reply queue (R175, R180,
R181). -/
def Obligations.LinkLawKept : Prop := ∀ s t : State, LinkLaw s → step s = .next t → LinkLaw t

/-- Every step leaves a request unanswered only where its port still works on it (R85, R142, R181). -/
def Obligations.HeldLawKept : Prop :=
  ∀ s t : State, LinkLaw s → PoolLaw s → PortLaw s → HeldLaw s → step s = .next t → HeldLaw t

/-- Every step keeps the record pool: one open record for a port in ARMED or ACQUIRING and none for any other, record
numbers that differ, and the READY records in the ready order once each (R130 to R133). -/
def Obligations.PoolLawKept : Prop := ∀ s t : State, PoolLaw s → step s = .next t → PoolLaw t

/-- Every step keeps every record's lists within their sizes, its indications in order and tallied with the accepted and
overflow counts, and every stream ring within 32 frames (R125, R139 to R141, R170). -/
def Obligations.CapacityLawKept : Prop :=
  ∀ s t : State, ListLaw s → RingLaw s → step s = .next t → ListLaw t ∧ RingLaw t

/-- Every step keeps the law of port states: where scans, timers, held starts, close holds, run counts, fault details and
pending plans can stand (R1 to R3, R9, R10, R29, R48 to R53). -/
def Obligations.PortLawKept : Prop := ∀ s t : State, PortLaw s → step s = .next t → PortLaw t

/-- Every step keeps the law of drive channels: what each state holds and awaits (R152). -/
def Obligations.DriveLawKept : Prop := ∀ s t : State, DriveLaw s → step s = .next t → DriveLaw t

/-- Every step keeps the tally of trigger points: each fired point is a scan taken, a point missed or the one still open;
and at the close of a record of a port in ACQUIRING, scans taken plus missed triggers of the READY record are the points
fired, 0 up to the one before the next (R67, R138). -/
def Obligations.TallyLawKept : Prop :=
  (∀ s t : State, PoolLaw s → PortLaw s → TallyLaw s → step s = .next t → TallyLaw t) ∧
  ∀ (s : State) (p : PortId) (reason : CloseReason) (r : Record) (g : Grid), PoolLaw s → PortLaw s → PortTally s p →
    s.mode p = .acquiring → s.openRecords p = [r] → (s.port p).travel.grid = some g →
    ∃ r' ∈ (closeRecord p reason (lostPoint s p) s).readyRecords, r'.number = r.number ∧ r'.closeReason = some reason ∧
      r'.counters.scansTaken + r'.counters.missed = g.next

/-- Every step keeps the position correction within the matched count times the tolerance in force, and 0 without a record
(R122, R128). -/
def Obligations.CorrectionLawKept : Prop :=
  ∀ s t : State, PoolLaw s → CorrectionLaw s → step s = .next t → CorrectionLaw t

/-- Every step keeps every field of both plans in its range and every list in its count, the working plan and a pending one as
a commit leaves them, the tables and speeds those of the working plan, and the null entries beyond the slot table (0, 0) and
unbalanced (R23, R28, R29, R38, R40, R70, R84, R85). -/
def Obligations.PlanLawKept : Prop := ∀ s t : State, PlanLaw s → step s = .next t → PlanLaw t

/-- The state right after power-on keeps every one of these laws. -/
def Obligations.LawsAtReset : Prop :=
  LinkLaw State.reset ∧ HeldLaw State.reset ∧ PoolLaw State.reset ∧ ListLaw State.reset ∧ RingLaw State.reset ∧
  PortLaw State.reset ∧ DriveLaw State.reset ∧ TallyLaw State.reset ∧ CorrectionLaw State.reset ∧
  PlanLaw State.reset
end

