-- ==== Sys2Proof/Laws/State.lean ====
section
/-! SUPPORT. One lemma for each field of the state under each update, so that no proof unfolds an update. -/

namespace Sys2Proof.Machine

variable {p q : PortId} {s : State}

theorem Ports.get_set_same (ps : Ports) (p : PortId) (b : PortBlocks) : (ps.set p b).get p = b := by cases p <;> rfl

theorem Ports.get_set_ne (ps : Ports) (b : PortBlocks) (h : q ≠ p) : (ps.set p b).get q = ps.get q := by
  cases p <;> cases q <;> first | rfl | exact absurd rfl h

/-- Ports are equal when each port's blocks are. -/
theorem Ports.ext_get {x y : Ports} (h : ∀ p, x.get p = y.get p) : x = y := by
  cases x; cases y
  have ha := h .a; have hb := h .b; have hc := h .c; have hd := h .d
  simp only [Ports.get] at ha hb hc hd
  simp [ha, hb, hc, hd]

@[simp] theorem setPort_port_same (b : PortBlocks) : (s.setPort p b).port p = b := Ports.get_set_same ..

theorem setPort_port_ne (b : PortBlocks) (h : q ≠ p) : (s.setPort p b).port q = s.port q := Ports.get_set_ne _ _ h

@[simp] theorem onPort_port_same (f : PortBlocks → PortBlocks) : (onPort p f s).port p = f (s.port p) := setPort_port_same _

@[simp] theorem onPort_port_ne (f : PortBlocks → PortBlocks) (h : q ≠ p) : (onPort p f s).port q = s.port q :=
  setPort_port_ne _ h

@[simp] theorem onPort_store (f : PortBlocks → PortBlocks) : (onPort p f s).store = s.store := rfl
@[simp] theorem onPort_link (f : PortBlocks → PortBlocks) : (onPort p f s).link = s.link := rfl
@[simp] theorem onPort_now (f : PortBlocks → PortBlocks) : (onPort p f s).now = s.now := rfl
@[simp] theorem onPort_pending (f : PortBlocks → PortBlocks) : (onPort p f s).pending = s.pending := rfl

@[simp] theorem onCtl_port_same (f : PortController → PortController) :
    (onCtl p f s).port p = { s.port p with ctl := f (s.port p).ctl } := onPort_port_same _
@[simp] theorem onCtl_port_ne (f : PortController → PortController) (h : q ≠ p) : (onCtl p f s).port q = s.port q := onPort_port_ne _ h
@[simp] theorem onCtl_store (f : PortController → PortController) : (onCtl p f s).store = s.store := rfl
@[simp] theorem onCtl_link (f : PortController → PortController) : (onCtl p f s).link = s.link := rfl
@[simp] theorem onCtl_now (f : PortController → PortController) : (onCtl p f s).now = s.now := rfl
@[simp] theorem onCtl_pending (f : PortController → PortController) : (onCtl p f s).pending = s.pending := rfl

@[simp] theorem onPlan_port_same (f : PlanStore → PlanStore) :
    (onPlan p f s).port p = { s.port p with plan := f (s.port p).plan } := onPort_port_same _
@[simp] theorem onPlan_port_ne (f : PlanStore → PlanStore) (h : q ≠ p) : (onPlan p f s).port q = s.port q := onPort_port_ne _ h
@[simp] theorem onPlan_store (f : PlanStore → PlanStore) : (onPlan p f s).store = s.store := rfl
@[simp] theorem onPlan_link (f : PlanStore → PlanStore) : (onPlan p f s).link = s.link := rfl
@[simp] theorem onPlan_now (f : PlanStore → PlanStore) : (onPlan p f s).now = s.now := rfl
@[simp] theorem onPlan_pending (f : PlanStore → PlanStore) : (onPlan p f s).pending = s.pending := rfl

@[simp] theorem onSeq_port_same (f : Sequencer → Sequencer) :
    (onSeq p f s).port p = { s.port p with seq := f (s.port p).seq } := onPort_port_same _
@[simp] theorem onSeq_port_ne (f : Sequencer → Sequencer) (h : q ≠ p) : (onSeq p f s).port q = s.port q := onPort_port_ne _ h
@[simp] theorem onSeq_store (f : Sequencer → Sequencer) : (onSeq p f s).store = s.store := rfl
@[simp] theorem onSeq_link (f : Sequencer → Sequencer) : (onSeq p f s).link = s.link := rfl
@[simp] theorem onSeq_now (f : Sequencer → Sequencer) : (onSeq p f s).now = s.now := rfl
@[simp] theorem onSeq_pending (f : Sequencer → Sequencer) : (onSeq p f s).pending = s.pending := rfl

@[simp] theorem onTravel_port_same (f : TravelUnit → TravelUnit) :
    (onTravel p f s).port p = { s.port p with travel := f (s.port p).travel } := onPort_port_same _
@[simp] theorem onTravel_port_ne (f : TravelUnit → TravelUnit) (h : q ≠ p) : (onTravel p f s).port q = s.port q := onPort_port_ne _ h
@[simp] theorem onTravel_store (f : TravelUnit → TravelUnit) : (onTravel p f s).store = s.store := rfl
@[simp] theorem onTravel_link (f : TravelUnit → TravelUnit) : (onTravel p f s).link = s.link := rfl
@[simp] theorem onTravel_now (f : TravelUnit → TravelUnit) : (onTravel p f s).now = s.now := rfl
@[simp] theorem onTravel_pending (f : TravelUnit → TravelUnit) : (onTravel p f s).pending = s.pending := rfl

@[simp] theorem onChan_port_same (f : ChannelProcessor → ChannelProcessor) :
    (onChan p f s).port p = { s.port p with chan := f (s.port p).chan } := onPort_port_same _
@[simp] theorem onChan_port_ne (f : ChannelProcessor → ChannelProcessor) (h : q ≠ p) : (onChan p f s).port q = s.port q := onPort_port_ne _ h
@[simp] theorem onChan_store (f : ChannelProcessor → ChannelProcessor) : (onChan p f s).store = s.store := rfl
@[simp] theorem onChan_link (f : ChannelProcessor → ChannelProcessor) : (onChan p f s).link = s.link := rfl
@[simp] theorem onChan_now (f : ChannelProcessor → ChannelProcessor) : (onChan p f s).now = s.now := rfl
@[simp] theorem onChan_pending (f : ChannelProcessor → ChannelProcessor) : (onChan p f s).pending = s.pending := rfl

@[simp] theorem onDet_port_same (f : Detector → Detector) :
    (onDet p f s).port p = { s.port p with det := f (s.port p).det } := onPort_port_same _
@[simp] theorem onDet_port_ne (f : Detector → Detector) (h : q ≠ p) : (onDet p f s).port q = s.port q := onPort_port_ne _ h
@[simp] theorem onDet_store (f : Detector → Detector) : (onDet p f s).store = s.store := rfl
@[simp] theorem onDet_link (f : Detector → Detector) : (onDet p f s).link = s.link := rfl
@[simp] theorem onDet_now (f : Detector → Detector) : (onDet p f s).now = s.now := rfl
@[simp] theorem onDet_pending (f : Detector → Detector) : (onDet p f s).pending = s.pending := rfl

@[simp] theorem onLand_port_same (f : LandmarkUnit → LandmarkUnit) :
    (onLand p f s).port p = { s.port p with land := f (s.port p).land } := onPort_port_same _
@[simp] theorem onLand_port_ne (f : LandmarkUnit → LandmarkUnit) (h : q ≠ p) : (onLand p f s).port q = s.port q := onPort_port_ne _ h
@[simp] theorem onLand_store (f : LandmarkUnit → LandmarkUnit) : (onLand p f s).store = s.store := rfl
@[simp] theorem onLand_link (f : LandmarkUnit → LandmarkUnit) : (onLand p f s).link = s.link := rfl
@[simp] theorem onLand_now (f : LandmarkUnit → LandmarkUnit) : (onLand p f s).now = s.now := rfl
@[simp] theorem onLand_pending (f : LandmarkUnit → LandmarkUnit) : (onLand p f s).pending = s.pending := rfl

@[simp] theorem onDrive_port_same (f : DriveChannel → DriveChannel) :
    (onDrive p f s).port p = { s.port p with drive := f (s.port p).drive } := onPort_port_same _
@[simp] theorem onDrive_port_ne (f : DriveChannel → DriveChannel) (h : q ≠ p) : (onDrive p f s).port q = s.port q := onPort_port_ne _ h
@[simp] theorem onDrive_store (f : DriveChannel → DriveChannel) : (onDrive p f s).store = s.store := rfl
@[simp] theorem onDrive_link (f : DriveChannel → DriveChannel) : (onDrive p f s).link = s.link := rfl
@[simp] theorem onDrive_now (f : DriveChannel → DriveChannel) : (onDrive p f s).now = s.now := rfl
@[simp] theorem onDrive_pending (f : DriveChannel → DriveChannel) : (onDrive p f s).pending = s.pending := rfl

@[simp] theorem onStream_port_same (f : StreamUnit → StreamUnit) :
    (onStream p f s).port p = { s.port p with stream := f (s.port p).stream } := onPort_port_same _
@[simp] theorem onStream_port_ne (f : StreamUnit → StreamUnit) (h : q ≠ p) : (onStream p f s).port q = s.port q := onPort_port_ne _ h
@[simp] theorem onStream_store (f : StreamUnit → StreamUnit) : (onStream p f s).store = s.store := rfl
@[simp] theorem onStream_link (f : StreamUnit → StreamUnit) : (onStream p f s).link = s.link := rfl
@[simp] theorem onStream_now (f : StreamUnit → StreamUnit) : (onStream p f s).now = s.now := rfl
@[simp] theorem onStream_pending (f : StreamUnit → StreamUnit) : (onStream p f s).pending = s.pending := rfl

@[simp] theorem onStore_port (f : RecordStore → RecordStore) : (onStore f s).port q = s.port q := rfl
@[simp] theorem onStore_store (f : RecordStore → RecordStore) : (onStore f s).store = f s.store := rfl
@[simp] theorem onStore_link (f : RecordStore → RecordStore) : (onStore f s).link = s.link := rfl
@[simp] theorem onStore_now (f : RecordStore → RecordStore) : (onStore f s).now = s.now := rfl
@[simp] theorem onStore_pending (f : RecordStore → RecordStore) : (onStore f s).pending = s.pending := rfl

@[simp] theorem onLink_port (f : LinkController → LinkController) : (onLink f s).port q = s.port q := rfl
@[simp] theorem onLink_link (f : LinkController → LinkController) : (onLink f s).link = f s.link := rfl
@[simp] theorem onLink_store (f : LinkController → LinkController) : (onLink f s).store = s.store := rfl
@[simp] theorem onLink_now (f : LinkController → LinkController) : (onLink f s).now = s.now := rfl
@[simp] theorem onLink_pending (f : LinkController → LinkController) : (onLink f s).pending = s.pending := rfl

@[simp] theorem advance_port (time : Nat) : (advance time s).port q = s.port q := rfl
@[simp] theorem advance_store (time : Nat) : (advance time s).store = s.store := rfl
@[simp] theorem advance_link (time : Nat) : (advance time s).link = s.link := rfl
@[simp] theorem advance_now (time : Nat) : (advance time s).now = max s.now time := rfl
@[simp] theorem advance_pending (time : Nat) : (advance time s).pending = s.pending := rfl

/-- The state of a port stands under an update of another block. -/
theorem mode_eq (s : State) (p : PortId) : s.mode p = (s.port p).ctl.mode := rfl

end Sys2Proof.Machine
end

