-- ==== Sys2Proof/Laws/Link.lean ====
section
/-! SUPPORT. What the operations of the link controller do: reports, replies, the taking of a request, the arbiter. -/

namespace Sys2Proof.Machine

variable {p q : PortId} {s : State}

/-! ### Reports -/

/-- All a report does: it joins the queue, or it is counted as lost. -/
theorem report_eq (r : Report) : report r s =
    if s.link.reports.length < Config.reportPlaces then onLink (fun l => { l with reports := l.reports ++ [r] }) s
    else onCounters LinkCounters.countReportLost s := rfl

@[simp] theorem report_port (r : Report) : (report r s).port q = s.port q := by rw [report_eq]; split <;> rfl
@[simp] theorem report_ports (r : Report) : (report r s).ports = s.ports := by rw [report_eq]; split <;> rfl
@[simp] theorem report_store (r : Report) : (report r s).store = s.store := by rw [report_eq]; split <;> rfl
@[simp] theorem report_now (r : Report) : (report r s).now = s.now := by rw [report_eq]; split <;> rfl
@[simp] theorem report_pending (r : Report) : (report r s).pending = s.pending := by rw [report_eq]; split <;> rfl
@[simp] theorem report_replies (r : Report) : (report r s).link.replies = s.link.replies := by rw [report_eq]; split <;> rfl
@[simp] theorem report_buffer (r : Report) : (report r s).link.buffer = s.link.buffer := by rw [report_eq]; split <;> rfl
@[simp] theorem report_sending (r : Report) : (report r s).link.sending = s.link.sending := by rw [report_eq]; split <;> rfl
@[simp] theorem report_deframer (r : Report) : (report r s).link.deframer = s.link.deframer := by rw [report_eq]; split <;> rfl

theorem report_reports (r : Report) (h : s.link.reports.length < Config.reportPlaces) :
    (report r s).link.reports = s.link.reports ++ [r] := by rw [report_eq, if_pos h]; rfl

theorem report_reports_full (r : Report) (h : ¬ s.link.reports.length < Config.reportPlaces) :
    (report r s).link.reports = s.link.reports := by rw [report_eq, if_neg h]; rfl

/-- A report changes the link controller alone. -/
theorem report_link_only (r : Report) : ∃ l, report r s = { s with link := l } := by
  rw [report_eq]; split <;> exact ⟨_, rfl⟩

/-! ### Replies -/

/-- All a reply does, where the request at the place has not been answered. -/
theorem reply_eq {place : Nat} {h : HeldRequest} (body : ReplyBody)
    (hf : s.link.buffer.find? (fun h => h.place = place) = some h) (ha : h.answered = false) :
    reply place body s = onLink (fun l =>
      { l with
        replies := l.replies ++ [{ place := some place, kind := h.kind.code, tag := h.tag, port := h.port, body := body }]
        buffer := l.buffer.map (HeldRequest.markAnswered place) }) s := by
  simp [reply, hf, ha]

/-- A reply changes the replies and the buffer alone. -/
theorem reply_link (place : Nat) (body : ReplyBody) :
    ∃ rs b, reply place body s = { s with link := { s.link with replies := rs, buffer := b } } := by
  unfold reply
  repeat' split
  all_goals exact ⟨_, _, rfl⟩

@[simp] theorem reply_port (place : Nat) (body : ReplyBody) : (reply place body s).port q = s.port q := by
  obtain ⟨_, _, h⟩ := reply_link (s := s) place body; rw [h]; rfl
@[simp] theorem reply_ports (place : Nat) (body : ReplyBody) : (reply place body s).ports = s.ports := by
  obtain ⟨_, _, h⟩ := reply_link (s := s) place body; rw [h]
@[simp] theorem reply_store (place : Nat) (body : ReplyBody) : (reply place body s).store = s.store := by
  obtain ⟨_, _, h⟩ := reply_link (s := s) place body; rw [h]
@[simp] theorem reply_now (place : Nat) (body : ReplyBody) : (reply place body s).now = s.now := by
  obtain ⟨_, _, h⟩ := reply_link (s := s) place body; rw [h]
@[simp] theorem reply_pending (place : Nat) (body : ReplyBody) : (reply place body s).pending = s.pending := by
  obtain ⟨_, _, h⟩ := reply_link (s := s) place body; rw [h]
@[simp] theorem reply_reports (place : Nat) (body : ReplyBody) : (reply place body s).link.reports = s.link.reports := by
  obtain ⟨_, _, h⟩ := reply_link (s := s) place body; rw [h]
@[simp] theorem reply_sending (place : Nat) (body : ReplyBody) : (reply place body s).link.sending = s.link.sending := by
  obtain ⟨_, _, h⟩ := reply_link (s := s) place body; rw [h]
@[simp] theorem reply_counters (place : Nat) (body : ReplyBody) : (reply place body s).link.counters = s.link.counters := by
  obtain ⟨_, _, h⟩ := reply_link (s := s) place body; rw [h]
@[simp] theorem reply_deframer (place : Nat) (body : ReplyBody) : (reply place body s).link.deframer = s.link.deframer := by
  obtain ⟨_, _, h⟩ := reply_link (s := s) place body; rw [h]

/-- An answer to a held request changes the replies and the buffer alone. -/
theorem answerHeld_link (k : RequestKind) (body : ReplyBody) :
    ∃ rs b, answerHeld k p body s = { s with link := { s.link with replies := rs, buffer := b } } := by
  unfold answerHeld
  split
  · exact reply_link ..
  · exact ⟨_, _, rfl⟩

/-! ### Places -/

/-- A buffer with a place free leaves a place that no held request has. -/
theorem freePlace_fresh {buffer : List HeldRequest} (h : buffer.length < Config.requestPlaces) :
    ∀ x ∈ buffer, x.place ≠ freePlace buffer := by
  unfold freePlace
  cases hf : (List.range Config.requestPlaces).find? (fun n => buffer.all fun h => h.place != n) with
  | some n =>
    have := List.find?_some hf
    simp only [Option.getD_some]
    intro x hx he
    have := List.all_eq_true.mp this x hx
    simp [he] at this
  | none =>
    exfalso
    rw [List.find?_eq_none] at hf
    have sub : List.range Config.requestPlaces ⊆ buffer.map HeldRequest.place := by
      intro n hn
      have := hf n hn
      simp only [List.all_eq_true, bne_iff_ne, ne_eq, not_forall] at this
      obtain ⟨x, hx, he⟩ := this
      exact List.mem_map.mpr ⟨x, hx, not_not.mp he⟩
    have := (List.nodup_range (n := Config.requestPlaces)).subperm sub |>.length_le
    simp at this
    omega

/-! ### Taking a request -/

/-- What a request that is taken finds: one held request at its place, taken and not answered, with everything but the
buffer as it was. -/
def Readied (s s' : State) (k : RequestKind) (tag port : Byte) (place : Nat) : Prop :=
  ∃ b, s' = { s with link := { s.link with buffer := b } } ∧
    b.find? (fun h => h.place = place) =
      some { place := place, kind := k, tag := tag, port := port, answered := false }

/-- A request held at a place finds itself there. -/
theorem hold_readied {k : RequestKind} {tag port : Byte} (hlen : s.link.buffer.length < Config.requestPlaces) :
    Readied s (hold k tag port s) k tag port (freePlace s.link.buffer) := by
  refine ⟨_, rfl, ?_⟩
  rw [List.find?_append, List.find?_eq_none.mpr (by
    intro x hx; simpa using freePlace_fresh hlen x hx)]
  simp

/-- A request that passes the tests finds a place free. -/
theorem testRequest_room {k : RequestKind} {port : Byte} {ok : Bool} (h : testRequest k port ok s = none) :
    s.link.buffer.length < Config.requestPlaces := by
  unfold testRequest at h
  split at h
  · cases h
  · split at h
    · cases h
    · split at h
      · cases h
      · omega

/-- A request the link accepts is taken. -/
theorem claim_spec {c : Instr} {k : RequestKind} {tag port : Byte} (ha : Accepts s c k port) :
    ∃ place s', claim c k tag port s = .taken place s' ∧ Readied s s' k tag port place :=
  ⟨_, _, by simp only [claim, show testRequest k port (Instr.lengthAllowed c) s = none from ha],
    hold_readied (testRequest_room ha)⟩

/-- The outcome of a request that acts on no port, once it is taken. -/
theorem serve_spec {c : Instr} {k : RequestKind} {tag port : Byte} (body : Nat → State → State) (ha : Accepts s c k port) :
    ∃ place s', Readied s s' k tag port place ∧ serve c k tag port body s = .next (arbitrate (body place s')) := by
  obtain ⟨place, s', h1, h2⟩ := claim_spec (tag := tag) ha
  exact ⟨place, s', h2, by simp only [serve, h1]⟩

/-- The outcome of a request that acts on the port it names, once it is taken. -/
theorem serveOnPort_spec {c : Instr} {k : RequestKind} {tag port : Byte} (body : PortId → Nat → State → State)
    (ha : Accepts s c k port) (hp : PortId.ofByte? port = some p) :
    ∃ place s', Readied s s' k tag port place ∧ serveOnPort c k tag port body s = .next (arbitrate (body p place s')) := by
  unfold serveOnPort
  obtain ⟨place, s', h1, h2⟩ := serve_spec (c := c) (tag := tag) _ ha
  refine ⟨place, s', h1, h2.trans ?_⟩
  simp only [hp]

/-! ### The end of a frame -/

/-- A request read from a frame is carried out as its command is. -/
theorem runRequest_eq_exec {c : Instr} (h : c.request?.isSome = true) : runRequest c s = exec c s := by
  cases c <;> first | rfl | simp [Instr.request?] at h

/-- All that comes of an intact frame whose kind and payload spell a request. -/
theorem takeFrame_eq_exec {c : Instr} {k : RequestKind} {kind tag port : Byte} {payload : List Byte}
    (hk : RequestKind.ofCode kind = some k) (hp : parsePayload k tag port payload = some c) (hr : c.request?.isSome = true) :
    takeFrame kind tag port payload s = exec c s := by
  simp only [takeFrame, hk, hp, runRequest_eq_exec hr]

/-! ### The arbiter -/

/-- All the arbiter does with a reply waiting: no block but the link controller's is touched. -/
theorem arbitrate_link_only (h : s.link.sending ≠ none ∨ s.link.replies ≠ [] ∨ s.link.reports ≠ []) :
    ∃ l, arbitrate s = { s with link := l } ∧ l.deframer = s.link.deframer ∧ l.counters = s.link.counters := by
  unfold arbitrate
  repeat' split
  all_goals first
    | exact ⟨_, rfl, rfl, rfl⟩
    | rcases h with h | h | h <;> contradiction

/-- The arbiter keeps every reply that has not been sent whole. -/
@[simp] theorem arbitrate_unsentReplies : (arbitrate s).unsentReplies = s.unsentReplies := by
  unfold arbitrate State.unsentReplies
  split
  · rfl
  · next h1 =>
    split
    · next h2 => simp [onLink, sendingReply, h1, h2]
    · next h2 =>
      split
      · simp [onLink, sendingReply, h1, h2]
      · split
        · simp [onLink, sendingReply, h1, h2]
        · rfl

/-- The arbiter keeps every report that has not been sent whole. -/
@[simp] theorem arbitrate_unsentReports : (arbitrate s).unsentReports = s.unsentReports := by
  unfold arbitrate State.unsentReports
  split
  · rfl
  · next h1 =>
    split
    · next h2 => simp [onLink, sendingReport, h1]
    · next h2 =>
      split
      · next h3 => simp [onLink, sendingReport, h1, h3]
      · next h3 =>
        split
        · simp [onLink, sendingReport, h1, h3]
        · rfl

theorem arbitrate_sansRing : ((arbitrate s).port q).sansRing = (s.port q).sansRing := by
  unfold arbitrate
  split
  · rfl
  · split
    · rfl
    · split
      · rfl
      · split
        · next p f rest _ =>
          by_cases hq : q = p
          · subst hq; simp [PortBlocks.sansRing]
          · simp [hq]
        · rfl

@[simp] theorem arbitrate_store : (arbitrate s).store = s.store := by
  unfold arbitrate; (repeat' split) <;> rfl
@[simp] theorem arbitrate_now : (arbitrate s).now = s.now := by
  unfold arbitrate; (repeat' split) <;> rfl
@[simp] theorem arbitrate_pending : (arbitrate s).pending = s.pending := by
  unfold arbitrate; (repeat' split) <;> rfl
@[simp] theorem arbitrate_deframer : (arbitrate s).link.deframer = s.link.deframer := by
  unfold arbitrate; (repeat' split) <;> rfl
@[simp] theorem arbitrate_counters : (arbitrate s).link.counters = s.link.counters := by
  unfold arbitrate; (repeat' split) <;> rfl

end Sys2Proof.Machine
end

