-- ==== Sys2Proof/Laws/PerInstr.lean ====
section
/-! SUPPORT. What holds of every command, one lemma for each constructor of Instr. -/

namespace Sys2Proof.Laws.Codes

open Sys2Proof.Machine

/-- The kind of a command that is a request is read back from its code, a well-formed request carries counts that R179
allows, and a command that is no request has no content on the host link (R176, R179, R188). -/
def Statement (i : Instr) : Prop :=
  (∀ k tag port, i.request? = some (k, tag, port) →
    RequestKind.ofCode k.code = some k ∧ (i.wellFormed = true → Instr.lengthAllowed i = true)) ∧
  (i.request? = none → encodeRequest i = none)

/-- The code of every request kind is read back. -/
theorem ofCode_code (k : RequestKind) : RequestKind.ofCode k.code = some k := by cases k <;> decide

/-- A request whose well-formedness gives its length. -/
theorem of_request {i : Instr} {k : RequestKind} {tag port : Byte} (h : i.request? = some (k, tag, port))
    (hw : i.wellFormed = true → Instr.lengthAllowed i = true) : Statement i :=
  ⟨fun k' _ _ _ => ⟨ofCode_code k', hw⟩, fun hn => by rw [h] at hn; cases hn⟩

/-- An event. -/
theorem of_event {i : Instr} (h : i.request? = none) : Statement i :=
  ⟨fun _ _ _ hs => absurd (h.symm.trans hs) (by simp), fun _ => by simp [encodeRequest, h]⟩

theorem powerOn : Statement .powerOn := of_event rfl
theorem hostFrameReceived (time : Nat) : Statement (.hostFrameReceived time) := of_event rfl
theorem portEnable (tag port : Byte) : Statement (.portEnable tag port) := of_request rfl fun _ => rfl
theorem portDisable (tag port : Byte) : Statement (.portDisable tag port) := of_request rfl fun _ => rfl
theorem clearFault (tag port : Byte) : Statement (.clearFault tag port) := of_request rfl fun _ => rfl
theorem portStatus (tag port : Byte) : Statement (.portStatus tag port) := of_request rfl fun _ => rfl
theorem planFreq (tag port : Byte) (entries : List (Option Nat)) : Statement (.planFreq tag port entries) :=
  of_request rfl fun h => by
    simp only [Instr.wellFormed, Bool.and_eq_true, decide_eq_true_eq] at h
    simp [Instr.lengthAllowed, h]
theorem planSlots (tag port : Byte) (entries : List SlotFields) : Statement (.planSlots tag port entries) :=
  of_request rfl fun h => by
    simp only [Instr.wellFormed, Bool.and_eq_true, decide_eq_true_eq] at h
    simp [Instr.lengthAllowed, h]
theorem planCal (tag port : Byte) (entries : List CalFields) : Statement (.planCal tag port entries) :=
  of_request rfl fun h => by
    simp only [Instr.wellFormed, Bool.and_eq_true, decide_eq_true_eq] at h
    simp [Instr.lengthAllowed, h]
theorem planMix (tag port : Byte) (entries : List (Option MixFields)) : Statement (.planMix tag port entries) :=
  of_request rfl fun h => by
    simp only [Instr.wellFormed, Bool.and_eq_true, decide_eq_true_eq] at h
    simp [Instr.lengthAllowed, h]
theorem planDetect (tag port : Byte) (fields : DetectFields) : Statement (.planDetect tag port fields) :=
  of_request rfl fun _ => rfl
theorem planLandmark (tag port : Byte) (fields : LandmarkFields) : Statement (.planLandmark tag port fields) :=
  of_request rfl fun _ => rfl
theorem planSupports (tag port : Byte) (positions : List Nat) : Statement (.planSupports tag port positions) :=
  of_request rfl fun h => by
    simp only [Instr.wellFormed, Bool.and_eq_true, decide_eq_true_eq] at h
    simp [Instr.lengthAllowed, h]
theorem planCurve (tag port : Byte) (points : List CurvePoint) : Statement (.planCurve tag port points) :=
  of_request rfl fun h => by
    simp only [Instr.wellFormed, Bool.and_eq_true, decide_eq_true_eq] at h
    simp [Instr.lengthAllowed, h]
theorem planTravel (tag port : Byte) (fields : TravelFields) : Statement (.planTravel tag port fields) :=
  of_request rfl fun _ => rfl
theorem planStream (tag port : Byte) (fields : StreamFields) : Statement (.planStream tag port fields) :=
  of_request rfl fun h => by
    simp only [Instr.wellFormed, StreamFields.wellFormed, Bool.and_eq_true, decide_eq_true_eq] at h
    simp [Instr.lengthAllowed, h]
theorem planCommit (tag port : Byte) : Statement (.planCommit tag port) := of_request rfl fun _ => rfl
theorem planDiscard (tag port : Byte) : Statement (.planDiscard tag port) := of_request rfl fun _ => rfl
theorem planRead (tag port : Byte) (sec copy : Nat) : Statement (.planRead tag port sec copy) :=
  of_request rfl fun _ => rfl
theorem nullChannels (tag port : Byte) : Statement (.nullChannels tag port) := of_request rfl fun _ => rfl
theorem openTube (tag port : Byte) (row column sec p0 : Nat) : Statement (.openTube tag port row column sec p0) :=
  of_request rfl fun _ => rfl
theorem closeTube (tag port : Byte) : Statement (.closeTube tag port) := of_request rfl fun _ => rfl
theorem mark (tag port : Byte) : Statement (.mark tag port) := of_request rfl fun _ => rfl
theorem recordList (tag port : Byte) : Statement (.recordList tag port) := of_request rfl fun _ => rfl
theorem recordFetch (tag port : Byte) (number sec first : Nat) : Statement (.recordFetch tag port number sec first) :=
  of_request rfl fun _ => rfl
theorem recordRelease (tag port : Byte) (number : Nat) : Statement (.recordRelease tag port number) :=
  of_request rfl fun _ => rfl
theorem driveQueue (tag port : Byte) (entries : List MoveFields) : Statement (.driveQueue tag port entries) :=
  of_request rfl fun h => by
    simp only [Instr.wellFormed, Bool.and_eq_true, decide_eq_true_eq] at h
    simp [Instr.lengthAllowed, h]
theorem driveAbort (tag port : Byte) : Statement (.driveAbort tag port) := of_request rfl fun _ => rfl
theorem driveStatus (tag port : Byte) : Statement (.driveStatus tag port) := of_request rfl fun _ => rfl
theorem linkStatus (tag port : Byte) : Statement (.linkStatus tag port) := of_request rfl fun _ => rfl
theorem reset (tag port : Byte) : Statement (.reset tag port) := of_request rfl fun _ => rfl
theorem transmitFrameDone (time : Nat) : Statement (.transmitFrameDone time) := of_event rfl
theorem trackInputChange (time : Nat) (p : PortId) (level1 level2 : Bool) :
    Statement (.trackInputChange time p level1 level2) :=
  of_event rfl
theorem trackFilterExpiry (p : PortId) : Statement (.trackFilterExpiry p) := of_event rfl
theorem timeModeExpiry (p : PortId) : Statement (.timeModeExpiry p) := of_event rfl
theorem switchEnd (p : PortId) : Statement (.switchEnd p) := of_event rfl
theorem settleEnd (p : PortId) : Statement (.settleEnd p) := of_event rfl
theorem integrateEnd (p : PortId) (x y : Int) (clipped : Bool) (found : List DriveFault) :
    Statement (.integrateEnd p x y clipped found) :=
  of_event rfl
theorem driveMessageSent (time : Nat) (p : PortId) : Statement (.driveMessageSent time p) := of_event rfl
theorem accept (time : Nat) (p : PortId) (number : Byte) : Statement (.accept time p number) := of_event rfl
theorem refuse (time : Nat) (p : PortId) (number reason : Byte) : Statement (.refuse time p number reason) :=
  of_event rfl
theorem done (time : Nat) (p : PortId) (number : Byte) : Statement (.done time p number) := of_event rfl
theorem driveMessageDamaged (time : Nat) (p : PortId) (raw : List LineByte) :
    Statement (.driveMessageDamaged time p raw) :=
  of_event rfl
theorem acceptDeadline (p : PortId) : Statement (.acceptDeadline p) := of_event rfl
theorem limitAcceptDeadline (p : PortId) : Statement (.limitAcceptDeadline p) := of_event rfl
theorem doneDeadline (p : PortId) : Statement (.doneDeadline p) := of_event rfl
theorem hostLinkByteReceived (time : Nat) (b : LineByte) : Statement (.hostLinkByteReceived time b) := of_event rfl

end Sys2Proof.Laws.Codes
end

