-- ==== Sys2Proof/Laws/Store.lean ====
section
/-! SUPPORT. What the operations of the record store do: writes to an open record, the step to READY, the release, and
the placing of indications. -/

namespace Sys2Proof.Machine

variable {p q : PortId} {s : State} {f : Record → Record}

/-! ### The open record -/

/-- The open record of a port is the first of its open records. -/
theorem openRecord_eq (s : State) (p : PortId) : s.openRecord p = (s.openRecords p).head? := by
  rw [State.openRecords, List.head?_filterMap]; rfl

/-- The number of the open record of a port. -/
theorem openNumber_eq (s : State) (p : PortId) : s.openNumber p = (s.openRecords p).head?.map Record.number := by
  rw [State.openNumber, openRecord_eq]

/-- An open record of a port names the port. -/
theorem openRecords_port {r : Record} (h : r ∈ s.openRecords p) : r.port = p := by
  obtain ⟨x, -, hx⟩ := List.mem_filterMap.mp h
  cases x with
  | free => cases hx
  | ready _ => cases hx
  | opened r' =>
    simp only [RecordSlot.openFor] at hx
    split at hx
    · cases hx; assumption
    · cases hx

/-! ### What a fetch shows of a record (R136, R147) -/

@[simp] theorem fetched_free : RecordSlot.free.fetched = none := rfl
@[simp] theorem fetched_opened (r : Record) : (RecordSlot.opened r).fetched = some r.whileOpen := rfl
@[simp] theorem fetched_ready (r : Record) : (RecordSlot.ready r).fetched = some r := rfl
@[simp] theorem whileOpen_number (r : Record) : r.whileOpen.number = r.number := rfl
@[simp] theorem whileOpen_landmarks (r : Record) : r.whileOpen.landmarks = r.landmarks := rfl
@[simp] theorem whileOpen_indications (r : Record) : r.whileOpen.indications = r.indications := rfl
@[simp] theorem whileOpen_gaps (r : Record) : r.whileOpen.gaps = r.gaps := rfl

/-- A fetch finds a record exactly where a slot holds one. -/
theorem fetched_isSome (x : RecordSlot) : x.fetched.isSome = x.record.isSome := by cases x <;> rfl

/-! ### A write to an open record -/

theorem openFor_onOpen_same (hf : ∀ r, (f r).port = r.port) (x : RecordSlot) :
    RecordSlot.openFor p (x.onOpen p f) = (RecordSlot.openFor p x).map f := by
  cases x with
  | free => rfl
  | ready _ => rfl
  | opened r => by_cases h : r.port = p <;> simp [RecordSlot.onOpen, RecordSlot.openFor, h, hf]

theorem openFor_onOpen_ne (hf : ∀ r, (f r).port = r.port) (h : q ≠ p) (x : RecordSlot) :
    RecordSlot.openFor q (x.onOpen p f) = RecordSlot.openFor q x := by
  cases x with
  | free => rfl
  | ready _ => rfl
  | opened r =>
    by_cases hp : r.port = p
    · simp [RecordSlot.onOpen, RecordSlot.openFor, hp, hf, Ne.symm h]
    · simp [RecordSlot.onOpen, hp]

/-- A write to the open record of a port writes every open record of that port. -/
theorem onOpen_openRecords (hf : ∀ r, (f r).port = r.port) : (onOpen p f s).openRecords p = (s.openRecords p).map f := by
  simp [onOpen, State.openRecords, List.filterMap_map, openFor_onOpen_same hf, List.map_filterMap]

/-- It leaves every other port's. -/
theorem onOpen_openRecords_ne (hf : ∀ r, (f r).port = r.port) (h : q ≠ p) :
    (onOpen p f s).openRecords q = s.openRecords q := by
  simp [onOpen, State.openRecords, List.filterMap_map, openFor_onOpen_ne hf h]

theorem readyRecord_onOpen (x : RecordSlot) : (x.onOpen p f).readyRecord = x.readyRecord := by
  cases x with
  | free => rfl
  | ready _ => rfl
  | opened r => by_cases h : r.port = p <;> simp [RecordSlot.onOpen, RecordSlot.readyRecord, h]

/-- It leaves every READY record. -/
@[simp] theorem onOpen_readyRecords : (onOpen p f s).readyRecords = s.readyRecords := by
  simp [onOpen, State.readyRecords, List.filterMap_map, readyRecord_onOpen]

@[simp] theorem onOpen_port : (onOpen p f s).port q = s.port q := rfl
@[simp] theorem onOpen_ports : (onOpen p f s).ports = s.ports := rfl
@[simp] theorem onOpen_link : (onOpen p f s).link = s.link := rfl
@[simp] theorem onOpen_now : (onOpen p f s).now = s.now := rfl
@[simp] theorem onOpen_pending : (onOpen p f s).pending = s.pending := rfl
@[simp] theorem onOpen_ready : (onOpen p f s).store.ready = s.store.ready := rfl
@[simp] theorem onOpen_counter : (onOpen p f s).store.counter = s.store.counter := rfl
@[simp] theorem onOpen_slots_length : (onOpen p f s).store.slots.length = s.store.slots.length := by simp [onOpen]

/-! ### From OPEN to READY, and the release -/

theorem openFor_makeReady (x : RecordSlot) : RecordSlot.openFor p (x.makeReady p) = none := by
  cases x with
  | free => rfl
  | ready _ => rfl
  | opened r => by_cases h : r.port = p <;> simp [RecordSlot.makeReady, RecordSlot.openFor, h]

/-- All a step to READY does to the pool: the port has no open record, and its number joins the ready order's tail. -/
theorem readyRecord_spec {r : Record} (h : s.openRecords p = [r]) :
    (readyRecord p s).openRecords p = [] ∧ (readyRecord p s).store.ready = s.store.ready ++ [r.number] ∧
    (readyRecord p s).store.counter = s.store.counter ∧ (readyRecord p s).ports = s.ports ∧
    (readyRecord p s).link = s.link ∧ (readyRecord p s).now = s.now ∧ (readyRecord p s).pending = s.pending := by
  have hn : s.openNumber p = some r.number := by rw [openNumber_eq, h]; rfl
  simp only [readyRecord, hn]
  refine ⟨?_, rfl, rfl, rfl, rfl, rfl, rfl⟩
  simp [State.openRecords, List.filterMap_map, openFor_makeReady]

/-- A release touches the slots and the ready order alone. -/
theorem releaseRecord_spec (n : Nat) :
    releaseRecord n s = { s with
      store := { s.store with
        slots := s.store.slots.map (RecordSlot.releaseNumber n), ready := s.store.ready.filter fun m => m != n } } := rfl

/-! ### The lists -/

/-- An indication is placed between the entries at or above it and those below it. -/
theorem placeIndication_spec (i : Indication) : ∀ l : List Indication,
    placeIndication i l = (l.takeWhile fun e => decide (i.pos ≤ e.pos)) ++ i :: l.dropWhile fun e => decide (i.pos ≤ e.pos)
  | [] => rfl
  | e :: rest => by
    by_cases h : i.pos ≤ e.pos <;> simp [placeIndication, h, placeIndication_spec i rest]

theorem placeIndication_length (i : Indication) (l : List Indication) : (placeIndication i l).length = l.length + 1 := by
  induction l with
  | nil => rfl
  | cons e rest ih => simp only [placeIndication]; split <;> simp [ih]

theorem mem_placeIndication {i x : Indication} {l : List Indication} : x ∈ placeIndication i l ↔ x = i ∨ x ∈ l := by
  induction l with
  | nil => simp [placeIndication]
  | cons e rest ih =>
    simp only [placeIndication]
    split
    · simp [ih]; tauto
    · simp

/-- A list in order stays in order. -/
theorem placeIndication_pairwise (i : Indication) {l : List Indication} (h : l.Pairwise fun a b => b.pos ≤ a.pos) :
    (placeIndication i l).Pairwise fun a b => b.pos ≤ a.pos := by
  induction l with
  | nil => simp [placeIndication]
  | cons e rest ih =>
    rw [List.pairwise_cons] at h
    simp only [placeIndication]
    split
    · next hp =>
      refine List.pairwise_cons.mpr ⟨fun x hx => ?_, ih h.2⟩
      rcases mem_placeIndication.mp hx with rfl | hx
      · exact hp
      · exact h.1 x hx
    · next hp =>
      refine List.pairwise_cons.mpr ⟨fun x hx => ?_, List.pairwise_cons.mpr h⟩
      rcases List.mem_cons.mp hx with rfl | hx
      · omega
      · have := h.1 x hx; omega

/-- A merge keeps the length of a gap list. -/
@[simp] theorem mergeLast_length (g : Gap) : ∀ l : List Gap, (mergeLast g l).length = l.length
  | [] => rfl
  | [_] => rfl
  | _ :: b :: rest => by simp [mergeLast, mergeLast_length g (b :: rest)]

end Sys2Proof.Machine
end

