-- ==== Sys2Proof/Laws/Ports.lean ====
section
/-! SUPPORT. What the shared operations of a port do: its transitions, its starts of scans, the events of its drive
channel, and an event that acts on the port alone. -/

namespace Sys2Proof.Machine

variable {p q : PortId} {s : State}

/-! ### Events -/

/-- What has changed one port alone, before the arbiter runs, is an event on that port. -/
theorem arbitrate_eventOn {u : State} {time : Nat} {b : PortBlocks} (hp : u.port p = b)
    (ho : ∀ q, q ≠ p → u.port q = s.port q) (hs : u.store = s.store) (hq : u.pending = s.pending)
    (hn : u.now = max s.now time) (hl : u.link = s.link) : EventOn p s (arbitrate u) time b := by
  refine ⟨by rw [arbitrate_sansRing, hp], fun q h => by rw [arbitrate_sansRing, ho q h], by simp [hs], by simp [hq],
    by simp [hn], ⟨?_, by simp [hl], by simp [hl]⟩, ?_⟩
  · rw [arbitrate_unsentReplies]; simp [State.unsentReplies, hl]
  · rw [arbitrate_unsentReports]; simp [State.unsentReports, hl]

/-- Reports of drive events change the link controller alone. -/
theorem reports_link_only (es : List DriveEvent) (u : State) :
    ∃ l, es.foldl (fun s e => report (.driveEvent p e) s) u = { u with link := l } := by
  induction es generalizing u with
  | nil => exact ⟨_, rfl⟩
  | cons e rest ih =>
    obtain ⟨l, hl⟩ := report_link_only (s := u) (.driveEvent p e)
    obtain ⟨l', h'⟩ := ih (report (.driveEvent p e) u)
    exact ⟨l', by rw [List.foldl_cons, h', hl]⟩

/-- Events of a drive channel change the channel and, by their reports, the link controller. -/
theorem onDriveEvents_link_only (f : DriveChannel → DriveChannel × List DriveEvent) :
    ∃ l, onDriveEvents p f s = { onDrive p (fun _ => (f (s.port p).drive).1) s with link := l } :=
  reports_link_only ..

/-- The channel after an operation on it. -/
@[simp] theorem onDriveEvents_port_same (f : DriveChannel → DriveChannel × List DriveEvent) :
    (onDriveEvents p f s).port p = { s.port p with drive := (f (s.port p).drive).1 } := by
  obtain ⟨l, h⟩ := onDriveEvents_link_only (p := p) (s := s) f
  rw [h]; exact onDrive_port_same (s := s) fun _ => (f (s.port p).drive).1

theorem onDriveEvents_port_ne (f : DriveChannel → DriveChannel × List DriveEvent) (hq : q ≠ p) :
    (onDriveEvents p f s).port q = s.port q := by
  obtain ⟨l, h⟩ := onDriveEvents_link_only (p := p) (s := s) f
  rw [h]; exact onDrive_port_ne (s := s) (fun _ => (f (s.port p).drive).1) hq

@[simp] theorem onDriveEvents_store (f : DriveChannel → DriveChannel × List DriveEvent) :
    (onDriveEvents p f s).store = s.store := by
  obtain ⟨l, h⟩ := onDriveEvents_link_only (p := p) (s := s) f
  rw [h]; rfl

/-! ### Transitions -/

/-- All a transition does (R1). -/
@[simp] theorem transition_port_same (new : PortMode) (cause : Cause) :
    (transition p new cause s).port p =
      { s.port p with ctl := { (s.port p).ctl with mode := new, previous := s.mode p, lastCause := cause } } :=
  onCtl_port_same _

theorem transition_port_ne (new : PortMode) (cause : Cause) (hq : q ≠ p) :
    (transition p new cause s).port q = s.port q := onCtl_port_ne _ hq

/-- A STATE event changes the link controller alone. -/
theorem stateEvent_link_only (cause : Cause) (record : Option Nat) :
    ∃ l, stateEvent p cause record s = { s with link := l } := report_link_only _

/-- What a port brought to IDLE or FAULT keeps: everything but its controller, its sequencer's scan and starts, the
group of its stream, and in ARMED and ACQUIRING its travel unit's grid. -/
theorem rest_port_same (new : PortMode) (cause : Cause) :
    ((rest p new cause s).port p).ctl =
      { (s.port p).ctl.rest new with mode := new, previous := s.mode p, lastCause := cause } ∧
    ((rest p new cause s).port p).seq = (s.port p).seq.stop ∧
    ((rest p new cause s).port p).plan = (s.port p).plan ∧ ((rest p new cause s).port p).chan = (s.port p).chan ∧
    ((rest p new cause s).port p).det = (s.port p).det ∧ ((rest p new cause s).port p).land = (s.port p).land ∧
    ((rest p new cause s).port p).drive = (s.port p).drive ∧
    ((rest p new cause s).port p).travel = (if (s.mode p).hasRecord then (s.port p).travel.noGrid else (s.port p).travel) ∧
    ((rest p new cause s).port p).stream = (if (s.mode p).scanning then
      { (s.port p).stream with group := none, miss := false } else (s.port p).stream) := by
  by_cases hs : (s.mode p).scanning = true <;> by_cases hr : (s.mode p).hasRecord = true <;>
    simp_all [rest, leaveTube, leaveScanning, discardGroup, mode_eq, PortController.rest]

/-! ### Scans -/

/-- All the start of a TIME scan does (R41, R48). -/
theorem startTimeScan_port_same : (startTimeScan p s).port p =
    { s.port p with
      seq := { (s.port p).seq with
        scan := some {
          kind := .time, startPos := (s.port p).travel.raw, slot := 0, phase := .switch, phaseEnd := s.now + 80 },
        timer := some (s.now + (s.port p).plan.working.travel.period * 40) } } := onPort_port_same _

/-- All the start of a DISTANCE scan does (R41). -/
theorem startDistanceScan_port_same (pos : Int) : (startDistanceScan p pos s).port p =
    { s.port p with
      seq := { (s.port p).seq with
        scan := some { kind := .distance, startPos := pos, slot := 0, phase := .switch, phaseEnd := s.now + 80 } } } :=
  onSeq_port_same _

/-- A scan ended keeps the sequence number and the tables (R52). -/
theorem endScan_port_same : (endScan p s).port p =
    { s.port p with seq := (s.port p).seq.stop, chan := { (s.port p).chan with held := [] } } := by
  simp [endScan]

end Sys2Proof.Machine
end

