-- ==== Sys2Proof/Tests/Slice0.lean ====
section
/-! SUPPORT. The tests: ill-formed commands refused, the worked examples of the spec, one small step for the families
of commands, and for each statement with hypotheses a state and operands that meet them. Expected values come from the
spec's examples and tables or are computed by hand from its rules. -/

namespace Sys2Proof.Machine.Tests

open Sys2Proof Sys2Proof.Machine

-- One theorem after the other: hundreds of kernel evaluations at once ask for more threads than the memory limit gives.
set_option Elab.async false

/-! ### Well-formed and ill-formed commands -/

def anyDetect : DetectFields :=
  { channel := 255, tOpen := 65535, tClose := 65535, qClose := 255, lMax := 65535, aMin := 65535, gateLow := 4294967295,
    gateHigh := 4294967295 }

def anyLandmark : LandmarkFields :=
  { channel := 255, lOpen := 65535, lClose := 65535, qLand := 255, autoClose := 255, tolerance := 65535,
    exitPos := 4294967295 }

def anyTravel : TravelFields :=
  { step := 65535, scale := 65535, sense := 255, startTravel := 65535, period := 4294967295, deglitch := 255, speedGuard := 255 }

def anySlot : SlotFields := { freq := 255, mode := 255, settle := 255, integrate := 255 }

def anyCal : CalFields := { rotation := 65535, gain := 65535 }

def anyMix : MixFields :=
  { primary := 255, secondary := 255, kxx := -32768, kxy := 32767, kyx := -32768, kyy := 32767, rotation := 65535, gain := 65535 }

def anyPoint : CurvePoint := { phase := 65535, depth := 255 }

def anyStream : StreamFields := { channels := List.replicate 8 255, decimation := 255, width := 255 }

def anyMove : MoveFields := { direction := 255, endByte := 255, speed := 65535, distance := 4294967295 }

/-- Every field at the top of its width and every list at its greatest length is well formed. -/
theorem test_wellFormed_at_the_top :
    ([.planFreq 0 0 [some 65535, none, some 65535, none], .planSlots 0 0 (List.replicate 12 anySlot),
      .planCal 0 0 (List.replicate 12 anyCal), .planMix 0 0 [some anyMix, none, none, some anyMix], .planDetect 0 0 anyDetect,
      .planLandmark 0 0 anyLandmark, .planSupports 0 0 (List.replicate 24 4294967295),
      .planCurve 0 0 (List.replicate 8 anyPoint), .planTravel 0 0 anyTravel, .planStream 0 0 anyStream,
      .planRead 0 0 255 255, .openTube 0 0 65535 65535 255 4294967295, .recordFetch 0 0 65535 255 255,
      .recordRelease 0 0 65535, .driveQueue 0 0 (List.replicate 4 anyMove), .driveMessageDamaged 0 .a [.error],
      .portEnable 255 255] : List Instr).all Instr.wellFormed = true := by decide +kernel

theorem test_illFormed_counts :
    ([.planFreq 0 0 [none, none, none], .planSlots 0 0 [], .planSlots 0 0 (List.replicate 13 anySlot),
      .planCal 0 0 (List.replicate 11 anyCal), .planMix 0 0 (List.replicate 5 none),
      .planSupports 0 0 (List.replicate 25 0), .planCurve 0 0 (List.replicate 9 anyPoint),
      .planStream 0 0 { anyStream with channels := List.replicate 9 0 }, .driveQueue 0 0 [],
      .driveQueue 0 0 (List.replicate 5 anyMove)] : List Instr).all (fun c => !c.wellFormed) = true := by decide +kernel

theorem test_illFormed_entries :
    ([.planFreq 0 0 [some 65536, none, none, none],
      .planSlots 0 0 [{ anySlot with freq := 256 }], .planSlots 0 0 [{ anySlot with mode := 256 }],
      .planSlots 0 0 [{ anySlot with settle := 256 }], .planSlots 0 0 [{ anySlot with integrate := 256 }],
      .planCal 0 0 ({ anyCal with rotation := 65536 } :: List.replicate 11 anyCal),
      .planCal 0 0 ({ anyCal with gain := 65536 } :: List.replicate 11 anyCal), .planSupports 0 0 [4294967296],
      .planCurve 0 0 [{ anyPoint with phase := 65536 }], .planCurve 0 0 [{ anyPoint with depth := 256 }],
      .planStream 0 0 { anyStream with channels := [256] }, .planStream 0 0 { anyStream with decimation := 256 },
      .planStream 0 0 { anyStream with width := 256 }, .driveQueue 0 0 [{ anyMove with direction := 256 }],
      .driveQueue 0 0 [{ anyMove with endByte := 256 }], .driveQueue 0 0 [{ anyMove with speed := 65536 }],
      .driveQueue 0 0 [{ anyMove with distance := 4294967296 }]] : List Instr).all (fun c => !c.wellFormed) = true := by
  decide +kernel

theorem test_illFormed_mix :
    ([{ anyMix with primary := 256 }, { anyMix with secondary := 256 }, { anyMix with kxx := 32768 },
      { anyMix with kxy := -32769 }, { anyMix with kyx := 32768 }, { anyMix with kyy := -32769 },
      { anyMix with rotation := 65536 }, { anyMix with gain := 65536 }] : List MixFields).all
      (fun m => !(Instr.planMix 0 0 [none, none, none, some m]).wellFormed) = true := by decide +kernel

theorem test_illFormed_detect :
    ([{ anyDetect with channel := 256 }, { anyDetect with tOpen := 65536 }, { anyDetect with tClose := 65536 },
      { anyDetect with qClose := 256 }, { anyDetect with lMax := 65536 }, { anyDetect with aMin := 65536 },
      { anyDetect with gateLow := 4294967296 }, { anyDetect with gateHigh := 4294967296 }] : List DetectFields).all
      (fun f => !(Instr.planDetect 0 0 f).wellFormed) = true := by decide +kernel

theorem test_illFormed_landmark :
    ([{ anyLandmark with channel := 256 }, { anyLandmark with lOpen := 65536 }, { anyLandmark with lClose := 65536 },
      { anyLandmark with qLand := 256 }, { anyLandmark with autoClose := 256 }, { anyLandmark with tolerance := 65536 },
      { anyLandmark with exitPos := 4294967296 }] : List LandmarkFields).all
      (fun f => !(Instr.planLandmark 0 0 f).wellFormed) = true := by decide +kernel

theorem test_illFormed_travel :
    ([{ anyTravel with step := 65536 }, { anyTravel with scale := 65536 }, { anyTravel with sense := 256 },
      { anyTravel with startTravel := 65536 }, { anyTravel with period := 4294967296 }, { anyTravel with deglitch := 256 },
      { anyTravel with speedGuard := 256 }] : List TravelFields).all
      (fun f => !(Instr.planTravel 0 0 f).wellFormed) = true := by decide +kernel

/-- A message given as damaged that reads as an intact ACCEPT of number 7 is ill formed. -/
theorem test_illFormed_operands :
    ([.planRead 0 0 256 0, .planRead 0 0 0 256, .openTube 0 0 65536 0 0 0, .openTube 0 0 0 65536 0 0, .openTube 0 0 0 0 256 0,
      .openTube 0 0 0 0 0 4294967296, .recordFetch 0 0 65536 0 0, .recordFetch 0 0 0 256 0, .recordFetch 0 0 0 0 256,
      .recordRelease 0 0 65536,
      .driveMessageDamaged 0 .a ((Wire.withCrc [0x11, 0x07]).map .byte)] : List Instr).all
      (fun c => !c.wellFormed) = true := by decide +kernel

/-! ### The lines (R176, R188 to R190) -/

/-- No row of the opcode table has bits, so no word spells a command. -/
theorem test_no_word_decodes : decodeTableWord 0 0 = none ∧ decodeTableWord 32 0xFFFFFFFF = none := by decide

/-- R176: the CRC over the nine ASCII bytes "123456789" is 0x29B1. -/
theorem test_crc_check_value :
    Wire.crc16 [0x31, 0x32, 0x33, 0x34, 0x35, 0x36, 0x37, 0x38, 0x39] = 0x29B1#16 := by decide +kernel

/-- R176: 0x7E is sent as 0x7D 0x5E and 0x7D as 0x7D 0x5D. -/
theorem test_escaping : Wire.escaped [0x01, 0x7E, 0x7D, 0x5E] = [0x01, 0x7D, 0x5E, 0x7D, 0x5D, 0x5E] := by decide +kernel

/-- R188: the first and the last code of each row of the table of request codes. -/
theorem test_request_codes :
    [RequestKind.portEnable, .portStatus, .planFreq, .planStream, .planCommit, .planRead, .nullChannels, .mark, .recordList,
      .recordRelease, .driveQueue, .driveStatus, .linkStatus, .reset].map RequestKind.code =
    [0x01, 0x04, 0x05, 0x0E, 0x0F, 0x11, 0x12, 0x15, 0x16, 0x18, 0x19, 0x1B, 0x1C, 0x1D] := by decide +kernel

/-- R189: OPEN_TUBE's payload is row 2, column 2, section 1, P0 4, most significant byte first. -/
theorem test_openTube_payload :
    parsePayload .openTube 9 1 [0x01, 0x02, 0x00, 0x07, 0x05, 0x00, 0x01, 0xD2, 0xCC] =
      some (.openTube 9 1 258 7 5 119500) ∧
    parsePayload .openTube 9 1 [0x01, 0x02, 0x00, 0x07, 0x05, 0x00, 0x01, 0xD2] = none := by decide +kernel

/-- R190: type 0x01, number, direction, speed, distance; then the CRC. -/
theorem test_move_message :
    (DriveMessage.move 3 .withdraw 600 118000).content = [0x01, 0x03, 0x01, 0x02, 0x58, 0x00, 0x01, 0xCC, 0xF0] := by
  decide +kernel

/-! ### Periods, slots and speeds (R38 to R40, R70) -/

theorem test_periods :
    [10000, 6400, 4000, 3000, 1280, 1000, 256, 250, 50].map excitationPeriod =
      [40, 63, 100, 133, 313, 400, 1563, 1600, 8000] := by decide +kernel

theorem test_actual_frequencies : [63, 133, 313, 1563].map actualFrequency = [634920, 300751, 127795, 25591] := by
  decide +kernel

/-- The default slot of 2 settle and 8 integrate periods at 100 kHz lasts 80 + 10 · 400 ticks. -/
theorem test_default_tables : Plan.default.slotTable = Sequencer.powerOn.slots ∧ Plan.default.validate = none := by
  decide +kernel

theorem test_speeds :
    limitSpeedOf 1000 4080 = 9803 ∧ guardLimitOf 9803 = 8822 ∧ limitSpeedOf 1000 46640 = 857 ∧ guardLimitOf 857 = 771 := by
  decide +kernel

/-! ### Nulls, calibration and mixes (the examples of R81, R82 and R90) -/

theorem test_null_offsets :
    nulledTable (List.replicate 5 { x0 := 0, y0 := 0, balanced := false })
      [{ x := -3390, y := 1405, saturated := false }, { x := 22500, y := -1550, saturated := false },
       { x := -555, y := 981, saturated := false }, { x := 35361, y := -21276, saturated := false }] =
      [{ x0 := -212, y0 := 88, balanced := true }, { x0 := 1406, y0 := -97, balanced := true },
       { x0 := -35, y0 := 61, balanced := true }, { x0 := 2210, y0 := -1330, balanced := true },
       { x0 := 0, y0 := 0, balanced := false }] := by decide +kernel

/-- A saturated sum keeps its offset, unbalanced. -/
theorem test_null_saturated :
    nulledEntry { x0 := 2210, y0 := -1330, balanced := true } { x := 35361, y := -21276, saturated := true } =
      { x0 := 2210, y0 := -1330, balanced := false } := by decide +kernel

def calSample : Sample := { slot := 0, x := 1850, y := -640, saturated := false, status := .ok }

theorem test_calibrated_sample :
    rawValue [{ x0 := 1406, y0 := -97, balanced := true }] [{ rotation := 300, gain := 640 }] calSample =
      { x := 1640, y := -620, saturated := false } := by decide +kernel

theorem test_calibrated_sample_clamped :
    (rawValue [{ x0 := 1406, y0 := -97, balanced := true }] [{ rotation := 300, gain := 20000 }] calSample).saturated = true ∧
    (rawValue [{ x0 := 1406, y0 := -97, balanced := true }] [{ rotation := 300, gain := 20000 }] calSample).x = 32767 := by
  decide +kernel

theorem test_mix :
    mixOf { primary := 0, secondary := 1, kxx := 12288, kxy := -1638, kyx := 2048, kyy := 9830, rotation := 0, gain := 512 }
      { x := 1640, y := -620, saturated := false } { x := 2100, y := 900, saturated := false } =
      { x := 310, y := -2844, saturated := false } := by decide +kernel

/-- R78: entries at the quarter turns, at 30 degrees, and at 45 degrees, where 16,384 times the sine is 11,585.2. -/
theorem test_sine_entries :
    [0, 300, 450, 900, 1800, 2700, 3300].map sineEntry = [0, 8192, 11585, 16384, 0, -16384, -8192] := by decide +kernel

/-! ### A window worked through (6.8) -/

theorem test_amplitude_phase_depth :
    amplitudeOf (-500) 5000 = 5024 ∧ phaseOf (-500) 5000 = 957 ∧
    depthOf [{ phase := 400, depth := 100 }, { phase := 900, depth := 60 }, { phase := 1300, depth := 20 },
      { phase := 1700, depth := 0 }] 957 = some 54 := by decide +kernel

/-- R104's fixed cases: the axes, and the zero vector. -/
theorem test_phase_axes :
    [phaseOf 5 0, phaseOf 0 5, phaseOf (-5) 0, phaseOf 0 (-5), phaseOf 0 0, phaseOf 7 7, phaseOf 7 (-7)] =
      [0, 900, 1800, 2700, 0, 450, 3150] := by decide +kernel

def exampleDetect : DetectFields :=
  { channel := 12, tOpen := 2000, tClose := 1000, qClose := 4, lMax := 256, aMin := 500, gateLow := 0, gateHigh := 300000 }

def scan1000 : Point := { x := 120, y := -2400, seqNo := 1000, pos := 84350 }
def scan1006 : Point := { x := -380, y := 2600, seqNo := 1006, pos := 84290 }
def scan1011 : Point := { x := 20, y := -50, seqNo := 1011, pos := 84240 }

/-- Scan 1011 completes a run of four quiet scans: the window closes with length 12 and the position 84,320. -/
theorem test_window_closes :
    let r := Detector.scan exampleDetect scan1011 false
      { state := .opened, high := some scan1006, low := some scan1000, length := 11, closeRun := 3, saturated := false,
        gapped := false, miss := false }
    r.1 = Detector.clear ∧ r.2.map ClosedWindow.length = some 12 ∧ r.2.map ClosedWindow.pos = some 84320 ∧
    r.2.map ClosedWindow.first = some scan1000 := by decide +kernel

/-- Scan 1000 opens the window at |-2,400|; scan 1002, at |-200|, is quiet. -/
theorem test_window_opens :
    ((Detector.scan exampleDetect scan1000 false Detector.clear).1.state = .opened) ∧
    (Detector.scan exampleDetect { x := 40, y := -300, seqNo := 999, pos := 84360 } false Detector.clear).1.state = .idle := by
  decide +kernel

/-! ### A tube's landmarks (7.11) -/

def exampleMap : List Nat := [1500, 30000, 58000, 86000, 114000]

def closedAt (pos : Int) (absX : Nat) (satLongest : Nat := 0) : ClosedLandmark :=
  { peak := { absX := absX, seqNo := 0, pos := pos }, satLongest := satLongest, long := false, truncated := false }

def unitAt (pointer : Option Nat) (correction : Int) (matched : Nat) : LandmarkUnit :=
  { LandmarkUnit.clear with pointer := pointer, correction := correction, matched := matched }

theorem test_pointer_placed : placePointer exampleMap 119500 = some 4 ∧ placePointer exampleMap 1499 = none := by decide +kernel

/-- Events A, D and F: the steps 30, -40 and -30, with the pointer moved down each time. -/
theorem test_supports_matched :
    ((unitAt (some 4) 0 0).judge exampleMap 50 (closedAt 113970 21500)).1 = unitAt (some 3) 30 1 ∧
    ((unitAt (some 2) 30 1).judge exampleMap 50 (closedAt 58040 18900)).1 = unitAt (some 1) (-10) 2 ∧
    ((unitAt (some 1) (-10) 2).judge exampleMap 50 (closedAt 30030 22300)).1 = unitAt (some 0) (-40) 3 := by decide +kernel

/-- Events B and G, the MISSING plates; and C, and the slip of 70 beyond the tolerance, each an EXTRA. -/
theorem test_missing_and_extra :
    (unitAt (some 3) 30 1).passing exampleMap 50 85940 = (unitAt (some 2) 30 1, [missingEntry exampleMap 3]) ∧
    (unitAt (some 0) (-40) 3).passing exampleMap 50 1440 = (unitAt none (-40) 3, [missingEntry exampleMap 0]) ∧
    (unitAt (some 0) (-40) 3).passing exampleMap 50 1450 = (unitAt (some 0) (-40) 3, []) ∧
    (unitAt (some 2) 30 1).judge exampleMap 50 (closedAt 71230 9800) =
      (unitAt (some 2) 30 1, [(closedAt 71230 9800).entry .extra]) ∧
    (unitAt (some 2) 30 1).judge exampleMap 50 (closedAt 58070 18900) =
      (unitAt (some 2) 30 1, [(closedAt 58070 18900).entry .extra]) := by decide +kernel

/-! ### The drive line and the stream -/

/-- R156: ceil(100 · 118,000 / 1,500) = 7,867 ms and 2,000 ms more, in ticks of 25 ns. -/
theorem test_done_deadline : doneDeadlineFrom 0 118000 1500 = (7867 + 2000) * 40000 := by decide +kernel

/-- R168: the means of two scans, and the same at width 8. -/
theorem test_stream_means :
    groupMean 2 (-590) = -295 ∧ groupMean 2 4350 = 2175 ∧ atWidth 8 (-295) = -2 ∧ atWidth 8 2175 = 8 ∧
    groupMean 2 3292 = 1646 ∧ groupMean 2 (-1231) = -615 ∧ atWidth 8 1646 = 6 ∧ atWidth 8 (-615) = -3 := by decide +kernel

/-! ### Small states: port A in each of its states, everything else as after power-on -/

def withA (f : PortBlocks → PortBlocks) : State := State.reset.setPort .a (f .powerOn)

def inMode (mode previous : PortMode) (b : PortBlocks) : PortBlocks :=
  { b with ctl := { b.ctl with mode := mode, previous := previous } }

def scanAt (kind : ScanKind) (slot : Nat) (phase : ScanPhase) : Scan :=
  { kind := kind, startPos := 11950000, slot := slot, phase := phase, phaseEnd := 80 }

def scanning (sc : Option Scan) (b : PortBlocks) : PortBlocks := { b with seq := { b.seq with scan := sc } }

def driven (d : DriveChannel) (b : PortBlocks) : PortBlocks := { b with drive := d }

def idleA : State := withA (inMode .idle .off)

def faultA : State :=
  withA fun b => { b with
    ctl := { b.ctl with
      mode := .fault, previous := .nulling,
      fault := some { slot := 0, status := .short, declaredIn := .nulling, record := none } } }

def nullB (count : Nat) (phase : ScanPhase) : PortBlocks :=
  { inMode .nulling .idle .powerOn with
    seq := { Sequencer.powerOn with scan := some (scanAt .time 0 phase), timer := some 40000 }
    chan := { ChannelProcessor.powerOn with
      accum := some { count := count, sums := [{ x := 160, y := -160, saturated := false }] } } }

def heldRequest (k : RequestKind) : HeldRequest := { place := 0, kind := k, tag := 7, port := 0, answered := false }

def holding (h : HeldRequest) (s : State) : State := { s with link := { s.link with buffer := [h] } }

/-- Port A in NULLING, its request held, at the sixteenth scan's last phase or before. -/
def nullA (count : Nat) (phase : ScanPhase) : State :=
  holding (heldRequest .nullChannels) (State.reset.setPort .a (nullB count phase))

def record1 : Record := Record.new 1 .a 12 7 5 119500 0 false

def storeWith (slot : RecordSlot) (ready : List Nat) : RecordStore :=
  { slots := slot :: List.replicate 11 .free, ready := ready, counter := 2 }

def armedA (sc : Option Scan) : State :=
  { withA (fun b => scanning sc (inMode .armed .idle b)) with store := storeWith (.opened record1) [] }

def gridB (sc : Option Scan) (b : PortBlocks) : PortBlocks :=
  let m := scanning sc (inMode .acquiring .armed b)
  { m with
    travel := { m.travel with
      raw := 11950000, grid := some { origin := 11950000, next := 1 }, low := some 11950000,
      lastStarted := some { index := 0, firedAt := 0 } } }

def acquiringWith (f : PortBlocks → PortBlocks) (sc : Option Scan) : State :=
  { withA (fun b => f (gridB sc b)) with store := storeWith (.opened { record1 with gridOrigin := some 119500 }) [] }

def acquiringA (sc : Option Scan) : State := acquiringWith id sc

def distance (phase : ScanPhase) : Option Scan := some (scanAt .distance 0 phase)

def pendingB (b : PortBlocks) : PortBlocks := { b with plan := { b.plan with pending := true } }

def aMove (stop : Bool) : Move := { direction := .withdraw, speed := 600, distance := 118000, stop := stop }

def awaiting (kind : AwaitedKind) (deadline : Option Nat) : AwaitedAccept := { kind := kind, number := 4, deadline := deadline }

def aLimit (deadline : Option Nat) : AwaitedLimit := { number := 5, speed := 771, deadline := deadline }

def awaitAcceptD (deadline : Option Nat) : DriveChannel :=
  { DriveChannel.powerOn with
    state := .awaitAccept, current := some { move := aMove true, number := 4 }, awaited := some (awaiting .move deadline),
    number := 5 }

def movingD (stop : Bool) (limit : Option AwaitedLimit) : DriveChannel :=
  { DriveChannel.powerOn with
    state := .moving, current := some { move := aMove stop, number := 4 }, limit := limit, doneDeadline := some 500,
    number := 6 }

def deferredD (stop : Bool) : DriveChannel :=
  { movingD stop (some (aLimit none)) with current := none, doneDeadline := none, deferred := some stop }

def releasingD (queue : List Move) : DriveChannel :=
  { DriveChannel.powerOn with state := .holding, queue := queue, awaited := some (awaiting .release none), number := 5 }

def haltD (queue : List Move) (deadline : Option Nat) : DriveChannel :=
  { DriveChannel.powerOn with state := .awaitHalt, queue := queue, awaited := some (awaiting .halt deadline), number := 5 }

def lostD : DriveChannel := { DriveChannel.powerOn with state := .lost }

def driveA (d : DriveChannel) : State := withA fun b => driven d (inMode .idle .off b)

/-- The state a step of these commands answers. -/
def after (c : Instr) (s : State) : State :=
  match exec c s with
  | .next t => t
  | .fault _ => s
  | .refused _ => s

/-! ### Single steps -/

/-- R5, R183: the port enters IDLE, and the transmitter takes the reply at once while the event waits. -/
theorem test_portEnable :
    (after (.portEnable 9 0) State.reset).mode .a = .idle ∧ (after (.portEnable 9 0) State.reset).link.reports.length = 1 ∧
    (after (.portEnable 9 0) State.reset).link.sending =
      some (.reply { place := some 0, kind := 0x01, tag := 9, port := 0, body := .done (.entered .idle) }) := by
  decide +kernel

/-- R6: PORT_DISABLE in ACQUIRING closes the record with reason DISABLED and halts the drive channel. -/
theorem test_portDisable :
    let t := after (.portDisable 9 0) (acquiringA (distance .settle))
    t.mode .a = .off ∧ t.readyRecords.map Record.closeReason = [some .disabled] ∧ t.store.ready = [1] ∧
    (t.port .a).drive.state = .awaitHalt := by decide +kernel

/-- R67: the point of the DISTANCE scan that PORT_DISABLE removes is counted as missed. -/
theorem test_lost_point :
    (after (.portDisable 9 0) (acquiringA (distance .settle))).readyRecords.map (fun r => (r.counters.scansTaken, r.counters.missed))
      = [(0, 1)] := by decide +kernel

/-- R22 to R24: an f_code of 20,000 is stored as 10,000 and reported as field 1 of entry 0. -/
theorem test_planFreq :
    let t := after (.planFreq 9 0 [some 20000, none, none, some 50]) idleA
    (t.port .a).plan.staged.freq = [some 10000, none, none, some 50] ∧
    t.unsentReplies.map Reply.body = [.done (.clamps [{ field := 1, item := 0, value := 10000 }])] := by decide +kernel

/-- R26: a slot that names an absent frequency fails the first check. -/
theorem test_planCommit_invalid :
    let s := withA fun b => { b with plan := { b.plan with staged := { b.plan.staged with freq := [none, none, none, none] } } }
    (after (.planCommit 9 0) s).unsentReplies.map Reply.body =
      [.refused .planInvalid (some { sec := .slots, item := 0, kind := .absentFrequency })] := by decide +kernel

/-- R134, R135: OPEN_TUBE clamps row 0 to 1 and P0 300,001 to 300,000, and opens record 1. -/
theorem test_openTube :
    let t := after (.openTube 9 0 0 1000 16 300001) idleA
    t.mode .a = .armed ∧ (t.openRecords .a).map (fun r => (r.number, r.row, r.column, r.sec, r.p0)) = [(1, 1, 999, 15, 300000)] ∧
    (t.port .a).travel.raw = 30000000 ∧ t.store.counter = 2 := by decide +kernel

/-- R142: CLOSE_TUBE with no scan in flight answers with the number and the reason HOST. -/
theorem test_closeTube :
    (after (.closeTube 9 0) (armedA none)).unsentReplies.map Reply.body = [.done (.closed 1 .host)] ∧
    (after (.closeTube 9 0) (armedA none)).mode .a = .idle := by decide +kernel

/-- R126: with no scan completed a mark stands at the grid origin position, at index 0 of an empty list. -/
theorem test_mark :
    (after (.mark 9 0) (acquiringA none)).unsentReplies.map Reply.body = [.done (.marked 119500 (some 0))] := by decide +kernel

/-- R148. -/
theorem test_recordRelease :
    (after (.recordRelease 9 0 1) { State.reset with store := storeWith (.ready record1) [1] }).store.slots =
      List.replicate 12 .free := by decide +kernel

/-- R153, R154: the entry is issued at once with message number 0, and an END byte of 2 stops. -/
theorem test_driveQueue :
    let t := after (.driveQueue 9 0 [{ direction := 1, endByte := 2, speed := 600, distance := 118000 }]) idleA
    (t.port .a).drive.state = .awaitAccept ∧ (t.port .a).drive.outgoing = [.move 0 .withdraw 600 118000] ∧
    (t.port .a).drive.current = some { move := aMove true, number := 0 } := by decide +kernel

/-- R156: DONE of an entry with END releases the tool. -/
theorem test_done :
    ((after (.done 9 .a 4) (driveA (movingD true none))).port .a).drive.outgoing = [.release 6] ∧
    ((after (.done 9 .a 3) (driveA (movingD true none))).port .a).drive.state = .moving := by decide +kernel

/-- R42: at the end of the 80-tick switch two settle periods of 400 ticks begin, after them eight integrate periods. -/
theorem test_switchEnd :
    ((after (.switchEnd .a) (armedA (some (scanAt .time 0 .switch)))).port .a).seq.scan.map Scan.phaseEnd = some 880 ∧
    ((after (.settleEnd .a) (armedA (some (scanAt .time 0 .settle)))).port .a).seq.scan.map Scan.phaseEnd = some 3280 := by
  decide +kernel

/-- R46, R47, R60: the DISTANCE scan at 11,950,000 um completes as scan 0 at the position 119,500, and is counted. -/
theorem test_integrateEnd :
    let t := after (.integrateEnd .a 100 (-100) false []) (acquiringA (distance .integrate))
    (t.port .a).travel.lastScan = some { trigger := 11950000, corrected := 119500 } ∧ (t.port .a).seq.seqNo = 1 ∧
    (t.openRecords .a).map (fun r => r.counters.scansTaken) = [1] := by decide +kernel

/-- R87: sums of 160 and -160 with a last sample of 0 give the offsets floor(168 / 16) = 10 and floor(-152 / 16) = -10. -/
theorem test_null_completes :
    let t := after (.integrateEnd .a 0 0 false []) (nullA 15 .integrate)
    t.mode .a = .idle ∧ (t.port .a).chan.nulls.head? = some { x0 := 10, y0 := -10, balanced := true } ∧
    t.unsentReplies.map Reply.kind = [0x12] := by decide +kernel

/-- R57: from (0, 0) a change to (0, 1) is a step backward, a pull edge under NORMAL; the default scale moves 100 um. -/
theorem test_trackInputChange :
    let s := { idleA with ports := { idleA.ports with
      a := { idleA.ports.a with plan := { idleA.ports.a.plan with working := { Plan.default with
        travel := { Plan.default.travel with deglitch := 0 } } } } } }
    ((after (.trackInputChange 5 .a false true) s).port .a).travel.raw = -100 ∧
    ((after (.trackInputChange 5 .a true true) s).port .a).travel.illegal = 1 := by decide +kernel

/-- R64, R51: the edge that reaches the point at 11,949,000 um fires it, and its DISTANCE scan begins. -/
theorem test_grid_point_taken :
    let s := acquiringWith (fun b => { b with travel := { b.travel with raw := 11949000 } }) none
    let t := countedEdge .a { push := false, moved := 100 } s
    (t.port .a).seq.scan.map Scan.startPos = some 11949000 ∧ (t.port .a).travel.grid.map Grid.next = some 2 := by
  decide +kernel

/-- R183: with nothing waiting the transmitter is IDLE. -/
theorem test_transmitFrameDone :
    (after (.transmitFrameDone 3) { State.reset with link := { State.reset.link with
      sending := some (.report (.recordReady .a 1 .host)) } }).link.sending = none := by decide +kernel

/-! ### The laws of the small states -/

theorem linkLaw_of {s : State} (hr : s.link.replies = [])
    (h : s.link.buffer.length ≤ 8 ∧ (s.link.buffer.map HeldRequest.place).Nodup ∧ s.link.reports.length ≤ 16 ∧
      s.link.deframer.content.length ≤ 1031) : LinkLaw s :=
  ⟨h.1, h.2.1, by simp [hr], by simp [hr], by simp [hr, refusalsWaiting], h.2.2⟩

theorem taken_of {s : State} {c : Instr} {k : RequestKind} {port : Byte}
    (h : testRequest k port (Instr.lengthAllowed c) s = none) : Accepts s c k port := h

theorem heldLaw_of_empty {s : State} (h : s.link.buffer = []) : HeldLaw s := by simp [HeldLaw, h]

theorem heldLaw_of_one {s : State} {h : HeldRequest} (hb : s.link.buffer = [h]) (p : PortId) (hp : h.port = p.byte)
    (hk : (h.kind = .nullChannels ∧ s.mode p = .nulling) ∨ (h.kind = .closeTube ∧ (s.port p).seq.closeHold = true)) :
    HeldLaw s := by
  refine ⟨fun x hx _ => ?_, fun x hx y hy _ _ _ _ => ?_⟩
  · rw [hb, List.mem_singleton] at hx; exact ⟨p, by rw [hx, hp], by rw [hx]; exact hk⟩
  · rw [hb, List.mem_singleton] at hx hy; rw [hx, hy]

theorem poolLaw_of {s : State}
    (h : s.store.slots.length = 12 ∧ (s.records.map Record.number).Nodup ∧
      (∀ r ∈ s.records, 1 ≤ r.number ∧ r.number ≤ 65535) ∧ 1 ≤ s.store.counter ∧ s.store.counter ≤ 65535 ∧
      s.store.ready.Perm (s.readyRecords.map Record.number))
    (hp : allPorts.all (fun p => decide ((s.openRecords p).length = if (s.mode p).hasRecord then 1 else 0)) = true) :
    PoolLaw s :=
  ⟨h.1, fun p => by cases p <;> simp_all [allPorts], h.2.1, h.2.2.1, h.2.2.2.1, h.2.2.2.2.1, h.2.2.2.2.2⟩

theorem powerOn_lawful : PortBlocks.powerOn.lawful := by unfold PortBlocks.lawful; decide +kernel

theorem portLaw_of {s : State} {b : PortBlocks} (hs : s.ports = State.reset.ports.set .a b) (hb : b.lawful) : PortLaw s := by
  intro p; cases p <;> simp only [State.port, hs, Ports.get, Ports.set] <;> first | exact hb | exact powerOn_lawful

theorem powerOn_drive_lawful : DriveChannel.powerOn.lawful := by unfold DriveChannel.lawful; decide +kernel

theorem driveLaw_of {d : DriveChannel} (hd : d.lawful) : DriveLaw (driveA d) := by
  intro p; cases p <;> first | exact hd | exact powerOn_drive_lawful

theorem linkLaw_reset : LinkLaw State.reset := linkLaw_of rfl (by decide +kernel)
theorem linkLaw_idleA : LinkLaw idleA := linkLaw_of rfl (by decide +kernel)
theorem linkLaw_faultA : LinkLaw faultA := linkLaw_of rfl (by decide +kernel)
theorem linkLaw_armedA (sc : Option Scan) : LinkLaw (armedA sc) := linkLaw_of rfl (by simp [armedA, withA, State.setPort, State.reset, LinkController.powerOn])
theorem linkLaw_acquiringWith (f : PortBlocks → PortBlocks) (sc : Option Scan) : LinkLaw (acquiringWith f sc) :=
  linkLaw_of rfl (by simp [acquiringWith, withA, State.setPort, State.reset, LinkController.powerOn])
theorem linkLaw_withA (f : PortBlocks → PortBlocks) : LinkLaw (withA f) :=
  linkLaw_of rfl (by simp [withA, State.setPort, State.reset, LinkController.powerOn])
theorem linkLaw_nullA (n : Nat) (ph : ScanPhase) : LinkLaw (nullA n ph) :=
  linkLaw_of rfl (by simp [nullA, holding, heldRequest, State.setPort, State.reset, LinkController.powerOn])
theorem heldLaw_nullA (n : Nat) (ph : ScanPhase) : HeldLaw (nullA n ph) := heldLaw_of_one rfl .a rfl (Or.inl ⟨rfl, rfl⟩)

theorem poolLaw_idleA : PoolLaw idleA := poolLaw_of (by decide +kernel) (by decide +kernel)
theorem poolLaw_nullA : PoolLaw (nullA 15 .integrate) := poolLaw_of (by decide +kernel) (by decide +kernel)
theorem poolLaw_armedA : PoolLaw (armedA none) := poolLaw_of (by decide +kernel) (by decide +kernel)
theorem poolLaw_acquiringA : PoolLaw (acquiringA (distance .settle)) := poolLaw_of (by decide +kernel) (by decide +kernel)
theorem poolLaw_acquiringA_none : PoolLaw (acquiringA none) := poolLaw_of (by decide +kernel) (by decide +kernel)

theorem portLaw_idleA : PortLaw idleA := portLaw_of rfl (by unfold PortBlocks.lawful; decide +kernel)
theorem portLaw_faultA : PortLaw faultA := portLaw_of rfl (by unfold PortBlocks.lawful; decide +kernel)
theorem portLaw_armedA : PortLaw (armedA none) := portLaw_of rfl (by unfold PortBlocks.lawful; decide +kernel)
theorem portLaw_acquiringA (ph : ScanPhase) : PortLaw (acquiringA (distance ph)) :=
  portLaw_of rfl (by unfold PortBlocks.lawful; cases ph <;> decide +kernel)

/-- Port A in ACQUIRING with a scan in flight and a CLOSE_TUBE held for it. -/
def closingWith (f : PortBlocks → PortBlocks) (sc : Option Scan) : State :=
  holding (heldRequest .closeTube) (acquiringWith (fun b => f { b with seq := { b.seq with closeHold := true } }) sc)

def gridRecord : Record := { record1 with gridOrigin := some 119500 }

/-- R136: the HEADER of a record of a port in ACQUIRING shows no grid origin position while it is OPEN. -/
theorem test_fetch_open_header :
    (after (.recordFetch 9 0 1 0 0) { State.reset with store := storeWith (.opened gridRecord) [] }).unsentReplies.map (fun r => match r.body with
      | .done (.fetched _ _ _ last (.header h)) => (h.gridOrigin, last)
      | _ => (some 0, false)) = [(none, true)] ∧
    gridRecord.gridOrigin.isSome = true := by decide +kernel

/-- The laws that the statements about a port at work take together. -/
def WorkLaws (s : State) : Prop := LinkLaw s ∧ HeldLaw s ∧ PoolLaw s ∧ PortLaw s

theorem workLaws_of {s : State} {b : PortBlocks} (hl : LinkLaw s) (hh : HeldLaw s) (hp : PoolLaw s)
    (hs : s.ports = State.reset.ports.set .a b) (hb : b.lawful) : WorkLaws s := ⟨hl, hh, hp, portLaw_of hs hb⟩

/-- The same where the link controller is as after power-on. -/
theorem workLaws_quiet {s : State} {b : PortBlocks} (hl : s.link = .powerOn) (hp : PoolLaw s)
    (hs : s.ports = State.reset.ports.set .a b) (hb : b.lawful) : WorkLaws s :=
  workLaws_of (linkLaw_of (by rw [hl]; rfl) (by rw [hl]; decide +kernel)) (heldLaw_of_empty (by rw [hl]; rfl)) hp hs hb

def aGap : Gap := { kind := .stream, start := 2, stop := 1, count := 1 }

/-! ### Witnesses: for each statement with hypotheses, concrete values that meet them, clause by clause -/

theorem witness_StepRunsFrontCommand :
    ({ State.reset with pending := [.powerOn, .doneDeadline .a] } : State).pending = .powerOn :: [.doneDeadline .a] ∧
    State.reset.pending = [] := ⟨rfl, rfl⟩

theorem witness_RequestsReadBack :
    (Instr.planSlots 1 0 [anySlot]).wellFormed = true ∧
    (Instr.planSlots 1 0 [anySlot]).request? = some (.planSlots, 1, 0) := by decide +kernel

def frameState (content : List Byte) : State :=
  { State.reset with link := { State.reset.link with deframer := { state := .inFrame, content := content } } }

def intactFrame : List Byte := Wire.withCrc [0x01, 0x09, 0x02, 0x00, 0x00]

theorem witness_IntactFrameIsHandedOn :
    (Instr.portEnable 9 2).wellFormed = true ∧ encodeRequest (.portEnable 9 2) = some intactFrame ∧
    (frameState intactFrame).link.deframer = { state := .inFrame, content := intactFrame } := by decide +kernel

def shortFrame : List Byte := [0x01, 0x09, 0x02, 0x00, 0x00, 0x12]
def damagedFrame : List Byte := [0x01, 0x09, 0x02, 0x00, 0x00, 0x12, 0x34]
def longFrame : List Byte := Wire.withCrc [0x01, 0x09, 0x02, 0x00, 0x00, 0x00]

/-- Content of 6 bytes; of 7 with a wrong CRC; of 8 with a right CRC and a length field that is not 1; intact content. -/
theorem witness_FrameChecks :
    (∀ c ∈ [shortFrame, damagedFrame, longFrame, intactFrame], c ≠ [] ∧
      (frameState c).link.deframer = { state := .inFrame, content := c }) ∧
    shortFrame.length < 7 ∧
    (7 ≤ damagedFrame.length ∧
      (Wire.crc16 (damagedFrame.take (damagedFrame.length - 2))).toNat ≠ Wire.u16 damagedFrame (damagedFrame.length - 2)) ∧
    (7 ≤ longFrame.length ∧
      (Wire.crc16 (longFrame.take (longFrame.length - 2))).toNat = Wire.u16 longFrame (longFrame.length - 2) ∧
      Wire.u16 longFrame 3 ≠ longFrame.length - 7) ∧
    (7 ≤ intactFrame.length ∧
      (Wire.crc16 (intactFrame.take (intactFrame.length - 2))).toNat = Wire.u16 intactFrame (intactFrame.length - 2) ∧
      Wire.u16 intactFrame 3 = intactFrame.length - 7) := by decide +kernel

def deframing (state : DeframerState) (n : Nat) : State :=
  { State.reset with link := { State.reset.link with deframer := { state := state, content := List.replicate n 0 } } }

/-- The second part's guard: the deframer does not end a frame with content at this byte. -/
def endsNoFrame (s : State) (b : LineByte) : Bool :=
  !(decide (s.link.deframer.state = .inFrame) && !s.link.deframer.content.isEmpty && decide (b = .byte 0x7E))

/-- A frame that ends; a deframer in each state with the bytes of each clause; content at 1,030 and at 1,031 bytes. -/
theorem witness_DeframerTable :
    (deframing .inFrame 1).link.deframer = { state := .inFrame, content := [0] } ∧
    endsNoFrame (deframing .hunt 0) (.byte 0x7E) = true ∧ endsNoFrame (deframing .hunt 0) .error = true ∧
    endsNoFrame (deframing .inFrame 0) (.byte 0x7E) = true ∧ endsNoFrame (deframing .inFrame 3) (.byte 0x7D) = true ∧
    endsNoFrame (deframing .inFrame 1030) (.byte 0x41) = true ∧ (deframing .inFrame 1030).link.deframer.content.length < 1031 ∧
    endsNoFrame (deframing .inFrame 1031) (.byte 0x41) = true ∧ 1031 ≤ (deframing .inFrame 1031).link.deframer.content.length ∧
    endsNoFrame (deframing .escape 1030) (.byte 0x5E) = true ∧ endsNoFrame (deframing .escape 1031) (.byte 0x5D) = true ∧
    endsNoFrame (deframing .escape 3) (.byte 0x7E) = true ∧ endsNoFrame (deframing .escape 3) (.byte 0x5F) = true ∧
    endsNoFrame (deframing .inFrame 3) .error = true ∧ endsNoFrame (deframing .escape 3) .error = true := by decide +kernel

def fullBuffer : List HeldRequest :=
  (List.range 8).map fun n => { heldRequest .closeTube with place := n }

def refusalsOf (n : Nat) : List Reply :=
  List.replicate n { place := none, kind := 0, tag := 0, port := 0, body := .refused .badPort none }

def linkWith (buffer : List HeldRequest) (replies : List Reply) : State :=
  { State.reset with link := { State.reset.link with buffer := buffer, replies := replies } }

/-- Port byte 4; a count of 0 slots; a full buffer; the same for frames, with a kind that is no request; each with 7 and
with 8 immediate refusals waiting. -/
theorem witness_RefusedAtOnce :
    ((Instr.mark 1 4).request? = some (.mark, 1, 4) ∧ (RequestKind.mark.actsOnPort = true ∧ 3 < (4 : Byte).toNat) ∧
      (Instr.planSlots 1 0 []).request? = some (.planSlots, 1, 0) ∧ ¬ 3 < (0 : Byte).toNat ∧
      Instr.lengthAllowed (.planSlots 1 0 []) = false ∧
      8 ≤ (linkWith fullBuffer []).link.buffer.length ∧ Instr.lengthAllowed (.mark 1 0) = true) ∧
    (RequestKind.ofCode 0x1E = none ∧ RequestKind.ofCode 0x01 = some .portEnable ∧ 3 < (4 : Byte).toNat ∧
      parsePayload .portEnable 9 2 [0] = none ∧ (parsePayload .portEnable 9 2 []).isSome = true) ∧
    (∀ kind ∈ [(0x1E : Byte), 0x01], ∀ port ∈ [(4 : Byte), 2], ∀ payload ∈ [[], [(0 : Byte)]], payload.length ≤ 1024 ∧
      (frameState (Wire.frameContent kind 9 port payload)).link.deframer =
        { state := .inFrame, content := Wire.frameContent kind 9 port payload }) ∧
    ∀ n ∈ [7, 8], refusalsWaiting (linkWith [] (refusalsOf n)).link = n := by decide +kernel

/-- Each of the seven requests on a port in a state that refuses it; MARK and CLOSE_TUBE under a close hold as well. -/
theorem witness_RequestsRefused_state :
    LinkLaw idleA ∧ Accepts idleA (.portEnable 1 0) .portEnable 0 ∧ idleA.mode .a ≠ .off ∧
    Accepts idleA (.clearFault 1 0) .clearFault 0 ∧ idleA.mode .a ≠ .fault ∧
    LinkLaw State.reset ∧ Accepts State.reset (.nullChannels 1 0) .nullChannels 0 ∧ State.reset.mode .a ≠ .idle ∧
    Accepts State.reset (.openTube 1 0 1 1 0 0) .openTube 0 ∧ Accepts idleA (.closeTube 1 0) .closeTube 0 ∧
    (idleA.mode .a ≠ .armed ∧ idleA.mode .a ≠ .acquiring) ∧ Accepts idleA (.mark 1 0) .mark 0 ∧
    idleA.mode .a ≠ .acquiring ∧ Accepts State.reset (.driveQueue 1 0 [anyMove]) .driveQueue 0 ∧ State.reset.mode .a = .off ∧
    (let s := acquiringWith (fun b => { b with seq := { b.seq with closeHold := true } }) (distance .settle)
     LinkLaw s ∧ Accepts s (.mark 1 0) .mark 0 ∧ Accepts s (.closeTube 1 0) .closeTube 0 ∧ (s.port .a).seq.closeHold = true) :=
  ⟨linkLaw_idleA, taken_of (by decide), by decide, taken_of (by decide), by decide, linkLaw_reset, taken_of (by decide),
   by decide, taken_of (by decide), taken_of (by decide), by decide, taken_of (by decide), by decide, taken_of (by decide),
   by decide, linkLaw_acquiringWith _ _, taken_of (by decide), taken_of (by decide), rfl⟩

/-- A pending plan, and the eleven requests taken. -/
theorem witness_PendingPlanIsLocked :
    let s := withA fun b => pendingB (inMode .armed .idle b)
    LinkLaw s ∧ (s.port .a).plan.pending = true ∧ Accepts s (.planFreq 1 0 [none, none, none, none]) .planFreq 0 ∧
    Accepts s (.planSlots 1 0 [anySlot]) .planSlots 0 ∧ Accepts s (.planCal 1 0 (List.replicate 12 anyCal)) .planCal 0 ∧
    Accepts s (.planMix 1 0 (List.replicate 4 none)) .planMix 0 ∧ Accepts s (.planDetect 1 0 anyDetect) .planDetect 0 ∧
    Accepts s (.planLandmark 1 0 anyLandmark) .planLandmark 0 ∧ Accepts s (.planSupports 1 0 []) .planSupports 0 ∧
    Accepts s (.planCurve 1 0 []) .planCurve 0 ∧ Accepts s (.planTravel 1 0 anyTravel) .planTravel 0 ∧
    Accepts s (.planStream 1 0 anyStream) .planStream 0 ∧ Accepts s (.planCommit 1 0) .planCommit 0 :=
  ⟨linkLaw_withA _, rfl, taken_of (by decide), taken_of (by decide), taken_of (by decide), taken_of (by decide),
   taken_of (by decide), taken_of (by decide), taken_of (by decide), taken_of (by decide), taken_of (by decide),
   taken_of (by decide), taken_of (by decide)⟩

/-- A pool with no FREE slot; a number no record has; a LOST channel; a queue of 8 with one entry more; a plan that fails
validation. -/
theorem witness_RequestsRefused_other :
    (let s := { idleA with store := { slots := List.replicate 12 (.ready record1), ready := [], counter := 1 } }
     LinkLaw s ∧ Accepts s (.openTube 1 0 1 1 0 0) .openTube 0 ∧ s.mode .a = .idle ∧ ∀ x ∈ s.store.slots, x ≠ .free) ∧
    (LinkLaw idleA ∧ Accepts idleA (.recordFetch 1 0 7 0 0) .recordFetch 0 ∧ ∀ r ∈ idleA.records, r.number ≠ 7) ∧
    (LinkLaw (driveA lostD) ∧ Accepts (driveA lostD) (.driveQueue 1 0 [anyMove]) .driveQueue 0 ∧ (driveA lostD).mode .a ≠ .off ∧
      ((driveA lostD).port .a).drive.state = .lost) ∧
    (let s := driveA (haltD (List.replicate 8 (aMove true)) none)
     LinkLaw s ∧ Accepts s (.driveQueue 1 0 [anyMove]) .driveQueue 0 ∧ (s.port .a).drive.state ≠ .lost ∧
      (s.port .a).drive.queue.length + 1 = 9) ∧
    (let s := withA fun b => { b with plan := { b.plan with staged := { b.plan.staged with freq := [none, none, none, none] } } }
     LinkLaw s ∧ Accepts s (.planCommit 1 0) .planCommit 0 ∧ (s.port .a).plan.pending = false ∧
      (s.port .a).plan.staged.validate = some { sec := .slots, item := 0, kind := .absentFrequency }) :=
  ⟨⟨linkLaw_of rfl (by decide +kernel), taken_of (by decide), by decide, by decide +kernel⟩,
   ⟨linkLaw_idleA, taken_of (by decide), by decide +kernel⟩,
   ⟨linkLaw_withA _, taken_of (by decide), by decide, rfl⟩,
   ⟨linkLaw_withA _, taken_of (by decide), by decide +kernel⟩,
   ⟨linkLaw_withA _, taken_of (by decide), by decide +kernel⟩⟩

/-- A PORT_DISABLE in OFF; each read; a fetch of each section, at the last index that leaves entries out and the first that
does not, of a record with 17 gaps; an OPEN and a READY record. -/
theorem witness_ReadsChangeNothing :
    LinkLaw State.reset ∧ Accepts State.reset (.portStatus 1 0) .portStatus 0 ∧
    Accepts State.reset (.portDisable 1 0) .portDisable 0 ∧ State.reset.mode .a = .off ∧
    Accepts State.reset (.planRead 1 0 9 1) .planRead 0 ∧ Accepts State.reset (.driveStatus 1 0) .driveStatus 0 ∧
    Accepts State.reset (.recordList 1 9) .recordList 9 ∧ Accepts State.reset (.linkStatus 1 9) .linkStatus 9 ∧
    (LinkLaw (armedA none) ∧ PoolLaw (armedA none) ∧ record1 ∈ (armedA none).records ∧ record1.number = 1 ∧
      .opened record1 ∈ (armedA none).store.slots) ∧
    (let s := { State.reset with store := storeWith (.ready record1) [1] }
     LinkLaw s ∧ PoolLaw s ∧ record1 ∈ s.records ∧ .ready record1 ∈ s.store.slots) ∧
    (∀ sec ∈ [0, 1, 2, 3, 255], ∀ first ∈ [0, 1, 255], Accepts (armedA none) (.recordFetch 1 9 1 sec first) .recordFetch 9) ∧
    (¬ (List.replicate 17 aGap).length ≤ 0 + 16 ∧ (List.replicate 17 aGap).length ≤ 1 + 16) :=
  ⟨linkLaw_reset, taken_of (by decide), taken_of (by decide), by decide, taken_of (by decide), taken_of (by decide),
   taken_of (by decide), taken_of (by decide), ⟨linkLaw_armedA _, poolLaw_armedA, by decide +kernel⟩,
   ⟨linkLaw_of rfl (by decide +kernel), poolLaw_of (by decide +kernel) (by decide +kernel), by decide +kernel⟩,
   fun _ _ _ _ => taken_of rfl, by decide +kernel⟩

theorem witness_PortEntersIdle :
    LinkLaw State.reset ∧ PortLaw State.reset ∧ Accepts State.reset (.portEnable 1 0) .portEnable 0 ∧ State.reset.mode .a = .off ∧
    LinkLaw faultA ∧ PortLaw faultA ∧ Accepts faultA (.clearFault 1 0) .clearFault 0 ∧ faultA.mode .a = .fault :=
  ⟨linkLaw_reset, portLaw_of (b := .powerOn) rfl powerOn_lawful, taken_of (by decide), by decide, linkLaw_faultA,
   portLaw_faultA, taken_of (by decide), by decide⟩

theorem closingA_laws : WorkLaws (closingWith id (distance .settle)) :=
  workLaws_of (linkLaw_of rfl (by decide +kernel)) (heldLaw_of_one rfl .a rfl (Or.inr ⟨rfl, rfl⟩))
    (poolLaw_of (by decide +kernel) (by decide +kernel)) rfl (by unfold PortBlocks.lawful; decide +kernel)

/-- PORT_DISABLE in ACQUIRING with an open record, with a CLOSE_TUBE held for it, with a pending plan; in NULLING with the
request held; in IDLE with neither. -/
theorem witness_PortDisableClears :
    (let s := acquiringA (distance .settle)
     WorkLaws s ∧ Accepts s (.portDisable 1 0) .portDisable 0 ∧ s.mode .a ≠ .off ∧ s.openRecords .a = [gridRecord] ∧
      (s.port .a).plan.pending = false) ∧
    (let s := closingWith id (distance .settle)
     WorkLaws s ∧ Accepts s (.portDisable 1 0) .portDisable 0 ∧ heldRequest .closeTube ∈ s.link.buffer ∧
      (heldRequest .closeTube).inProgress ∧ s.openRecords .a = [gridRecord]) ∧
    (let s := acquiringWith pendingB (distance .settle)
     WorkLaws s ∧ Accepts s (.portDisable 1 0) .portDisable 0 ∧ (s.port .a).plan.pending = true) ∧
    (let s := nullA 15 .integrate
     WorkLaws s ∧ Accepts s (.portDisable 1 0) .portDisable 0 ∧ heldRequest .nullChannels ∈ s.link.buffer ∧
      (heldRequest .nullChannels).inProgress) ∧
    (WorkLaws idleA ∧ Accepts idleA (.portDisable 1 0) .portDisable 0 ∧ idleA.openRecords .a = [] ∧ idleA.link.buffer = []) :=
  ⟨⟨⟨linkLaw_acquiringWith _ _, heldLaw_of_empty rfl, poolLaw_acquiringA, portLaw_acquiringA _⟩, taken_of (by decide),
    by decide +kernel⟩,
   ⟨closingA_laws, taken_of (by decide), by decide +kernel, rfl, by decide +kernel⟩,
   ⟨workLaws_quiet rfl (poolLaw_of (by decide +kernel) (by decide +kernel)) rfl
      (by unfold PortBlocks.lawful; decide +kernel), taken_of (by decide), rfl⟩,
   ⟨workLaws_of (linkLaw_nullA _ _) (heldLaw_nullA _ _) poolLaw_nullA rfl (by unfold PortBlocks.lawful; decide +kernel),
    taken_of (by decide), by decide +kernel, rfl⟩,
   ⟨⟨linkLaw_idleA, heldLaw_of_empty rfl, poolLaw_idleA, portLaw_idleA⟩, taken_of (by decide), by decide +kernel, rfl⟩⟩

theorem witness_SectionRequestsStore :
    LinkLaw idleA ∧ (idleA.port .a).plan.pending = false ∧ Accepts idleA (.planFreq 1 0 [some 65535, none, none, none]) .planFreq 0 ∧
    Accepts idleA (.planSlots 1 0 (List.replicate 12 anySlot)) .planSlots 0 ∧
    Accepts idleA (.planCal 1 0 (List.replicate 12 anyCal)) .planCal 0 ∧
    Accepts idleA (.planMix 1 0 [some anyMix, none, none, none]) .planMix 0 ∧ Accepts idleA (.planDetect 1 0 anyDetect) .planDetect 0 ∧
    Accepts idleA (.planLandmark 1 0 anyLandmark) .planLandmark 0 ∧
    Accepts idleA (.planSupports 1 0 (List.replicate 24 7)) .planSupports 0 ∧
    Accepts idleA (.planCurve 1 0 (List.replicate 8 anyPoint)) .planCurve 0 ∧
    Accepts idleA (.planTravel 1 0 anyTravel) .planTravel 0 ∧ Accepts idleA (.planStream 1 0 anyStream) .planStream 0 :=
  ⟨linkLaw_idleA, rfl, taken_of (by decide), taken_of (by decide), taken_of (by decide), taken_of (by decide),
   taken_of (by decide), taken_of (by decide), taken_of (by decide), taken_of (by decide), taken_of (by decide),
   taken_of (by decide)⟩

/-- Fields at both ends of their ranges, and just beyond them. -/
theorem witness_StoredFieldsInRange :
    (49 < 50 ∧ 50 ≤ 50 ∧ 10000 ≤ 10000 ∧ 10000 < 10001) ∧
    (∀ e ∈ [{ freq := 3, mode := 2, settle := 15, integrate := 64 }, { freq := 0, mode := 0, settle := 0, integrate := 1 }],
      SlotFields.freq e ≤ 3 ∧ e.mode ≤ 2 ∧ e.settle ≤ 15 ∧ 1 ≤ e.integrate ∧ e.integrate ≤ 64) ∧
    (3599 < 3600 ∧ ¬ 3600 < 3600) ∧ (8 ∈ [1, 2, 4, 8] ∧ 7 ∉ [1, 2, 4, 8] ∧ 16 ∈ [8, 16]) := by decide

def filterAt (running : Bool) : TrackFilter := { input := running, level := false, since := if running then some 0 else none }

/-- A port with a filter running on neither, either or both tracks, and a staged plan with a filter length of 0. -/
def promotingA (mode : PortMode) (one two : Bool) : State :=
  withA fun b => { inMode mode .off b with
    travel := { b.travel with track1 := filterAt one, track2 := filterAt two }
    plan := { b.plan with staged := { b.plan.staged with travel := { b.plan.staged.travel with deglitch := 0 } } } }

/-- The three states at rest; and promotions after which neither, either or both levels differ from the quadrature state,
in OFF and outside it, of a plan with a frequency present, an absent one, and a slot. -/
theorem witness_CommitPromotesAtRest :
    (LinkLaw idleA ∧ Accepts idleA (.planCommit 1 0) .planCommit 0 ∧ idleA.mode .a = .idle ∧
      (idleA.port .a).plan.pending = false ∧ (idleA.port .a).plan.staged.validate = none) ∧
    State.reset.mode .a = .off ∧ faultA.mode .a = .fault ∧
    (∀ one two : Bool,
      let s := promotingA .idle one two
      let x := ((promote .a none s).port .a).travel
      s.mode .a ≠ .off ∧ (promotingA .off one two).mode .a = .off ∧ (s.port .a).travel.quad = { one := false, two := false } ∧
      x.track1.level = one ∧ x.track2.level = two) ∧
    (let s := promotingA .idle true false
     (s.working .a).travel.deglitch ≠ (s.port .a).plan.staged.travel.deglitch ∧ (s.port .a).travel.track1.since = some 0 ∧
      (s.port .a).plan.staged.freq = [some 1000, none, none, none] ∧ 0 < 1000 ∧
      ((promote .a none s).port .a).seq.periods[0]? = some (some 400)) :=
  ⟨⟨linkLaw_idleA, taken_of (by decide), by decide +kernel⟩, by decide, by decide, by decide +kernel, by decide +kernel⟩

theorem witness_CommitGoesPending :
    LinkLaw (armedA none) ∧ Accepts (armedA none) (.planCommit 1 0) .planCommit 0 ∧ (armedA none).mode .a = .armed ∧
    ((armedA none).port .a).plan.pending = false ∧ ((armedA none).port .a).plan.staged.validate = none ∧
    (nullA 0 .switch).mode .a = .nulling ∧ (acquiringA none).mode .a = .acquiring :=
  ⟨linkLaw_armedA _, taken_of (by decide), by decide +kernel⟩

theorem witness_PlanDiscardRestores :
    LinkLaw (withA pendingB) ∧ Accepts (withA pendingB) (.planDiscard 1 0) .planDiscard 0 :=
  ⟨linkLaw_withA _, taken_of (by decide)⟩

/-- An entry whose slot exists in both plans, in one, and in neither. -/
theorem witness_PromotionComparesNulls :
    (List.replicate 12 ({ x0 := 1, y0 := 2, balanced := true } : NullEntry))[11]? = some { x0 := 1, y0 := 2, balanced := true } ∧
    Plan.default.slots[0]? = some { freq := 0, mode := .diff, settle := 2, integrate := 8 } ∧
    Plan.default.slots[1]? = none := by decide +kernel

/-- Two plans that pass, and one that fails the first check at its first item. -/
theorem witness_ValidationAdmits : Plan.default.validate = none ∧
    ({ Plan.default with mix := [some { anyMix with primary := 0, secondary := 1 }, none, none, none], slots := Plan.default.slots ++ Plan.default.slots,
                         stream := { Plan.default.stream with channels := [12, 0] } } : Plan).validate = none ∧
    (let w : Plan := { Plan.default with freq := [none, none, none, none] }
     w.FailsAt 1 0 ∧ ∀ check k, w.FailsAt check k → ¬ MadeBefore check k 1 0) := by
  refine ⟨by decide +kernel, by decide +kernel, ⟨_, rfl, rfl⟩, ?_⟩
  rintro (_ | n) k hf hm
  · exact hf.elim
  · simp only [MadeBefore, checkGroup] at hm
    split_ifs at hm <;> omega

theorem witness_NullChannelsStarts :
    LinkLaw idleA ∧ Accepts idleA (.nullChannels 1 0) .nullChannels 0 ∧ idleA.mode .a = .idle :=
  ⟨linkLaw_idleA, taken_of (by decide), by decide⟩

/-- A sum at channel 0 and none at channel 11; a mix absent, and one present with both of its inputs. -/
theorem witness_NullsAndCalibration :
    (ChannelProcessor.powerOn.nulls)[0]? = some { x0 := 0, y0 := 0, balanced := false } ∧
    (ChannelProcessor.powerOn.nulls)[11]? = some { x0 := 0, y0 := 0, balanced := false } ∧
    ([{ x := 1, y := 1, saturated := true }] : List ChannelValue)[0]? = some { x := 1, y := 1, saturated := true } ∧
    ([{ x := 1, y := 1, saturated := true }] : List ChannelValue)[11]? = none ∧
    (let m : MixFields := { primary := 1, secondary := 0, kxx := 0, kxy := 0, kyx := 0, kyy := 0, rotation := 0, gain := 1 }
     let w := { Plan.default with mix := [none, some m, none, none] }
     let c := calibrate ChannelProcessor.powerOn.nulls w [calSample, { calSample with slot := 1 }] 0 .time 0
     w.mix[0]? = some none ∧ w.mix[1]? = some (some m) ∧ c.raw[1]?.isSome = true ∧ c.raw[0]?.isSome = true) := by
  decide +kernel

/-- The last angle, and the corner of the range of a vector. -/
theorem witness_AnglesAreNearest :
    3599 < 3600 ∧ (65535 : Int).natAbs ≤ 65535 ∧ (-65535 : Int).natAbs ≤ 65535 ∧ ¬ ((65535 : Int) = 0 ∧ (-65535 : Int) = 0) := by
  decide

theorem witness_OpenTubeOpensRecord :
    LinkLaw idleA ∧ PoolLaw idleA ∧ Accepts idleA (.openTube 1 0 0 1000 16 300001) .openTube 0 ∧ idleA.mode .a = .idle ∧
    .free ∈ idleA.store.slots ∧
    (true = true ↔ ∃ k, ((k = (idleA.working .a).detect.channel ∧ k < 12) ∨ (k = (idleA.working .a).landmark.channel ∧ k < 12) ∨
        ∃ m, some m ∈ (idleA.working .a).mix ∧ (k = m.primary ∨ k = m.secondary)) ∧
      ((idleA.port .a).chan.nulls.getD k { x0 := 0, y0 := 0, balanced := false }).balanced = false) :=
  ⟨linkLaw_idleA, poolLaw_idleA, taken_of (by decide), by decide, by decide +kernel,
   ⟨fun _ => ⟨0, Or.inl ⟨rfl, by decide⟩, rfl⟩, fun _ => rfl⟩⟩

/-- P0 at the lowest entry and below it; a position that passes down to the last entry and beyond it; a peak exactly the
tolerance away and one tenth beyond it; a pointer at none. -/
theorem witness_SupportMapFollowed :
    placePointer exampleMap 1500 = some 0 ∧ placePointer exampleMap 1499 = none ∧
    (passEntries exampleMap 50 1450 (some 4)).2 = some 0 ∧ (passEntries exampleMap 50 1449 (some 4)).2 = none ∧
    (passEntries exampleMap 50 58050 (some 2)).2 = some 2 ∧ ((58050 : Int) - (nominal exampleMap 2 : Int)).natAbs ≤ 50 ∧
    (passEntries exampleMap 50 58051 (some 2)).2 = some 2 ∧ 50 < ((58051 : Int) - (nominal exampleMap 2 : Int)).natAbs ∧
    (passEntries exampleMap 50 0 none).2 = none := by decide +kernel

theorem portLaw_acquiringA_none : PortLaw (acquiringA none) := portLaw_of rfl (by unfold PortBlocks.lawful; decide +kernel)

/-- A scan in flight; none, in ARMED and in ACQUIRING, and with a pending plan of the same filter length. -/
theorem witness_CloseTubeHoldsOrCloses :
    (let s := acquiringA (distance .settle)
     LinkLaw s ∧ Accepts s (.closeTube 1 0) .closeTube 0 ∧ s.mode .a = .acquiring ∧ (s.port .a).seq.closeHold = false ∧
      (s.port .a).seq.scan.isSome = true) ∧
    (WorkLaws (armedA none) ∧ Accepts (armedA none) (.closeTube 1 0) .closeTube 0 ∧ (armedA none).openRecords .a = [record1] ∧
      (armedA none).mode .a = .armed ∧ ((armedA none).port .a).seq.closeHold = false ∧
      ((armedA none).port .a).seq.scan = none ∧ ((armedA none).port .a).plan.pending = false) ∧
    (let s := acquiringWith pendingB none
     WorkLaws s ∧ Accepts s (.closeTube 1 0) .closeTube 0 ∧ s.openRecords .a = [gridRecord] ∧
      (s.port .a).seq.closeHold = false ∧ (s.port .a).seq.scan = none ∧ (s.port .a).plan.pending = true ∧
      (s.port .a).plan.staged.travel.deglitch = (s.port .a).plan.working.travel.deglitch ∧
      (s.port .a).travel.quad = { one := (s.port .a).travel.track1.level, two := (s.port .a).travel.track2.level }) :=
  ⟨⟨linkLaw_acquiringWith _ _, taken_of (by decide), by decide +kernel⟩,
   ⟨⟨linkLaw_armedA _, heldLaw_of_empty rfl, poolLaw_armedA, portLaw_armedA⟩, taken_of (by decide), by decide +kernel⟩,
   ⟨workLaws_quiet rfl (poolLaw_of (by decide +kernel) (by decide +kernel)) rfl
      (by unfold PortBlocks.lawful; decide +kernel), taken_of (by decide), by decide +kernel⟩⟩

theorem tally_acquiringA : PortTally (acquiringA (distance .settle)) .a := by
  refine ⟨fun h => absurd h (by decide +kernel), fun _ => ⟨{ origin := 11950000, next := 1 }, by decide +kernel⟩⟩

theorem witness_TallyLawKept :
    PoolLaw (acquiringA (distance .settle)) ∧ PortLaw (acquiringA (distance .settle)) ∧
    PortTally (acquiringA (distance .settle)) .a ∧ (acquiringA (distance .settle)).mode .a = .acquiring ∧
    (acquiringA (distance .settle)).openRecords .a = [gridRecord] ∧
    ((acquiringA (distance .settle)).port .a).travel.grid = some { origin := 11950000, next := 1 } :=
  ⟨poolLaw_acquiringA, portLaw_acquiringA _, tally_acquiringA, by decide +kernel⟩

/-- With no scan completed, and with one. -/
theorem witness_MarkListsOperator :
    LinkLaw (acquiringA none) ∧ Accepts (acquiringA none) (.mark 1 0) .mark 0 ∧ (acquiringA none).mode .a = .acquiring ∧
    ((acquiringA none).port .a).seq.closeHold = false ∧
    (acquiringA none).openRecords .a = [{ record1 with gridOrigin := some 119500 }] ∧
    ((acquiringA none).port .a).travel.lastScan = none ∧
    (let s := acquiringWith (fun b => { b with travel := { b.travel with lastScan := some { trigger := 1, corrected := -1 } } }) none
     LinkLaw s ∧ Accepts s (.mark 1 0) .mark 0 ∧ (s.port .a).travel.lastScan = some { trigger := 1, corrected := -1 }) :=
  ⟨linkLaw_acquiringWith _ _, taken_of (by decide), by decide +kernel, by decide +kernel, by decide +kernel, rfl,
   linkLaw_acquiringWith _ _, taken_of (by decide), rfl⟩

/-- A READY record, an OPEN record, and a number no record has. -/
theorem witness_RecordReleaseFrees :
    (let s := { State.reset with store := storeWith (.ready record1) [1] }
     LinkLaw s ∧ PoolLaw s ∧ record1 ∈ s.readyRecords ∧ Accepts s (.recordRelease 1 9 1) .recordRelease 9 ∧
      Accepts s (.recordRelease 1 9 2) .recordRelease 9 ∧ ∀ r ∈ s.records, r.number ≠ 2) ∧
    (LinkLaw (armedA none) ∧ PoolLaw (armedA none) ∧ .opened record1 ∈ (armedA none).store.slots ∧
      Accepts (armedA none) (.recordRelease 1 9 1) .recordRelease 9) :=
  ⟨⟨linkLaw_of rfl (by decide +kernel), poolLaw_of (by decide +kernel) (by decide +kernel), by decide +kernel,
    taken_of (by decide), taken_of (by decide), by decide +kernel⟩,
   ⟨linkLaw_armedA _, poolLaw_armedA, by decide +kernel, taken_of (by decide)⟩⟩

def indication (pos amplitude : Nat) : Indication :=
  { detIndex := 1, pos := pos, reference := none, offset := 0, amplitude := amplitude, phase := 0, depth := none,
    length := 1, long := false, truncated := false, saturated := false, gapped := false }

/-- Lists of 63 and of 64 indications, of 7 and of 8 gaps. -/
theorem witness_RecordListsTake :
    (List.replicate 63 (indication 5 5)).length < 64 ∧ (List.replicate 63 (indication 5 5)).Pairwise (fun a b => b.pos ≤ a.pos) ∧
    (List.replicate 64 (indication 5 5)).length = 64 ∧ (List.replicate 7 aGap).length < 8 ∧
    List.replicate 8 aGap = List.replicate 7 aGap ++ [aGap] ∧ 8 ≤ (List.replicate 8 aGap).length := by decide +kernel

def windowOf (high low : Point) (truncated : Bool) : ClosedWindow :=
  { high := high, low := low, length := 12, saturated := false, gapped := false, long := false, truncated := truncated }

def exampleCurve : List CurvePoint := [{ phase := 400, depth := 100 }, { phase := 900, depth := 60 }]

/-- The widest window, with the low extreme first; a window of one scan; a curve, with a phase at each end of it and at both
ends of its one step. -/
theorem witness_WindowMeasured :
    (let low : Point := { x := -32768, y := -32768, seqNo := 0, pos := 0 }
     let high : Point := { x := 32767, y := 32767, seqNo := 1, pos := 0 }
     let w := windowOf high low false
     w.dx.natAbs ≤ 65535 ∧ w.dy.natAbs ≤ 65535 ∧ w.amplitude = 92680 ∧ (low = w.low ∧ high = w.high) ∧
      low.seqNo.toNat < high.seqNo.toNat) ∧
    (windowOf scan1000 scan1000 false).high = (windowOf scan1000 scan1000 false).low ∧
    ((exampleCurve.map CurvePoint.phase).Pairwise (· < ·) ∧ exampleCurve.head? = some { phase := 400, depth := 100 } ∧
      400 ≤ 400 ∧ exampleCurve.getLast? = some { phase := 900, depth := 60 } ∧ 900 ≤ 900 ∧
      exampleCurve[0]? = some { phase := 400, depth := 100 } ∧ exampleCurve[0 + 1]? = some { phase := 900, depth := 60 }) := by
  decide +kernel

def twoSlots (runs : List Nat) (b : PortBlocks) : PortBlocks :=
  { b with seq := { b.seq with slots := b.seq.slots ++ b.seq.slots }, ctl := { b.ctl with runs := runs } }

/-- Each phase; and the first of two slots with a run count of 1, at which a condition found declares no fault yet. -/
theorem witness_SlotPhasesRun :
    ((armedA (some (scanAt .time 0 .switch))).port .a).seq.scan = some (scanAt .time 0 .switch) ∧
    ((armedA (some (scanAt .time 0 .settle))).port .a).seq.scan = some (scanAt .time 0 .settle) ∧
    (let s := acquiringWith (twoSlots (1 :: List.replicate 11 0)) (distance .integrate)
     (s.port .a).seq.scan = some (scanAt .distance 0 .integrate) ∧ 0 + 1 < (s.port .a).seq.slots.length ∧
      (s.port .a).ctl.runs.getD 0 0 + 1 < 3) := by decide +kernel

def thirdRun (b : PortBlocks) : PortBlocks := { b with ctl := { b.ctl with runs := 2 :: List.replicate 11 0 } }

/-- The third condition in a row in NULLING with its request held, and in ACQUIRING with a record, without and with a
CLOSE_TUBE held. -/
theorem witness_CoilFaultDeclared :
    (let s := holding (heldRequest .nullChannels) (State.reset.setPort .a
       { nullB 3 .integrate with ctl := { (nullB 3 .integrate).ctl with runs := 2 :: List.replicate 11 0 } })
     LinkLaw s ∧ HeldLaw s ∧ PoolLaw s ∧ PortLaw s ∧ (s.port .a).seq.scan = some (scanAt .time 0 .integrate) ∧
      (s.port .a).ctl.runs[0]? = some 2 ∧ s.mode .a = .nulling ∧ heldRequest .nullChannels ∈ s.link.buffer ∧
      (heldRequest .nullChannels).inProgress) ∧
    (let s := acquiringWith thirdRun (distance .integrate)
     WorkLaws s ∧ (s.port .a).seq.scan = some (scanAt .distance 0 .integrate) ∧ (s.port .a).ctl.runs[0]? = some 2 ∧
      s.openRecords .a = [gridRecord] ∧ (s.port .a).plan.pending = false) ∧
    (let s := closingWith thirdRun (distance .integrate)
     WorkLaws s ∧ (s.port .a).seq.scan = some (scanAt .distance 0 .integrate) ∧ (s.port .a).ctl.runs[0]? = some 2 ∧
      heldRequest .closeTube ∈ s.link.buffer ∧ (heldRequest .closeTube).inProgress ∧ s.openRecords .a = [gridRecord]) :=
  ⟨⟨linkLaw_of rfl (by decide +kernel), heldLaw_of_one rfl .a rfl (Or.inl ⟨rfl, rfl⟩),
    poolLaw_of (by decide +kernel) (by decide +kernel), portLaw_of rfl (by unfold PortBlocks.lawful; decide +kernel),
    by decide +kernel, by decide +kernel, by decide +kernel, by decide +kernel, rfl⟩,
   ⟨workLaws_quiet rfl (poolLaw_of (by decide +kernel) (by decide +kernel)) rfl
      (by unfold PortBlocks.lawful; decide +kernel), by decide +kernel⟩,
   ⟨workLaws_of (linkLaw_of rfl (by decide +kernel)) (heldLaw_of_one rfl .a rfl (Or.inr ⟨rfl, rfl⟩))
      (poolLaw_of (by decide +kernel) (by decide +kernel)) rfl (by unfold PortBlocks.lawful; decide +kernel),
    by decide +kernel, by decide +kernel, by decide +kernel, rfl, by decide +kernel⟩⟩

/-- In ARMED; in NULLING at the fifteenth and at the sixteenth scan with the request held, without and with a plan pending;
and a second condition in a row. -/
theorem witness_TimeScanCompletes :
    (let s := armedA (some (scanAt .time 0 .integrate))
     (s.port .a).seq.scan = some (scanAt .time 0 .integrate) ∧ 0 + 1 = (s.port .a).seq.slots.length ∧
      (s.port .a).seq.closeHold = false ∧ (s.port .a).stream.gap = none ∧ s.mode .a = .armed) ∧
    (let s := nullA 14 .integrate
     (s.port .a).seq.scan = some (scanAt .time 0 .integrate) ∧ (s.port .a).chan.accum.map NullAccumulation.count = some 14 ∧
      s.mode .a = .nulling) ∧
    (∀ pending : Bool,
      let s := holding (heldRequest .nullChannels) (State.reset.setPort .a { nullB 15 .integrate with
        plan := { (nullB 15 .integrate).plan with pending := pending }
        ctl := { (nullB 15 .integrate).ctl with runs := 1 :: List.replicate 11 0 } })
      LinkLaw s ∧ HeldLaw s ∧ s.mode .a = .nulling ∧ (s.port .a).plan.pending = pending ∧
      (s.port .a).ctl.runs.getD 0 0 + 1 < 3 ∧ (s.port .a).chan.accum.map NullAccumulation.count = some 15 ∧
      heldRequest .nullChannels ∈ s.link.buffer ∧ (heldRequest .nullChannels).inProgress) :=
  ⟨by decide +kernel, by decide +kernel, fun pending =>
    ⟨linkLaw_of rfl (by cases pending <;> decide +kernel), heldLaw_of_one rfl .a rfl (Or.inl ⟨rfl, rfl⟩), rfl, rfl,
     by cases pending <;> decide +kernel, by cases pending <;> rfl, List.mem_singleton_self _, rfl⟩⟩

def withLandmark (exitPos : Nat) (autoClose : Bool) (b : PortBlocks) : PortBlocks :=
  { b with
    plan := { b.plan with working := { b.plan.working with
      landmark := { b.plan.working.landmark with exitPos := exitPos, autoClose := autoClose, qLand := 1 } } } }

/-- The open window of the landmark unit with a saturation run of 4, which the next quiet scan closes. -/
def endOpened (b : PortBlocks) : PortBlocks :=
  { b with
    land := { b.land with
      window := .opened, length := 9, peak := some { absX := 30000, seqNo := 0, pos := 119500 }, satLongest := 4 } }

def lastSlot (s : State) (r : Record) (kind : ScanKind) (held : Option Int) : Prop :=
  WorkLaws s ∧ (s.port .a).seq.scan = some (scanAt kind 0 .integrate) ∧ 0 + 1 = (s.port .a).seq.slots.length ∧
  (s.port .a).seq.held = held ∧ s.openRecords .a = [r] ∧ ∀ c, streamScan .a c s = s

def completedAt (s : State) : CalibratedSet :=
  calibrate (s.port .a).chan.nulls (s.working .a) [sampleOf 0 0 0 false []] 0 .distance (11950000 / 100)

theorem noStream {s : State} (h : (s.working .a).stream.channels = []) (c : CalibratedSet) : streamScan .a c s = s := by
  simp [streamScan, h]

/-- In ARMED with a start owed; in ACQUIRING with a scan that closes nothing, one that ends below the exit position, one that
completes a tube end with auto-close ON, one behind a close hold, and the TIME scan before a held start. -/
theorem witness_TubeScanCompletes :
    (let s := { withA (fun b => scanning (some (scanAt .time 0 .integrate)) { inMode .armed .idle b with
        seq := { b.seq with owed := true } }) with store := storeWith (.opened record1) [] }
     lastSlot s record1 .time none ∧ s.mode .a = .armed ∧ (s.port .a).seq.owed = true) ∧
    (let s := acquiringA (distance .integrate)
     lastSlot s gridRecord .distance none ∧ s.mode .a = .acquiring ∧ (s.working .a).landmark.exitPos < 119500 ∧
      (s.port .a).seq.closeHold = false) ∧
    (let s := acquiringWith (withLandmark 119500 false) (distance .integrate)
     lastSlot s gridRecord .distance none ∧ (11950000 : Int) / 100 ≤ (s.working .a).landmark.exitPos) ∧
    (let s := acquiringWith (fun b => endOpened (withLandmark 0 true b)) (distance .integrate)
     lastSlot s gridRecord .distance none ∧ (s.working .a).landmark.autoClose = true ∧
      (landmarkWork (s.working .a) (completedAt s) (s.port .a).land gridRecord).2.2 = true) ∧
    (let s := closingWith id (distance .integrate)
     lastSlot s gridRecord .distance none ∧ (s.port .a).seq.closeHold = true) ∧
    (let s := acquiringWith (fun b => { b with seq := { b.seq with held := some 11950000 } }) (some (scanAt .time 0 .integrate))
     lastSlot s gridRecord .time (some 11950000) ∧ (s.port .a).seq.closeHold = false) := by
  refine ⟨⟨⟨workLaws_quiet rfl (poolLaw_of (by decide +kernel) (by decide +kernel)) rfl ?_, rfl, rfl, rfl, by decide +kernel,
      noStream rfl⟩, by decide +kernel⟩,
    ⟨⟨workLaws_quiet rfl (poolLaw_of (by decide +kernel) (by decide +kernel)) rfl ?_, rfl, rfl, rfl, by decide +kernel,
      noStream rfl⟩, by decide +kernel⟩,
    ⟨⟨workLaws_quiet rfl (poolLaw_of (by decide +kernel) (by decide +kernel)) rfl ?_, rfl, rfl, rfl, by decide +kernel,
      noStream rfl⟩, by decide +kernel⟩,
    ⟨⟨workLaws_quiet rfl (poolLaw_of (by decide +kernel) (by decide +kernel)) rfl ?_, rfl, rfl, rfl, by decide +kernel,
      noStream rfl⟩, by decide +kernel⟩,
    ⟨⟨workLaws_of (linkLaw_of rfl (by decide +kernel)) (heldLaw_of_one rfl .a rfl (Or.inr ⟨rfl, rfl⟩))
      (poolLaw_of (by decide +kernel) (by decide +kernel)) rfl ?_, rfl, rfl, rfl, by decide +kernel, noStream rfl⟩,
     by decide +kernel⟩,
    ⟨⟨workLaws_quiet rfl (poolLaw_of (by decide +kernel) (by decide +kernel)) rfl ?_, rfl, rfl, rfl, by decide +kernel,
      noStream rfl⟩, by decide +kernel⟩⟩
  all_goals unfold PortBlocks.lawful; decide +kernel

theorem witness_TimeModeExpires :
    ((nullA 0 .switch).port .a).seq.timer = some 40000 ∧ (nullA 0 .switch).mode .a = .nulling := by decide +kernel

def openDetector (length closeRun : Nat) : Detector :=
  { Detector.clear with
    state := .opened, high := some scan1006, low := some scan1000, length := length, closeRun := closeRun }

/-- Below and at T_open in IDLE; BLOCKED at its last quiet scan; and an open window at the scan that closes it, the one
that makes it LONG, and one that keeps it open. -/
theorem witness_DetectorWindows :
    (Detector.clear.state = .idle ∧ (1999 : Int).natAbs < exampleDetect.tOpen ∧ exampleDetect.tOpen ≤ (-2000 : Int).natAbs) ∧
    (({ Detector.clear with state := .blocked, closeRun := 3 } : Detector).state = .blocked ∧ exampleDetect.qClose ≤ 3 + 1 ∧
      scan1011.y.natAbs < exampleDetect.tClose) ∧
    (∀ d ∈ [openDetector 11 3, openDetector 255 2, openDetector 254 2],
      d.state = .opened ∧ d.high = some scan1006 ∧ d.low = some scan1000) ∧
    exampleDetect.qClose ≤ (openDetector 11 3).closeRun + 1 ∧
    ((openDetector 255 2).closeRun + 1 < exampleDetect.qClose ∧ exampleDetect.lMax ≤ (openDetector 255 2).length + 1) ∧
    ((openDetector 254 2).closeRun + 1 < exampleDetect.qClose ∧ (openDetector 254 2).length + 1 < exampleDetect.lMax) := by
  decide +kernel

/-- The window of 6.8 below A_min 6,000, at A_min 5,024 and before a gate from 84,321 on, for a record with no landmark and
one whose last landmark was missed; and a port with that window open, in IDLE and in BLOCKED. -/
theorem witness_WindowJudged :
    (let w := windowOf scan1006 scan1000 true
     w.amplitude < 6000 ∧ 5024 ≤ w.amplitude ∧ w.pos < 84321 ∧ 0 ≤ w.pos ∧ w.pos ≤ 84320) ∧
    (gridRecord.landmarks = [] ∧ gridRecord.gridOrigin = some 119500) ∧
    ([missingEntry exampleMap 3].getLast? = some (missingEntry exampleMap 3) ∧
      (if (missingEntry exampleMap 3).kind = .missing then (missingEntry exampleMap 3).nominal
        else (missingEntry exampleMap 3).measured) = some 86000) ∧
    (let s := acquiringWith (fun b => { b with det := openDetector 11 3 }) none
     (s.port .a).det.state = .opened ∧ (s.port .a).det.high = some scan1006 ∧ (s.port .a).det.low = some scan1000) ∧
    ((acquiringA none).port .a).det.state = .idle ∧
    (let s := acquiringWith (fun b => { b with det := { b.det with state := .blocked } }) none
     (s.port .a).det.state = .blocked) := by decide +kernel

/-- IDLE below and at L_open; an open window at the scan that closes it, the 1,024th, and one that keeps it open; a
saturation run of 4 and of 3; a close with a window open and with none. -/
theorem witness_LandmarkWindows :
    (LandmarkUnit.clear.window = .idle ∧ 7999 < Plan.default.landmark.lOpen ∧ Plan.default.landmark.lOpen ≤ 8000) ∧
    (let u := { (endOpened .powerOn).land with quiet := 3 }
     u.window = .opened ∧ u.peak = some { absX := 30000, seqNo := 0, pos := 119500 } ∧ 3999 < Plan.default.landmark.lClose ∧
      Plan.default.landmark.qLand ≤ u.quiet + 1) ∧
    (0 + 1 < Plan.default.landmark.qLand ∧ 1024 ≤ 1023 + 1 ∧ 1022 + 1 < 1024) ∧
    (4 ≤ (closedAt 5 5 4).satLongest ∧ (closedAt 5 5 3).satLongest < 4) ∧
    (let s := acquiringWith endOpened none
     (s.port .a).land.window = .opened ∧ (s.port .a).land.peak = some { absX := 30000, seqNo := 0, pos := 119500 }) ∧
    ((acquiringA none).port .a).land.window = .idle := by decide +kernel

def aFrame : StreamFrame :=
  { port := .b, generation := 0, width := 16, seqNo := 0, kind := .time, pos := 0, lost := 0, gap := false, values := [] }

/-- Port A streams channel 0 at decimation 2, with a group of `count` scans and `ring` frames waiting. -/
def streamingA (count ring : Nat) : State :=
  withA fun b => { inMode .armed .idle b with
    plan := { b.plan with working := { b.plan.working with stream := { channels := [0], decimation := 2, width := 8 } } }
    stream := { StreamUnit.clear with
      ring := List.replicate ring aFrame
      group := if count = 0 then none else some { count := count, sums := [], seqNo := 0, kind := .time, pos := 0 } } }

/-- No channel; a group begun, short of decimation 2; a group that completes with 31 and with 32 frames in the ring. -/
theorem witness_StreamFramesOffered :
    (State.reset.port .a).plan.working.stream.channels = [] ∧
    (let s := streamingA 0 0
     (s.port .a).plan.working.stream.channels ≠ [] ∧ (s.port .a).stream.group = none ∧ 1 < (s.port .a).plan.working.stream.decimation) ∧
    (∀ n, n = 31 ∨ n = 32 →
      let s := streamingA 1 n
      (s.port .a).plan.working.stream.decimation ≤ ((s.port .a).stream.group.map StreamGroup.count).getD 0 + 1 ∧
      (s.port .a).stream.ring.length = n) := by
  refine ⟨by decide +kernel, by decide +kernel, ?_⟩
  rintro n (rfl | rfl) <;> decide +kernel

def undeglitched (b : PortBlocks) : PortBlocks :=
  { b with plan := { b.plan with working := { b.plan.working with travel := { b.plan.working.travel with deglitch := 0 } } } }

/-- A port whose filters are at rest, with a filter length and without one; a running filter on each track; the same in
ACQUIRING with an illegal count of 15; both filters running in ARMED, FAULT and OFF, the second begun before, with and after
the first; and OFF without a filter length. -/
theorem witness_TracksDecode :
    ((idleA.port .a).plan.working.travel.deglitch ≠ 0 ∧
      (idleA.port .a).travel.quad = { one := (idleA.port .a).travel.track1.level, two := (idleA.port .a).travel.track2.level }) ∧
    (let s := withA fun b => undeglitched (inMode .idle .off b)
     (s.port .a).plan.working.travel.deglitch = 0 ∧ s.mode .a = .idle ∧
      (s.port .a).travel.track1 = { input := false, level := false, since := none } ∧
      (s.port .a).travel.track2 = { input := false, level := false, since := none } ∧
      (s.port .a).travel.quad = { one := false, two := false }) ∧
    (let s := withA fun b => { inMode .idle .off b with
       travel := { b.travel with track1 := { input := true, level := false, since := some 9 } } }
     (s.port .a).travel.track1 = { input := !(s.port .a).travel.quad.one, level := (s.port .a).travel.quad.one, since := some 9 } ∧
      (s.port .a).travel.track2 = { input := false, level := false, since := none }) ∧
    (let s := withA fun b => { inMode .fault .off b with
       travel := { b.travel with track2 := { input := true, level := false, since := some 9 } } }
     (s.port .a).travel.track2 = { input := !(s.port .a).travel.quad.two, level := (s.port .a).travel.quad.two, since := some 9 } ∧
      s.mode .a = .fault) ∧
    (let s := acquiringWith (fun b => undeglitched { b with travel := { b.travel with illegal := 15 } }) none
     (s.port .a).plan.working.travel.deglitch = 0 ∧ s.mode .a = .acquiring ∧ (s.port .a).travel.illegal + 1 = 16 ∧
      (s.port .a).travel.track1 = { input := false, level := false, since := none } ∧
      (s.port .a).travel.track2 = { input := false, level := false, since := none } ∧
      (s.port .a).travel.quad = { one := false, two := false }) ∧
    (∀ mode ∈ [PortMode.armed, .fault, .off], ∀ n ∈ [7, 8, 9],
      let s := withA fun b => { inMode mode .idle b with
        travel := { b.travel with
          track1 := { input := true, level := false, since := some 8 }, track2 := { input := true, level := false, since := some n } } }
      let u := (s.port .a).travel
      s.mode .a = mode ∧ u.quad = { one := false, two := false } ∧ u.track1 = { input := !u.quad.one, level := u.quad.one, since := some 8 } ∧
      u.track2 = { input := !u.quad.two, level := u.quad.two, since := some n }) ∧
    (let s := withA undeglitched
     (s.port .a).plan.working.travel.deglitch = 0 ∧ s.mode .a = .off) := by
  decide +kernel

/-- Start travel 20 at 100 um a unit: 2,000 um reach it and 1,999 do not. -/
theorem witness_StartTravelEnters :
    (armedA none).mode .a = .armed ∧ ((armedA none).port .a).plan.working.travel.startTravel * 100 = 2000 ∧
    ((armedA none).port .a).travel.startAcc + 2000 = 2000 ∧ ((armedA none).port .a).seq.closeHold = false ∧
    (armedA none).openRecords .a = [record1] := by decide +kernel

/-- No scan in flight; a scan in flight; the speed guard off, and ON with the channel MOVING and no limit sent. -/
theorem witness_PointTakenOrMissed :
    (acquiringA none).openRecords .a = [{ record1 with gridOrigin := some 119500 }] ∧
    ((acquiringA none).port .a).seq.scan = none ∧ ((acquiringA none).port .a).seq.held = none ∧
    ((acquiringA none).port .a).travel.lastStarted = some { index := 0, firedAt := 0 } ∧
    ((acquiringA (distance .settle)).port .a).seq.scan.isSome = true ∧
    ((acquiringA (distance .settle)).port .a).plan.working.travel.speedGuard = false ∧
    (let s := acquiringWith (fun b => { b with
       drive := movingD true none
       plan := { b.plan with working := { b.plan.working with travel := { b.plan.working.travel with speedGuard := true } } } })
       (distance .settle)
     s.openRecords .a = [{ record1 with gridOrigin := some 119500 }] ∧ (s.port .a).seq.scan.isSome = true ∧
      (s.port .a).plan.working.travel.speedGuard = true ∧ (s.port .a).drive.state = .moving ∧
      (s.port .a).drive.lastLimit = none) := by decide +kernel

/-- The raw position at the low-water mark, one edge below it short of the point, and at the point 11,949,000. -/
theorem witness_GridAndReversals :
    (acquiringA none).mode .a = .acquiring ∧
    ((acquiringA none).port .a).travel.grid = some { origin := 11950000, next := 1 } ∧
    ((acquiringA none).port .a).travel.low = some ((acquiringA none).port .a).travel.raw ∧
    (∀ raw, raw = 11949900 ∨ raw = 11949000 →
      let s := acquiringWith (fun b => { b with travel := { b.travel with raw := raw } }) none
      s.mode .a = .acquiring ∧ (s.port .a).travel.raw = raw ∧ raw < 11950000) ∧
    (11950000 : Int) - 1 * 1000 = 11949000 := by
  refine ⟨by decide +kernel, by decide +kernel, by decide +kernel, ?_, by decide⟩
  rintro raw (rfl | rfl) <;> decide +kernel

/-- A queue filled to 8 in AWAIT_HALT, and an empty queue in RELEASED, where the entry is issued. -/
theorem witness_DriveRequestsAct :
    (let s := driveA (haltD (List.replicate 7 (aMove true)) none)
     LinkLaw s ∧ Accepts s (.driveQueue 1 0 [anyMove]) .driveQueue 0 ∧ s.mode .a ≠ .off ∧ (s.port .a).drive.state = .awaitHalt ∧
      (s.port .a).drive.queue.length + 1 = 8) ∧
    (LinkLaw idleA ∧ Accepts idleA (.driveQueue 1 0 [anyMove]) .driveQueue 0 ∧ (idleA.port .a).drive.state = .released ∧
      (idleA.port .a).drive.current = none ∧ (idleA.port .a).drive.awaited = none ∧
      (idleA.port .a).drive.queue ++ [storedMove anyMove] = storedMove anyMove :: [] ∧
      Accepts idleA (.driveAbort 1 0) .driveAbort 0) :=
  ⟨⟨linkLaw_withA _, taken_of (by decide), by decide +kernel⟩,
   ⟨linkLaw_idleA, taken_of (by decide), rfl, rfl, rfl, rfl, taken_of (by decide)⟩⟩

theorem awaitAcceptD_lawful (due : Option Nat) : (awaitAcceptD due).lawful := by
  simp [DriveChannel.lawful, awaitAcceptD, awaiting, DriveChannel.powerOn]
theorem movingD_lawful (stop : Bool) (l : Option AwaitedLimit) : (movingD stop l).lawful := by
  simp [DriveChannel.lawful, movingD, DriveChannel.powerOn]
theorem deferredD_lawful (stop : Bool) : (deferredD stop).lawful := by
  unfold DriveChannel.lawful; cases stop <;> decide +kernel
theorem haltD_lawful (due : Option Nat) : (haltD [] due).lawful := by
  simp [DriveChannel.lawful, haltD, awaiting, DriveChannel.powerOn]

/-- The accept of a MOVE, of a RELEASE with an empty queue and with one entry, of a HALT; the accept of a LIMIT during a
move and after a deferred completion of each kind; DONE with a LIMIT awaited, with END, and without it. -/
theorem witness_AcceptAndDoneAct :
    (DriveLaw (driveA (awaitAcceptD none)) ∧ ((driveA (awaitAcceptD none)).port .a).drive.awaited = some (awaiting .move none)) ∧
    (DriveLaw (driveA (releasingD [])) ∧ DriveLaw (driveA (releasingD [aMove true])) ∧
      ((driveA (releasingD [])).port .a).drive.awaited = some (awaiting .release none)) ∧
    (DriveLaw (driveA (haltD [] none)) ∧ ((driveA (haltD [] none)).port .a).drive.awaited = some (awaiting .halt none)) ∧
    (DriveLaw (driveA (movingD true (some (aLimit none)))) ∧
      ((driveA (movingD true (some (aLimit none)))).port .a).drive.limit = some (aLimit none)) ∧
    (∀ stop, DriveLaw (driveA (deferredD stop)) ∧ ((driveA (deferredD stop)).port .a).drive.deferred = some stop) ∧
    (∀ stop, DriveLaw (driveA (movingD stop none)) ∧
      ((driveA (movingD stop none)).port .a).drive.current = some { move := aMove stop, number := 4 }) :=
  ⟨⟨driveLaw_of (awaitAcceptD_lawful _), rfl⟩,
   ⟨driveLaw_of (by unfold DriveChannel.lawful; decide +kernel), driveLaw_of (by unfold DriveChannel.lawful; decide +kernel), rfl⟩,
   ⟨driveLaw_of (haltD_lawful _), rfl⟩, ⟨driveLaw_of (movingD_lawful _ _), rfl⟩,
   fun _ => ⟨driveLaw_of (deferredD_lawful _), rfl⟩, fun _ => ⟨driveLaw_of (movingD_lawful _ _), rfl⟩⟩

/-- The refusal and the deadline of a MOVE and of a HALT, those of a LIMIT, and the done deadline. -/
theorem witness_RefuseAndDeadlinesAbort :
    (DriveLaw (driveA (awaitAcceptD (some 9))) ∧ ((driveA (awaitAcceptD (some 9))).port .a).drive.awaited = some (awaiting .move (some 9))) ∧
    (DriveLaw (driveA (haltD [] (some 9))) ∧ ((driveA (haltD [] (some 9))).port .a).drive.awaited = some (awaiting .halt (some 9))) ∧
    (DriveLaw (driveA (movingD true (some (aLimit (some 9))))) ∧
      ((driveA (movingD true (some (aLimit (some 9))))).port .a).drive.limit = some (aLimit (some 9)) ∧
      ((driveA (movingD true (some (aLimit (some 9))))).port .a).drive.doneDeadline = some 500) :=
  ⟨⟨driveLaw_of (by unfold DriveChannel.lawful; decide +kernel), rfl⟩,
   ⟨driveLaw_of (by unfold DriveChannel.lawful; decide +kernel), rfl⟩, ⟨driveLaw_of (movingD_lawful _ _), rfl, rfl⟩⟩

/-- No accept awaited; an accept of another number awaited; a channel not MOVING; bytes with a wrong CRC, and intact ones. -/
theorem witness_OutOfTurnIgnored :
    (idleA.port .a).drive.awaited = none ∧ (idleA.port .a).drive.limit = none ∧ (awaiting .move none).number ≠ 5 ∧
    (idleA.port .a).drive.state ≠ .moving ∧ (deferredD true).deferred.isSome = true ∧
    readAnswer [.byte 0x11, .byte 4, .byte 0, .byte 0] = none ∧
    readAnswer ((Wire.withCrc [0x12, 4, 9]).map .byte) = some (.refuse 4 9) := by decide +kernel

theorem witness_MessageSentStartsDeadline :
    (∀ m, m = .move 4 .withdraw 600 118000 ∨ m = .limit 5 771 ∨ m = .halt 4 ∨ m = .release 4 →
      ((driveA { awaitAcceptD none with outgoing := [m] }).port .a).drive.outgoing = m :: []) := fun _ _ => rfl

/-- RESET with a null operation in progress, and with a plan pending. -/
theorem witness_ResetClearsThePart :
    (LinkLaw (nullA 3 .settle) ∧ Accepts (nullA 3 .settle) (.reset 1 9) .reset 9) ∧
    (let s := acquiringWith pendingB none
     LinkLaw s ∧ Accepts s (.reset 1 9) .reset 9 ∧ (s.port .a).plan.pending = true) :=
  ⟨⟨linkLaw_nullA _ _, taken_of (by decide)⟩, linkLaw_acquiringWith _ _, taken_of (by decide), rfl⟩

/-- A reply waits; a report waits; a ring of port B holds a frame, after port A's empty one; nothing waits. -/
theorem witness_TransmitterTakesNext :
    ({ State.reset.link with replies := refusalsOf 1 } : LinkController).replies = refusalsOf 1 ∧
    ({ State.reset.link with reports := [.recordReady .a 1 .host] } : LinkController).reports = [.recordReady .a 1 .host] ∧
    (let s := State.reset.setPort .b { PortBlocks.powerOn with stream := { StreamUnit.clear with ring := [aFrame] } }
     s.link.replies = [] ∧ s.link.reports = [] ∧ servingOrder s.link.lastServed = [.a] ++ .b :: [.c, .d] ∧
      (∀ q ∈ [PortId.a], (s.port q).stream.ring = []) ∧ (s.port .b).stream.ring = aFrame :: []) ∧
    State.reset.link.replies = [] ∧ State.reset.link.reports = [] := by decide +kernel

theorem default_inRange : Plan.default.InRange := by
  have entries : ∀ v, some v ∈ Plan.default.freq → v ∈ Finset.Icc 50 10000 := by simp [Plan.default]
  have mixes : ∀ m, some m ∉ Plan.default.mix := by simp [Plan.default]
  unfold Plan.InRange
  refine ⟨rfl, entries, ?_⟩
  simp only [mixes, false_implies, implies_true, true_and]
  decide +kernel

theorem default_committed : Plan.default.Committed := by unfold Plan.Committed; decide +kernel

theorem planLawful_of {b : PortBlocks} (hp : b.plan = PortBlocks.powerOn.plan) (hc : b.chan = ChannelProcessor.powerOn)
    (hs : b.seq.periods = Sequencer.powerOn.periods ∧ b.seq.slots = Sequencer.powerOn.slots ∧ b.seq.duration = 4080 ∧
      b.travel.limitSpeed = 9803 ∧ b.travel.guardLimit = 8822) : b.planLawful := by
  obtain ⟨h1, h2, h3, h4, h5⟩ := hs
  unfold PortBlocks.planLawful
  simp only [PortBlocks.powerOn] at hp
  rw [hp, hc, h1, h2, h3, h4, h5]
  refine ⟨default_inRange, default_inRange, default_committed, nofun, ?_, ?_, ?_, ?_, ?_, ?_, fun k e he _ => ?_, nofun⟩
  case refine_7 =>
    simp only [ChannelProcessor.powerOn, List.getElem?_replicate] at he
    split_ifs at he
    exact (Option.some.inj he).symm
  all_goals decide +kernel

/-- The laws that the invariant statements take together hold in one state of a scan in flight, and its step answers a
next state. -/
theorem witness_laws :
    let s := { acquiringA (distance .settle) with pending := [.settleEnd .a] }
    LinkLaw s ∧ HeldLaw s ∧ PoolLaw s ∧ ListLaw s ∧ RingLaw s ∧ PortLaw s ∧ DriveLaw s ∧ TallyLaw s ∧ CorrectionLaw s ∧
    PlanLaw s ∧ ∃ t, step s = .next t :=
  have tallies : TallyLaw { acquiringA (distance .settle) with pending := [.settleEnd .a] } := by
    rintro (_ | _ | _ | _)
    · exact tally_acquiringA
    all_goals constructor <;> decide +kernel
  have plans : PlanLaw { acquiringA (distance .settle) with pending := [.settleEnd .a] } := by
    rintro (_ | _ | _ | _) <;> exact planLawful_of rfl rfl (by decide +kernel)
  have corrections : CorrectionLaw { acquiringA (distance .settle) with pending := [.settleEnd .a] } := by
    rintro (_ | _ | _ | _) <;> decide +kernel
  have rings : RingLaw { acquiringA (distance .settle) with pending := [.settleEnd .a] } := by
    rintro (_ | _ | _ | _) <;> decide +kernel
  have drives : DriveLaw { acquiringA (distance .settle) with pending := [.settleEnd .a] } := by
    rintro (_ | _ | _ | _) <;> exact powerOn_drive_lawful
  ⟨linkLaw_of rfl (by decide +kernel), heldLaw_of_empty rfl, poolLaw_of (by decide +kernel) (by decide +kernel),
   by unfold ListLaw Record.lawful; decide +kernel, rings, portLaw_of rfl (by unfold PortBlocks.lawful; decide +kernel),
   drives, tallies, corrections, plans, _, rfl⟩

end Sys2Proof.Machine.Tests
end

/-! PROOFS. PLAN_DISCARD (R33) and the comparison of nulls at a promotion (R32). -/

namespace Sys2Proof.Machine

variable {p q : PortId} {s : State}

/-! ### A request answered in the step that takes it -/

/-- The byte of a port names that port. -/
@[simp] theorem ofByte?_byte (p : PortId) : PortId.ofByte? p.byte = some p := by cases p <;> rfl

/-- A request that was taken and is answered after work that leaves the link controller alone: its reply is the last
one made, no report is raised, and with a reply waiting the arbiter touches no other block. -/
theorem Readied.answer {s' u : State} {k : RequestKind} {tag port : Byte} {place : Nat} (body : ReplyBody)
    (hr : Readied s s' k tag port place) (hu : u.link = s'.link) :
    ∃ l, arbitrate (reply place body u) = { u with link := l } ∧
      Answered s (arbitrate (reply place body u)) k tag port body ∧
      (arbitrate (reply place body u)).unsentReports = s.unsentReports := by
  obtain ⟨b, rfl, hfind⟩ := hr
  have replied := reply_eq (s := u) (place := place) body (by rw [hu]; exact hfind) rfl
  have waiting : (reply place body u).link.replies ≠ [] := by simp [replied]
  obtain ⟨l, harb, -, -⟩ := arbitrate_link_only (.inr (.inl waiting))
  refine ⟨l, by rw [harb, replied]; rfl, ⟨place, ?_⟩, ?_⟩
  · rw [arbitrate_unsentReplies]
    simp [State.unsentReplies, replied, hu]
  · rw [arbitrate_unsentReports]
    simp [State.unsentReports, hu]

/-- A request on port `p` that changes the blocks of that port alone and is answered at once. -/
theorem serveOnPort_answer {c : Instr} {k : RequestKind} {tag : Byte} {serveRequest : PortId → Nat → State → State}
    {body : ReplyBody} {f : PortBlocks → PortBlocks} (ha : Accepts s c k p.byte)
    (hserve : ∀ place s', s'.port p = s.port p → serveRequest p place s' = reply place body (onPort p f s')) :
    ∃ t, serveOnPort c k tag p.byte serveRequest s = .next t ∧ RequestOn p s t ∧ t.port p = f (s.port p) ∧
      Answered s t k tag p.byte body ∧ t.unsentReports = s.unsentReports := by
  obtain ⟨place, s', hr, hnext⟩ := serveOnPort_spec serveRequest ha (ofByte?_byte p)
  obtain ⟨l, harb, hanswered, hreports⟩ := hr.answer body (onPort_link (p := p) f)
  have hport : s'.port p = s.port p := by obtain ⟨b, rfl, -⟩ := hr; rfl
  rw [hserve place s' hport] at hnext
  obtain ⟨b, rfl, -⟩ := hr
  refine ⟨_, hnext, ?_, ?_, hanswered, hreports⟩
  · rw [harb]
    exact ⟨fun q hq => setPort_port_ne _ hq, rfl, rfl, rfl⟩
  · rw [harb]
    exact setPort_port_same _

/-! ### PLAN_DISCARD (R33) -/

/-- The blocks of a port after PLAN_DISCARD (R33). -/
def PortBlocks.discarded (b : PortBlocks) : PortBlocks :=
  { b with plan := { b.plan with staged := b.plan.working, pending := false } }

/-- PLAN_DISCARD changes the plan store of its port and answers with the generation, which it leaves. -/
theorem discardRequest_eq (place : Nat) : discardRequest p place s =
    reply place (.done (.discarded (s.port p).plan.generation)) (onPort p PortBlocks.discarded s) := rfl

/-- Settles O18: PLAN_DISCARD changes the blocks of its port alone and is answered at once. -/
theorem planDiscardRestores : Obligations.PlanDiscardRestores := by
  intro s p tag _ ha
  exact serveOnPort_answer (f := PortBlocks.discarded) ha fun place s' hport => by rw [discardRequest_eq, hport]

/-! ### The nulls at a promotion (R32) -/

/-- The decoding that a promotion may make moves the travel unit and leaves the channel processor. -/
@[simp] theorem decodeAtRest_chan : ((decodeAtRest p s).port p).chan = (s.port p).chan := by
  unfold decodeAtRest
  split
  · rfl
  · rw [onTravel_port_same]

/-- The PLAN_PROMOTED report of a promotion leaves the blocks of every port. -/
theorem promote_port (cause : Option Cause) :
    (promote p cause s).port q = (decodeAtRest p (onPort p (PortBlocks.promoted s.now) s)).port q := by
  cases cause with
  | none => rfl
  | some why => exact report_port _

/-- The null table after a promotion is the compared one. -/
theorem promote_nulls (cause : Option Cause) : ((promote p cause s).port p).chan.nulls =
    comparedNulls (s.port p).plan.working (s.port p).plan.staged (s.port p).chan.nulls := by
  rw [promote_port, decodeAtRest_chan, onPort_port_same, PortBlocks.promoted]

/-- Each null is compared by the slot of its own index. -/
theorem comparedNulls_getElem? (outgoing incoming : Plan) (nulls : List NullEntry) (k : Nat) :
    (comparedNulls outgoing incoming nulls)[k]? = (nulls[k]?).map fun e =>
      if outgoing.slotKey k = incoming.slotKey k then e else { x0 := 0, y0 := 0, balanced := false } := by
  simp [comparedNulls, List.getElem?_zipIdx, Function.comp_def]

/-- Settles O19, by whether the slot exists in the outgoing and in the incoming plan. -/
theorem promotionComparesNulls : Obligations.PromotionComparesNulls := by
  refine ⟨fun s p cause => promote_nulls cause, fun outgoing incoming nulls k e he => ?_⟩
  rw [comparedNulls_getElem?, he, Option.map_some, Plan.slotKey, Plan.slotKey]
  cases outgoing.slots[k]? with
  | none =>
    cases incoming.slots[k]? with
    | none => rfl
    | some b => rfl
  | some a =>
    cases incoming.slots[k]? with
    | none => rfl
    | some b => simp [Plan.fCode]

end Sys2Proof.Machine

/-! PROOFS. The start travel and the entry to ACQUIRING (R50, R62, R63), the grid point an edge fires (R64), and
reversals (R68). -/

namespace Sys2Proof.Machine

variable {p q : PortId} {s u : State} {e : Edge}

/-! ### Changes of one port's blocks, composed -/

/-- Of two replacements of a port's blocks the later stands. -/
@[simp] theorem setPort_setPort (b c : PortBlocks) : (s.setPort p b).setPort p c = s.setPort p c := by cases p <;> rfl

/-- Two changes of a port's blocks are one. -/
theorem onPort_onPort (f g : PortBlocks → PortBlocks) : onPort p g (onPort p f s) = onPort p (fun b => g (f b)) s := by
  simp [onPort]

/-- A change of a travel unit replaces the travel unit among the port's blocks. -/
theorem onTravel_eq (f : TravelUnit → TravelUnit) :
    onTravel p f s = s.setPort p { s.port p with travel := f (s.port p).travel } := rfl

/-- Two changes of a travel unit are one. -/
theorem onTravel_onTravel (f g : TravelUnit → TravelUnit) :
    onTravel p g (onTravel p f s) = onTravel p (fun u => g (f u)) s := onPort_onPort _ _

/-- A change of a travel unit and a write to the open record commute. -/
theorem onTravel_onOpen (f : TravelUnit → TravelUnit) (g : Record → Record) :
    onTravel p f (onOpen p g s) = onOpen p g (onTravel p f s) := rfl

/-- A change of the travel unit leaves the working plan. -/
@[simp] theorem onTravel_working (f : TravelUnit → TravelUnit) : (onTravel p f s).working p = s.working p := by
  simp [State.working]

/-! ### The report of an event -/

/-- A report made is raised: with a place free it joins the reports not yet sent. -/
theorem report_raised (r : Report) : Raised s (report r s) [r] := by
  intro hroom
  have hfree : s.link.reports.length < Config.reportPlaces := by simpa using hroom
  simp [State.unsentReports, report_reports r hfree]

/-- What is raised is told by the link controller alone. -/
theorem Raised.of_link {t : State} {rs : List Report} (h : Raised u t rs) (hl : u.link = s.link) : Raised s t rs := by
  simpa [Raised, State.unsentReports, hl] using h

/-- A STATE event raises the report of the transition just made. -/
theorem stateEvent_raised (cause : Cause) (record : Option Nat) :
    Raised s (stateEvent p cause record s) [stateReport p (s.mode p) (s.port p).ctl.previous cause record] :=
  report_raised _

/-! ### Edges in ARMED (R62, R53) -/

/-- In ARMED a counted edge is handed to the start travel. -/
theorem countedEdge_armed (h : s.mode p = .armed) : countedEdge p e s = armedEdge p e s := by simp only [countedEdge, h]

/-- A push edge lowers the start-travel accumulator. -/
theorem startAccAfter_push (h : e.push = true) (acc : Nat) : startAccAfter e acc = acc - e.moved := by
  simp [startAccAfter, h]

/-- A pull edge raises the start-travel accumulator. -/
theorem startAccAfter_pull (h : e.push = false) (acc : Nat) : startAccAfter e acc = acc + e.moved := by
  simp [startAccAfter, h]

/-- The start is reached by a pull edge alone, at the start travel or beyond it, with no close hold. -/
theorem reachesStart_iff (b : PortBlocks) : reachesStart b e = true ↔ e.push = false ∧
    b.plan.working.travel.startTravel * 100 ≤ b.travel.startAcc + e.moved ∧ b.seq.closeHold = false := by
  cases hpush : e.push with
  | true => simp [reachesStart, hpush]
  | false => simp [reachesStart, hpush, startAccAfter_pull]

/-- The travel unit with its accumulator raised by a pull edge. -/
def TravelUnit.towardStart (moved : Nat) (u : TravelUnit) : TravelUnit := { u with startAcc := u.startAcc + moved }

/-- An edge short of the start moves the accumulator alone. -/
theorem armedEdge_of_not_reaches (h : ¬ reachesStart (s.port p) e = true) :
    armedEdge p e s = onTravel p (fun u => { u with startAcc := startAccAfter e u.startAcc }) s := if_neg h

/-- The edge that reaches the start raises the accumulator, and the port enters ACQUIRING. -/
theorem armedEdge_of_reaches (h : reachesStart (s.port p) e = true) :
    armedEdge p e s = enterAcquiring p (onTravel p (TravelUnit.towardStart e.moved) s) := by
  obtain ⟨hpull, -, -⟩ := (reachesStart_iff _).mp h
  rw [armedEdge, if_pos h]
  simp only [startAccAfter_pull hpull]
  rfl

/-! ### Entry to ACQUIRING (R4, R50, R63) -/

/-- The start of grid point 0 on the sequencer: a DISTANCE scan, or behind a scan in flight the held start (R50). -/
def Sequencer.startZero (now : Nat) (g : Int) (q : Sequencer) : Sequencer :=
  if q.scan.isNone then q.beginScan now .distance g else { q with held := some g }

/-- The start of grid point 0 acts on the sequencer alone. -/
theorem startPointZero_eq (g : Int) : startPointZero p g s = onSeq p (Sequencer.startZero s.now g) s := by
  unfold startPointZero
  split
  next hnone => simp [onSeq, onPort, startDistanceScan, Sequencer.startZero, hnone]
  next hsome => simp [onSeq, onPort, Sequencer.startZero, hsome]

/-- Behind a scan in flight the start is held; without one the scan begins. -/
theorem startZero_eq (now : Nat) (g : Int) (q : Sequencer) : q.startZero now g =
    if q.scan.isSome then { q with held := some g }
    else { q with
      scan := some { kind := .distance, startPos := g, slot := 0, phase := .switch, phaseEnd := now + 80 } } := by
  cases hscan : q.scan with
  | none => simp [Sequencer.startZero, Sequencer.beginScan, Config.switchTicks, hscan]
  | some sc => simp [Sequencer.startZero, hscan]

/-- The blocks of a port once it has entered ACQUIRING (R3, R4, R50, R63). -/
def PortBlocks.entered (now : Nat) (b : PortBlocks) : PortBlocks :=
  { b.enterAcquiring now with
    ctl := { b.ctl with mode := .acquiring, previous := b.ctl.mode, lastCause := .startTravel }
    seq := (b.enterAcquiring now).seq.startZero now b.travel.raw
    stream := { b.stream with group := none, miss := false } }

/-- The entry's actions on its port, up to the start of point 0, are one change of the port's blocks. -/
theorem entered_eq : startPointZero p (s.port p).travel.raw (transition p .acquiring .startTravel
    (onPort p (PortBlocks.enterAcquiring s.now) (discardGroup p s))) = onPort p (PortBlocks.entered s.now) s := by
  simp only [startPointZero_eq, transition, discardGroup, onSeq, onCtl, onStream, onPort_onPort]
  rfl

/-- All the entry to ACQUIRING does: the blocks of its port, the grid origin of the open record, and one event. -/
theorem enterAcquiring_eq : enterAcquiring p s = stateEvent p .startTravel (s.openNumber p)
    (onOpen p (Record.setGridOrigin (s.port p).travel.raw) (onPort p (PortBlocks.entered s.now) s)) := by
  rw [← entered_eq, enterAcquiring, startPointZero_eq, startPointZero_eq]
  rfl

/-- The entry's part outside the port controllers and the link: every other port, the clock, the queue and the READY
records stand, and the open record of the port has its grid origin. -/
theorem enterAcquiring_frame : SameOthers p s (enterAcquiring p s) ∧ (enterAcquiring p s).now = s.now ∧
    (enterAcquiring p s).pending = s.pending ∧ (enterAcquiring p s).store.ready = s.store.ready ∧
    (enterAcquiring p s).readyRecords = s.readyRecords ∧
    (∀ q, q ≠ p → (enterAcquiring p s).openRecords q = s.openRecords q) ∧
    (enterAcquiring p s).openRecords p =
      (s.openRecords p).map (Record.setGridOrigin (s.port p).travel.raw) := by
  obtain ⟨l, hl⟩ := stateEvent_link_only (p := p)
    (s := onOpen p (Record.setGridOrigin (s.port p).travel.raw) (onPort p (PortBlocks.entered s.now) s))
    .startTravel (s.openNumber p)
  rw [enterAcquiring_eq, hl]
  exact ⟨fun q hq => onPort_port_ne _ hq, rfl, rfl, rfl, onOpen_readyRecords,
    fun q hq => onOpen_openRecords_ne (fun _ => rfl) hq, onOpen_openRecords fun _ => rfl⟩

/-- The blocks of the port after the entry. -/
theorem enterAcquiring_port_same : (enterAcquiring p s).port p = (s.port p).entered s.now := by
  rw [enterAcquiring_eq, stateEvent, report_port, onOpen_port, onPort_port_same]

/-- The entry raises its STATE event, with the number of the open record (R15, R53). -/
theorem enterAcquiring_raised : Raised s (enterAcquiring p s)
    [stateReport p .acquiring (s.mode p) .startTravel (s.openNumber p)] := by
  rw [enterAcquiring_eq]
  have raised := stateEvent_raised (p := p)
    (s := onOpen p (Record.setGridOrigin (s.port p).travel.raw) (onPort p (PortBlocks.entered s.now) s))
    .startTravel (s.openNumber p)
  rw [mode_eq, onOpen_port, onPort_port_same] at raised
  exact raised.of_link rfl

/-- Settles O41: a push edge and a pull edge short of the start move the accumulator alone, and the pull edge that reaches
the start is the entry to ACQUIRING from the accumulator it leaves. -/
theorem startTravelEnters : Obligations.StartTravelEnters := by
  intro s p e harmed b acc
  rw [countedEdge_armed harmed]
  refine ⟨fun hpush => ?_, fun hpull hshort => ?_, fun r hpull hreach hhold hopen => ?_⟩
  case refine_1 =>
    have stays : ¬ reachesStart (s.port p) e = true := by simp [reachesStart_iff, hpush]
    rw [armedEdge_of_not_reaches stays, onTravel_eq, startAccAfter_push hpush]
  case refine_2 =>
    have stays : ¬ reachesStart (s.port p) e = true := by
      rw [reachesStart_iff]
      rintro ⟨-, hreach, hhold⟩
      rcases hshort with hlt | hclose
      · exact absurd hreach (Nat.not_le.mpr hlt)
      · exact absurd (hclose.symm.trans hhold) nofun
    rw [armedEdge_of_not_reaches stays, onTravel_eq, startAccAfter_pull hpull]
  case refine_3 =>
    have hport : (onTravel p (TravelUnit.towardStart e.moved) s).port p =
        { b with travel := { b.travel with startAcc := acc } } := onTravel_port_same _
    have hopen' : (onTravel p (TravelUnit.towardStart e.moved) s).openRecords p = [r] := hopen
    have hmode : (onTravel p (TravelUnit.towardStart e.moved) s).mode p = .armed := by rw [mode_eq, hport]; exact harmed
    rw [armedEdge_of_reaches ((reachesStart_iff _).mpr ⟨hpull, hreach, hhold⟩)]
    obtain ⟨others, clock, queue, ready, readies, opens, opened⟩ :=
      enterAcquiring_frame (p := p) (s := onTravel p (TravelUnit.towardStart e.moved) s)
    rw [hopen', hport] at opened
    have raised := enterAcquiring_raised (p := p) (s := onTravel p (TravelUnit.towardStart e.moved) s)
    rw [openNumber_eq, hopen', hmode] at raised
    refine ⟨fun q hq => (others q hq).trans (onTravel_port_ne _ hq), clock, queue, ready, readies, opens, opened, ?_,
      raised.of_link rfl⟩
    rw [enterAcquiring_port_same, hport, PortBlocks.entered, startZero_eq, show b.ctl.mode = .armed from harmed]
    rfl

/-! ### Edges in ACQUIRING (R64, R68) -/

/-- In ACQUIRING a counted edge is handed to the grid or to the push travel. -/
theorem countedEdge_acquiring (h : s.mode p = .acquiring) : countedEdge p e s = acquiringEdge p e s := by
  simp only [countedEdge, h]

/-- The travel unit with its push travel cleared by a pull edge. -/
def TravelUnit.pulled (u : TravelUnit) : TravelUnit := { u with pushAcc := 0, reversalMark := false }

/-- A pull edge in ACQUIRING clears the push travel and is held against the low-water mark. -/
theorem acquiringEdge_pull (h : e.push = false) :
    acquiringEdge p e s = passLowWater p (onTravel p TravelUnit.pulled s) := by
  rw [acquiringEdge, h]; rfl

/-- A push edge in ACQUIRING is handed to the reversal count. -/
theorem acquiringEdge_push (h : e.push = true) : acquiringEdge p e s = pushEdge p e.moved s := by
  rw [acquiringEdge, h]; rfl

section LowWater

variable {g : Grid} {low : Int}

/-- At or above the low-water mark nothing is passed. -/
theorem passLowWater_above (hg : (s.port p).travel.grid = some g) (hl : (s.port p).travel.low = some low)
    (h : low ≤ (s.port p).travel.raw) : passLowWater p s = s := by
  simp only [passLowWater, hg, hl, if_neg (not_lt.mpr h)]

/-- Below the mark and short of the next grid point, or with the point passed already, the mark alone is lowered. -/
theorem passLowWater_lowers (hg : (s.port p).travel.grid = some g) (hl : (s.port p).travel.low = some low)
    (h : (s.port p).travel.raw < low)
    (hpos : ¬ ((s.port p).travel.raw ≤ pointPos (s.working p).travel.step g ∧
      pointPos (s.working p).travel.step g < low)) :
    passLowWater p s = onTravel p (fun u => { u with low := some u.raw }) s := by
  simp only [passLowWater, hg, hl, if_pos h, if_neg hpos]

/-- Below the mark and at the next grid point the mark is lowered, the grid moves on and the point is fired. -/
theorem passLowWater_fires (hg : (s.port p).travel.grid = some g) (hl : (s.port p).travel.low = some low)
    (h : (s.port p).travel.raw < low)
    (hpos : (s.port p).travel.raw ≤ pointPos (s.working p).travel.step g ∧
      pointPos (s.working p).travel.step g < low) :
    passLowWater p s = firePoint p g.next (pointPos (s.working p).travel.step g)
      (onTravel p (fun u => { u with low := some u.raw, grid := some g.fired }) s) := by
  simp only [passLowWater, hg, hl, if_pos h, if_pos hpos]

end LowWater

/-! ### Reversals (R68) -/

/-- Whether a push edge counts a reversal: the push travel goes beyond 2,000 um, with none counted since the last pull. -/
def TravelUnit.reverses (moved : Nat) (u : TravelUnit) : Bool := decide (2000 < u.pushAcc + moved) && !u.reversalMark

/-- The travel unit after a push edge in ACQUIRING. -/
def TravelUnit.pushed (moved : Nat) (u : TravelUnit) : TravelUnit :=
  { u with pushAcc := u.pushAcc + moved, reversalMark := u.reversalMark || u.reverses moved }

/-- The test of the model is the reversal test. -/
theorem reverses_iff (moved : Nat) (u : TravelUnit) :
    u.reverses moved = true ↔ Config.reversalTravel < u.pushAcc + moved ∧ u.reversalMark = false := by
  simp [TravelUnit.reverses, Config.reversalTravel]

/-- A push edge that reverses moves the travel unit and counts a reversal. -/
theorem pushEdge_of_reverses {moved : Nat} (h : (s.port p).travel.reverses moved = true) :
    pushEdge p moved s = onOpen p Record.countReversal (onTravel p (TravelUnit.pushed moved) s) := by
  have moves : onTravel p (fun u => { u with pushAcc := u.pushAcc + moved, reversalMark := true }) s =
      onTravel p (TravelUnit.pushed moved) s := by
    simp [onTravel_eq, TravelUnit.pushed, h]
  rw [pushEdge, if_pos ((reverses_iff _ _).mp h), onTravel_onOpen, onTravel_onTravel, moves]

/-- A push edge that does not reverse moves the travel unit alone. -/
theorem pushEdge_of_not_reverses {moved : Nat} (h : (s.port p).travel.reverses moved = false) :
    pushEdge p moved s = onTravel p (TravelUnit.pushed moved) s := by
  have stays : ¬ (Config.reversalTravel < (s.port p).travel.pushAcc + moved ∧
      (s.port p).travel.reversalMark = false) := by simp [← reverses_iff, h]
  rw [pushEdge, if_neg stays]
  simp [onTravel_eq, TravelUnit.pushed, h]

/-- All a push edge does: the travel unit moves, and where it reverses the open record counts it. -/
theorem pushEdge_frame (moved : Nat) :
    (pushEdge p moved s).port p = { s.port p with travel := (s.port p).travel.pushed moved } ∧
    SameOthers p s (pushEdge p moved s) ∧ (pushEdge p moved s).link = s.link ∧ (pushEdge p moved s).now = s.now ∧
    (pushEdge p moved s).pending = s.pending ∧ (pushEdge p moved s).readyRecords = s.readyRecords ∧
    (pushEdge p moved s).openRecords p =
      (s.openRecords p).map (fun r => if (s.port p).travel.reverses moved then r.countReversal else r) := by
  cases h : (s.port p).travel.reverses moved with
  | true =>
    rw [pushEdge_of_reverses h]
    exact ⟨onTravel_port_same _, fun q hq => onTravel_port_ne _ hq, rfl, rfl, rfl, onOpen_readyRecords,
      onOpen_openRecords fun _ => rfl⟩
  | false =>
    rw [pushEdge_of_not_reverses h]
    exact ⟨onTravel_port_same _, fun q hq => onTravel_port_ne _ hq, rfl, rfl, rfl, rfl, (List.map_id _).symm⟩

/-- Settles O43: a pull edge by where the raw position stands to the low-water mark and to the next grid point, a push
edge by whether it reverses. -/
theorem gridAndReversals : Obligations.GridAndReversals := by
  intro s p e g low hacquiring hgrid hlow b u pos
  rw [countedEdge_acquiring hacquiring]
  have cleared : (onTravel p TravelUnit.pulled s).port p = { b with travel := u } := onTravel_port_same _
  have hgrid' : ((onTravel p TravelUnit.pulled s).port p).travel.grid = some g := by rw [cleared]; exact hgrid
  have hlow' : ((onTravel p TravelUnit.pulled s).port p).travel.low = some low := by rw [cleared]; exact hlow
  refine ⟨fun hpull habove => ?_, fun hpull hbelow hpos => ?_, fun hpull hbelow hreach hpos => ?_, fun hpush => ?_⟩
  case refine_1 =>
    rw [acquiringEdge_pull hpull, passLowWater_above hgrid' hlow' (by rwa [cleared])]
    rfl
  case refine_2 =>
    have short : ¬ (u.raw ≤ pos ∧ pos < low) := by omega
    rw [acquiringEdge_pull hpull, passLowWater_lowers hgrid' hlow' (by rwa [cleared]) (by rwa [cleared, onTravel_working]),
      onTravel_onTravel]
    rfl
  case refine_3 =>
    have reached : u.raw ≤ pos ∧ pos < low := ⟨hreach, hpos⟩
    rw [acquiringEdge_pull hpull, passLowWater_fires hgrid' hlow' (by rwa [cleared]) (by rwa [cleared, onTravel_working]),
      onTravel_working, onTravel_onTravel]
    rfl
  case refine_4 =>
    rw [acquiringEdge_push hpush]
    exact pushEdge_frame e.moved

end Sys2Proof.Machine

/-! PROOFS. The detector's window on a scan (R95 to R99) and the measures of a closed window (R102 to R106). -/

namespace Sys2Proof.Machine

/-! ### The detector on a scan (R95 to R99) -/

section DetectorScan

variable {cfg : DetectFields} {pt : Point} {saturated : Bool} {d e : Detector} {w : Option ClosedWindow}

/-- Outside an open window the miss mark leaves no trace (R99). -/
theorem Detector.applyMiss_of_not_opened (h : d.state ≠ .opened) : d.applyMiss = { d with miss := false } := by
  simp [Detector.applyMiss, h]

/-- The miss mark makes the window that is open GAPPED (R99). -/
theorem Detector.applyMiss_opened (h : d.state = .opened) :
    d.applyMiss = { d with gapped := d.gapped || d.miss, miss := false } := by
  simp [Detector.applyMiss, h]

/-- A scan's work is the window step, and then the miss mark. -/
theorem Detector.scan_of_window (h : d.window cfg pt saturated = (e, w)) :
    d.scan cfg pt saturated = (e.applyMiss, w) := by
  rw [Detector.scan, h]

/-- In IDLE a scan below T_open is left alone (R95). -/
theorem Detector.window_idle_below (hs : d.state = .idle) (h : pt.y.natAbs < cfg.tOpen) :
    d.window cfg pt saturated = (d, none) := by
  simp only [Detector.window, hs, if_neg (Nat.not_le.mpr h)]

/-- In IDLE a scan at T_open opens a window (R95). -/
theorem Detector.window_idle_opens (hs : d.state = .idle) (h : cfg.tOpen ≤ pt.y.natAbs) :
    d.window cfg pt saturated = (d.openWindow pt saturated, none) := by
  simp only [Detector.window, hs, if_pos h]

/-- In BLOCKED a scan is held against the close run alone (R98). -/
theorem Detector.window_blocked (hs : d.state = .blocked) :
    d.window cfg pt saturated = (d.blockedScan cfg pt, none) := by
  simp only [Detector.window, hs]

/-- The Q_close-th quiet scan closes the open window (R97). -/
theorem Detector.window_closes (hs : d.state = .opened) (hq : cfg.qClose ≤ (d.extend cfg pt saturated).closeRun) :
    d.window cfg pt saturated =
      ((d.extend cfg pt saturated).afterClose .idle, some ((d.extend cfg pt saturated).close pt false false)) := by
  simp only [Detector.window, hs, if_pos hq]

/-- The L_max-th scan closes the open window as LONG, where the quiet scans do not (R98). -/
theorem Detector.window_closes_long (hs : d.state = .opened) (hq : (d.extend cfg pt saturated).closeRun < cfg.qClose)
    (hl : cfg.lMax ≤ (d.extend cfg pt saturated).length) :
    d.window cfg pt saturated =
      ((d.extend cfg pt saturated).afterClose .blocked, some ((d.extend cfg pt saturated).close pt true false)) := by
  simp only [Detector.window, hs, if_neg (Nat.not_le.mpr hq), if_pos hl]

/-- Any other scan stays in the open window (R96). -/
theorem Detector.window_stays (hs : d.state = .opened) (hq : (d.extend cfg pt saturated).closeRun < cfg.qClose)
    (hl : (d.extend cfg pt saturated).length < cfg.lMax) :
    d.window cfg pt saturated = (d.extend cfg pt saturated, none) := by
  simp only [Detector.window, hs, if_neg (Nat.not_le.mpr hq), if_neg (Nat.not_le.mpr hl)]

/-- The run of quiet scans after a scan. -/
def Detector.runAfter (cfg : DetectFields) (pt : Point) (d : Detector) : Nat :=
  if pt.y.natAbs < cfg.tClose then d.closeRun + 1 else 0

/-- The Q_close-th quiet scan frees a BLOCKED detector (R98). -/
theorem Detector.blockedScan_frees (h : pt.y.natAbs < cfg.tClose ∧ cfg.qClose ≤ d.runAfter cfg pt) :
    d.blockedScan cfg pt = { d with state := .idle, closeRun := 0 } := by
  obtain ⟨hquiet, hrun⟩ := h
  rw [Detector.runAfter, if_pos hquiet] at hrun
  rw [Detector.blockedScan, if_pos hquiet, if_pos hrun]

/-- Any other scan leaves the detector BLOCKED, with its close run set (R98). -/
theorem Detector.blockedScan_stays (h : ¬ (pt.y.natAbs < cfg.tClose ∧ cfg.qClose ≤ d.runAfter cfg pt)) :
    d.blockedScan cfg pt = { d with closeRun := d.runAfter cfg pt } := by
  rw [Detector.blockedScan]
  split
  next hquiet =>
    rw [Detector.runAfter, if_pos hquiet] at h ⊢
    exact if_neg fun hrun => h ⟨hquiet, hrun⟩
  next hloud => rw [Detector.runAfter, if_neg hloud]

/-- A scan added to an open window replaces an extreme that it exceeds (R96). -/
theorem Detector.extend_eq {h l : Point} (hh : d.high = some h) (hl : d.low = some l) :
    d.extend cfg pt saturated =
      { d with
        length := d.length + 1, high := some (if h.y < pt.y then pt else h), low := some (if pt.y < l.y then pt else l),
        closeRun := d.runAfter cfg pt, saturated := d.saturated || saturated } := by
  simp only [Detector.extend, hh, hl, Option.getD_some, apply_ite some, Detector.runAfter]

/-- A detector whose window has closed is cleared, but for its state: the miss mark finds no open window (R97, R99). -/
theorem Detector.afterClose_applyMiss {state : DetectorState} (h : state ≠ .opened) :
    (d.afterClose state).applyMiss = { Detector.clear with state := state } := by
  rw [Detector.applyMiss_of_not_opened (by exact h)]
  rfl

end DetectorScan

/-- Settles O38, by the state of the detector, and in an open window by the close run and then the length. -/
theorem detectorWindows : Obligations.DetectorWindows := by
  intro cfg pt saturated d
  refine ⟨fun hs hbelow => ?_, fun hs hreach => ?_, fun hs => ?_, fun h l hs hh hl => ?_⟩
  case refine_1 =>
    rw [Detector.scan_of_window (Detector.window_idle_below hs hbelow),
      Detector.applyMiss_of_not_opened (by simp [hs])]
  case refine_2 =>
    rw [Detector.scan_of_window (Detector.window_idle_opens hs hreach), Detector.applyMiss_opened rfl]
    simp [Detector.openWindow]
  case refine_3 =>
    intro run
    rw [Detector.scan_of_window (Detector.window_blocked hs)]
    by_cases hfree : pt.y.natAbs < cfg.tClose ∧ cfg.qClose ≤ d.runAfter cfg pt
    · rw [Detector.blockedScan_frees hfree, Detector.applyMiss_of_not_opened (by simp)]
      exact congrArg (·, none) (if_pos hfree).symm
    · rw [Detector.blockedScan_stays hfree, Detector.applyMiss_of_not_opened (by simp [hs])]
      exact congrArg (·, none) (if_neg hfree).symm
  case refine_4 =>
    have extended := Detector.extend_eq (cfg := cfg) (pt := pt) (saturated := saturated) hh hl
    refine ⟨fun hq => ?_, fun hq hlong => ?_, fun hq hshort => ?_⟩
    · rw [Detector.scan_of_window (Detector.window_closes hs (by rwa [extended])),
        Detector.afterClose_applyMiss (by decide), extended]
      rfl
    · rw [Detector.scan_of_window (Detector.window_closes_long hs (by rwa [extended]) (by rwa [extended])),
        Detector.afterClose_applyMiss (by decide), extended]
      rfl
    · rw [Detector.scan_of_window (Detector.window_stays hs (by rwa [extended]) (by rwa [extended])), extended,
        Detector.applyMiss_opened (by exact hs), hs]
      rfl

/-! ### The amplitude (R103) -/

/-- The square root by its bits is `Nat.sqrt`, once it lies within the bits still to be tried. -/
theorem isqrtBits_eq_sqrt (n : Nat) : ∀ k r : Nat, r ≤ n.sqrt → n.sqrt < r + 2 ^ k → isqrtBits n k r = n.sqrt
  | 0, r, hlow, hhigh => by
    rw [isqrtBits]
    omega
  | k + 1, r, hlow, hhigh => by
    have halves : 2 ^ (k + 1) = 2 ^ k + 2 ^ k := by rw [pow_succ, mul_two]
    rw [isqrtBits]
    split
    next hbit => exact isqrtBits_eq_sqrt n k _ (Nat.le_sqrt.mpr hbit) (by omega)
    next hbit => exact isqrtBits_eq_sqrt n k r hlow (Nat.lt_of_not_le fun h => hbit (Nat.le_sqrt.mp h))

/-- Below 2^48 the integer square root is `Nat.sqrt`. -/
theorem isqrt_eq_sqrt {n : Nat} (h : n < 2 ^ 48) : isqrt n = n.sqrt :=
  isqrtBits_eq_sqrt n 24 0 (Nat.zero_le _) (by rw [Nat.sqrt_lt]; omega)

/-- The sum of the squares of a vector, formed over the naturals. -/
theorem sumSquares_eq_natAbs (dx dy : Int) :
    dx * dx + dy * dy = ((dx.natAbs * dx.natAbs + dy.natAbs * dy.natAbs : Nat) : Int) := by
  rw [Nat.cast_add, Int.natAbs_mul_self, Int.natAbs_mul_self]

/-- A vector between two scans has a sum of squares of at most 8,589,672,450. -/
theorem sumSquares_le {a b : Nat} (ha : a ≤ 65535) (hb : b ≤ 65535) : a * a + b * b ≤ 8589672450 := by
  have := Nat.mul_le_mul ha ha
  have := Nat.mul_le_mul hb hb
  omega

/-- The amplitude of a vector between two scans is the square root of its sum of squares. -/
theorem amplitudeOf_eq_sqrt {dx dy : Int} (hx : dx.natAbs ≤ 65535) (hy : dy.natAbs ≤ 65535) :
    amplitudeOf dx dy = (dx.natAbs * dx.natAbs + dy.natAbs * dy.natAbs).sqrt := by
  have hsum := sumSquares_le hx hy
  rw [amplitudeOf, sumSquares_eq_natAbs, Int.toNat_natCast, isqrt_eq_sqrt (by omega)]

/-- R103 in full: the largest integer whose square does not exceed the sum of squares, and its bounds. -/
theorem amplitudeOf_spec {dx dy : Int} (hx : dx.natAbs ≤ 65535) (hy : dy.natAbs ≤ 65535) :
    (amplitudeOf dx dy : Int) * amplitudeOf dx dy ≤ dx * dx + dy * dy ∧
    dx * dx + dy * dy < ((amplitudeOf dx dy : Int) + 1) * (amplitudeOf dx dy + 1) ∧
    dx * dx + dy * dy ≤ 8589672450 ∧ amplitudeOf dx dy ≤ 92680 ∧ (dx = 0 → dy = 0 → amplitudeOf dx dy = 0) := by
  have hsum := sumSquares_le hx hy
  rw [amplitudeOf_eq_sqrt hx hy, sumSquares_eq_natAbs]
  refine ⟨mod_cast Nat.sqrt_le _, mod_cast Nat.lt_succ_sqrt _, mod_cast hsum, ?_, ?_⟩
  · exact Nat.le_of_lt_succ (Nat.sqrt_lt.mpr (by omega))
  · rintro rfl rfl
    simp

/-! ### The vector and the position (R102, R106) -/

section Measures

variable {w : ClosedWindow} {a z : Point}

/-- The extremes stand in the order of their scan sequence numbers (R102). -/
theorem ClosedWindow.first_second_of_lt (hw : (a = w.low ∧ z = w.high) ∨ (a = w.high ∧ z = w.low))
    (h : a.seqNo.toNat < z.seqNo.toNat) : w.first = a ∧ w.second = z := by
  rcases hw with ⟨rfl, rfl⟩ | ⟨rfl, rfl⟩
  · exact ⟨if_pos h, if_pos h⟩
  · exact ⟨if_neg (Nat.lt_asymm h), if_neg (Nat.lt_asymm h)⟩

/-- Extremes of one scan are that scan. -/
theorem ClosedWindow.first_second_of_eq (h : w.high = w.low) : w.first = w.high ∧ w.second = w.high := by
  simp [ClosedWindow.first, ClosedWindow.second, h]

/-- The vector, its phase and the position, from the first extreme and the second. -/
theorem ClosedWindow.measures_eq (h : w.first = a ∧ w.second = z) :
    w.dx = z.x - a.x ∧ w.dy = z.y - a.y ∧ w.phase = phaseOf (z.x - a.x) (z.y - a.y) ∧
      w.pos = min 300000 ((a.pos + z.pos) / 2).toNat := by
  obtain ⟨rfl, rfl⟩ := h
  exact ⟨rfl, rfl, rfl, rfl⟩

end Measures

/-! ### The depth (R105) -/

section Depth

variable {e f : CurvePoint} {rest : List CurvePoint} {p d : Nat}

/-- The phase from one point of the curve to the next. -/
def phaseSpan (e f : CurvePoint) : Int := (f.phase : Int) - e.phase

/-- The depth on the line from one point of the curve to the next, times their span. -/
def scaledDepth (e f : CurvePoint) (p : Nat) : Int :=
  e.depth * phaseSpan e f + ((f.depth : Int) - e.depth) * ((p : Int) - e.phase)

/-- `d` is the depth on the line from `e` to `f`, rounded to the nearest with an exact half upward (R105). -/
def InterpolatesDepth (e f : CurvePoint) (p d : Nat) : Prop :=
  2 * phaseSpan e f * d ≤ 2 * scaledDepth e f p + phaseSpan e f ∧
    2 * scaledDepth e f p + phaseSpan e f < 2 * phaseSpan e f * (d + 1)

/-- The span between points in the order of the curve is positive. -/
theorem phaseSpan_pos (h : e.phase < f.phase) : 0 < phaseSpan e f := by
  rw [phaseSpan]
  omega

/-- Between its two points the line is a mean of their depths with weights that are not negative. -/
theorem scaledDepth_nonneg (he : e.phase ≤ p) (hf : p ≤ f.phase) : 0 ≤ scaledDepth e f p := by
  have mean : scaledDepth e f p = e.depth * ((f.phase : Int) - p) + f.depth * ((p : Int) - e.phase) := by
    rw [scaledDepth, phaseSpan]
    ring
  have left : (0 : Int) ≤ e.depth * ((f.phase : Int) - p) := mul_nonneg (by omega) (by omega)
  have right : (0 : Int) ≤ f.depth * ((p : Int) - e.phase) := mul_nonneg (by omega) (by omega)
  omega

/-- Where the line passes through a whole depth, that depth interpolates. -/
theorem interpolatesDepth_of_through (h : e.phase < f.phase) (through : scaledDepth e f p = d * phaseSpan e f) :
    InterpolatesDepth e f p d := by
  have hspan := phaseSpan_pos h
  rw [InterpolatesDepth, through]
  constructor <;> linarith

/-- The line passes through its first point. -/
theorem interpolatesDepth_first (h : e.phase < f.phase) : InterpolatesDepth e f e.phase e.depth :=
  interpolatesDepth_of_through h (by simp [scaledDepth])

/-- The line passes through its second point. -/
theorem interpolatesDepth_second (h : e.phase < f.phase) : InterpolatesDepth e f f.phase f.depth :=
  interpolatesDepth_of_through h (by rw [scaledDepth, phaseSpan]; ring)

/-- Between two points of the curve the model's quotient is the one depth that interpolates. -/
theorem interpolatesDepth_iff (h : e.phase < f.phase) (he : e.phase ≤ p) (hf : p ≤ f.phase) :
    InterpolatesDepth e f p d ↔ ((2 * scaledDepth e f p + phaseSpan e f) / (2 * phaseSpan e f)).toNat = d := by
  have hspan := phaseSpan_pos h
  have hdepth := scaledDepth_nonneg he hf
  have quotient_nonneg : 0 ≤ (2 * scaledDepth e f p + phaseSpan e f) / (2 * phaseSpan e f) :=
    Int.ediv_nonneg (by omega) (by omega)
  calc InterpolatesDepth e f p d
      ↔ (2 * scaledDepth e f p + phaseSpan e f) / (2 * phaseSpan e f) = d := by
        rw [InterpolatesDepth, mul_add, mul_one, mul_comm _ (d : Int), Int.ediv_eq_iff_of_pos (by omega)]
    _ ↔ _ := by omega

/-- Up to the next point the depth after a point is the quotient on the line between them. -/
theorem depthAfter_cons_of_le (hf : p ≤ f.phase) : depthAfter p e (f :: rest) =
    ((2 * scaledDepth e f p + phaseSpan e f) / (2 * phaseSpan e f)).toNat := if_pos hf

/-- Beyond the next point the curve is read from that point on. -/
theorem depthAfter_cons_of_lt (hf : f.phase < p) : depthAfter p e (f :: rest) = depthAfter p f rest :=
  if_neg (Nat.not_le.mpr hf)

/-- Up to the first point the depth is that point's. -/
theorem depthOf_cons_of_le (h : p ≤ e.phase) : depthOf (e :: rest) p = some e.depth := congrArg some (if_pos h)

/-- Beyond the first point the curve is read from that point on. -/
theorem depthOf_cons_of_lt (h : e.phase < p) : depthOf (e :: rest) p = some (depthAfter p e rest) :=
  congrArg some (if_neg (Nat.not_le.mpr h))

/-- Between its first two points the curve is the line between them. -/
theorem depthOf_interpolates (h : e.phase < f.phase) (he : e.phase ≤ p) (hf : p ≤ f.phase) :
    ∃ d, depthOf (e :: f :: rest) p = some d ∧ InterpolatesDepth e f p d := by
  rcases he.eq_or_lt with rfl | hlt
  · exact ⟨_, depthOf_cons_of_le le_rfl, interpolatesDepth_first h⟩
  · refine ⟨_, depthOf_cons_of_lt hlt, ?_⟩
    rw [interpolatesDepth_iff h he hf, depthAfter_cons_of_le hf]

/-- From the second point on the first point has no part in the depth: at the second point both of its lines meet. -/
theorem depthOf_cons_cons (h : e.phase < f.phase) (hf : f.phase ≤ p) :
    depthOf (e :: f :: rest) p = depthOf (f :: rest) p := by
  rw [depthOf_cons_of_lt (h.trans_le hf)]
  rcases hf.eq_or_lt with rfl | hlt
  · rw [depthAfter_cons_of_le le_rfl, depthOf_cons_of_le le_rfl,
      (interpolatesDepth_iff h h.le le_rfl).mp (interpolatesDepth_second h)]
  · rw [depthAfter_cons_of_lt hlt, depthOf_cons_of_lt hlt]

/-- From a point on, the points before it have no part in the depth. -/
theorem depthOf_append (hp : e.phase ≤ p) (before : List CurvePoint)
    (hcurve : (before ++ e :: rest).Pairwise (·.phase < ·.phase)) :
    depthOf (before ++ e :: rest) p = depthOf (e :: rest) p := by
  induction before with
  | nil => rfl
  | cons a before ih =>
    obtain ⟨first, others⟩ := List.pairwise_cons.mp hcurve
    rw [← ih others]
    cases before with
    | nil => exact depthOf_cons_cons (first e (by simp)) hp
    | cons b before =>
      have hbe : b.phase < e.phase := (List.pairwise_cons.mp others).1 e (by simp)
      exact depthOf_cons_cons (first b (by simp)) (hbe.le.trans hp)

/-- A curve split before two neighbouring points. -/
theorem eq_append_of_neighbours {curve : List CurvePoint} {k : Nat} (he : curve[k]? = some e)
    (hf : curve[k + 1]? = some f) : ∃ before rest, curve = before ++ e :: f :: rest := by
  obtain ⟨hk, rfl⟩ := List.getElem?_eq_some_iff.mp he
  obtain ⟨hk1, rfl⟩ := List.getElem?_eq_some_iff.mp hf
  refine ⟨curve.take k, curve.drop (k + 2), ?_⟩
  rw [List.getElem_cons_drop, List.getElem_cons_drop, List.take_append_drop]

end Depth

/-- Settles O30: the amplitude from its square root, the vector and the position from the order of the extremes, and the
depth by cutting the curve before the points it is read from. -/
theorem windowMeasured : Obligations.WindowMeasured := by
  refine ⟨fun w hx hy => amplitudeOf_spec hx hy,
    fun w a z hw h => ClosedWindow.measures_eq (ClosedWindow.first_second_of_lt hw h), fun w h => ?_,
    fun curve p hcurve => ⟨fun hnil => ?_, fun e hhead hp => ?_, fun e hlast hp => ?_, fun k e f he hf hep hpf => ?_⟩⟩
  case refine_1 =>
    obtain ⟨hdx, hdy, hphase, hpos⟩ := ClosedWindow.measures_eq (ClosedWindow.first_second_of_eq h)
    rw [hdx, hdy, hphase, hpos, sub_self, sub_self, ← two_mul, Int.mul_ediv_cancel_left _ two_ne_zero]
    exact ⟨rfl, rfl, rfl, rfl⟩
  case refine_2 => rw [hnil, depthOf]
  case refine_3 =>
    obtain ⟨rest, rfl⟩ := List.head?_eq_some_iff.mp hhead
    exact depthOf_cons_of_le hp
  case refine_4 =>
    obtain ⟨before, rfl⟩ := List.getLast?_eq_some_iff.mp hlast
    rw [depthOf_append hp before (List.pairwise_map.mp hcurve)]
    rcases hp.eq_or_lt with rfl | hlt
    · exact depthOf_cons_of_le le_rfl
    · exact depthOf_cons_of_lt hlt
  case refine_5 =>
    obtain ⟨before, rest, rfl⟩ := eq_append_of_neighbours he hf
    have sorted := List.pairwise_map.mp hcurve
    have neighbours : e.phase < f.phase :=
      (List.pairwise_cons.mp (List.pairwise_append.mp sorted).2.1).1 f (by simp)
    rw [depthOf_append hep before sorted]
    exact depthOf_interpolates neighbours hep hpf

end Sys2Proof.Machine

/-! PROOFS. The indications and the gaps of a record (R139 to R141). -/

namespace Sys2Proof.Machine

variable {r : Record}

/-! ### The indication list (R139, R140) -/

/-- In a list in order every entry after those at or above a position lies below it. -/
theorem pos_lt_of_mem_dropWhile {l : List Indication} {pos : Nat} (hl : l.Pairwise fun a b => b.pos ≤ a.pos) :
    ∀ x ∈ l.dropWhile (fun e => decide (pos ≤ e.pos)), x.pos < pos := by
  induction l with
  | nil => exact nofun
  | cons e rest ih =>
    obtain ⟨first, others⟩ := List.pairwise_cons.mp hl
    by_cases h : pos ≤ e.pos
    · rw [List.dropWhile_cons_of_pos (by simpa using h)]
      exact ih others
    · rw [List.dropWhile_cons_of_neg (by simpa using h)]
      intro x hx
      rcases List.mem_cons.mp hx with rfl | hx
      · omega
      · have := first x hx
        omega

/-- The entries that stand before a placed indication lie at or above its position. -/
theorem pos_le_of_mem_takeWhile {l : List Indication} {pos : Nat} {x : Indication}
    (hx : x ∈ l.takeWhile fun e => decide (pos ≤ e.pos)) : pos ≤ x.pos := by
  simpa using List.mem_takeWhile_imp hx

/-- The smallest amplitude is at most the start value and at most every entry's. -/
theorem smallestAmplitude_le (m : Nat) (l : List Indication) :
    smallestAmplitude m l ≤ m ∧ ∀ x ∈ l, smallestAmplitude m l ≤ x.amplitude := by
  induction l generalizing m with
  | nil => exact ⟨le_rfl, nofun⟩
  | cons e rest ih =>
    obtain ⟨start, others⟩ := ih (min m e.amplitude)
    exact ⟨start.trans (min_le_left ..), List.forall_mem_cons.mpr ⟨start.trans (min_le_right ..), others⟩⟩

/-- The smallest amplitude is the start value or some entry's. -/
theorem smallestAmplitude_attained (m : Nat) (l : List Indication) :
    smallestAmplitude m l = m ∨ ∃ x ∈ l, x.amplitude = smallestAmplitude m l := by
  induction l generalizing m with
  | nil => exact .inl rfl
  | cons e rest ih =>
    rw [smallestAmplitude]
    rcases ih (min m e.amplitude) with h | ⟨x, hx, h⟩
    · rcases min_choice m e.amplitude with hm | hm
      · exact .inl (h.trans hm)
      · exact .inr ⟨e, List.mem_cons_self, (h.trans hm).symm⟩
    · exact .inr ⟨x, List.mem_cons_of_mem _ hx, h⟩

/-- The list without its last entry of an amplitude that it holds. -/
theorem dropLastOf_spec {m : Nat} {l : List Indication} (h : ∃ x ∈ l, x.amplitude = m) :
    ∃ before e after, l = before ++ e :: after ∧ e.amplitude = m ∧ (∀ x ∈ after, x.amplitude ≠ m) ∧
      dropLastOf m l = before ++ after := by
  obtain ⟨x, hx, hm⟩ := h
  obtain ⟨e, after, before, hafter, he, hl, hdrop⟩ :=
    List.exists_of_eraseP (p := fun e : Indication => decide (e.amplitude = m)) (List.mem_reverse.mpr hx)
      (by simpa using hm)
  refine ⟨before.reverse, e, after.reverse, ?_, by simpa using he, fun x hx => ?_, ?_⟩
  · rw [← List.reverse_reverse l, hl]
    simp
  · simpa using hafter x (List.mem_reverse.mp hx)
  · rw [dropLastOf, hdrop, List.reverse_append]

/-- With room in the list the indication is placed. -/
theorem addIndication_room {i : Indication} (h : r.indications.length < Config.indicationEntries) :
    r.addIndication i = { r with indications := placeIndication i r.indications } := if_pos h

/-- At a full list the overflow count rises, and the last entry of smallest amplitude gives way to a greater one. -/
theorem addIndication_full {i first : Indication} {rest : List Indication} (hl : r.indications = first :: rest)
    (h : ¬ r.indications.length < Config.indicationEntries) : r.addIndication i = { r with
      counters := { r.counters with overflow := r.counters.overflow + 1 }
      indications := if smallestAmplitude first.amplitude rest < i.amplitude then
          placeIndication i (dropLastOf (smallestAmplitude first.amplitude rest) r.indications)
        else r.indications } := by
  rw [Record.addIndication, if_neg h]
  simp only [hl]

/-- The list without its last entry of smallest amplitude: that amplitude is least, and less than that of every entry
after it. -/
theorem dropLastOf_smallest (first : Indication) (rest : List Indication) :
    ∃ before e after, first :: rest = before ++ e :: after ∧ e.amplitude = smallestAmplitude first.amplitude rest ∧
      (∀ x ∈ first :: rest, e.amplitude ≤ x.amplitude) ∧ (∀ x ∈ after, e.amplitude < x.amplitude) ∧
      dropLastOf (smallestAmplitude first.amplitude rest) (first :: rest) = before ++ after := by
  have attained : ∃ x ∈ first :: rest, x.amplitude = smallestAmplitude first.amplitude rest := by
    rcases smallestAmplitude_attained first.amplitude rest with h | ⟨x, hx, h⟩
    · exact ⟨first, List.mem_cons_self, h.symm⟩
    · exact ⟨x, List.mem_cons_of_mem _ hx, h⟩
  obtain ⟨before, e, after, hl, he, hne, hdrop⟩ := dropLastOf_spec attained
  have least : ∀ x ∈ first :: rest, e.amplitude ≤ x.amplitude := by
    rw [he]
    exact List.forall_mem_cons.mpr (smallestAmplitude_le first.amplitude rest)
  refine ⟨before, e, after, hl, he, least, fun x hx => ?_, hdrop⟩
  have hmem : x ∈ first :: rest := by rw [hl]; exact List.mem_append_right _ (List.mem_cons_of_mem _ hx)
  exact lt_of_le_of_ne (least x hmem) fun h => hne x hx (h.symm.trans he)

/-! ### The gap list (R141) -/

/-- A merge changes the last gap alone. -/
theorem mergeLast_append (g last : Gap) (before : List Gap) :
    mergeLast g (before ++ [last]) = before ++ [last.merge g] := by
  induction before with
  | nil => rfl
  | cons e rest ih =>
    cases rest with
    | nil => rfl
    | cons f rest => exact congrArg (e :: ·) ih

/-- With room in the list the gap is appended. -/
theorem addGap_room {g : Gap} (h : r.gaps.length < Config.gapEntries) :
    r.addGap g = { r with gaps := r.gaps ++ [g] } := if_pos h

/-- At a full list the gap is merged into the last one. -/
theorem addGap_full {g last : Gap} {before : List Gap} (hl : r.gaps = before ++ [last])
    (h : ¬ r.gaps.length < Config.gapEntries) : r.addGap g =
      { r with gaps := before ++ [last.merge g], flags := { r.flags with gapsMerged := true } } := by
  rw [Record.addGap, if_neg h, hl, mergeLast_append]

/-- Settles O29, by whether the list has room. -/
theorem recordListsTake : Obligations.RecordListsTake := by
  refine ⟨fun r i hroom hsorted => ?_, fun r i hfull => ?_,
    fun r g => ⟨addGap_room, fun before last hl hfull => addGap_full hl (Nat.not_lt.mpr hfull)⟩⟩
  case refine_1 =>
    rw [addIndication_room hroom]
    refine ⟨_, _, List.takeWhile_append_dropWhile.symm, by rw [placeIndication_spec],
      fun e he => pos_le_of_mem_takeWhile he, pos_lt_of_mem_dropWhile hsorted, placeIndication_pairwise i hsorted⟩
  case refine_2 =>
    obtain ⟨first, rest, hl⟩ := List.exists_cons_of_length_eq_add_one hfull
    obtain ⟨before, e, after, hsplit, he, least, later, hdrop⟩ := dropLastOf_smallest first rest
    have added := addIndication_full (i := i) hl (Nat.not_lt.mpr hfull.ge)
    rw [hl, hdrop, ← he] at added
    rw [hl]
    refine ⟨before, e, after, hsplit, least, later, added, ?_⟩
    rw [added]
    have hlength : before.length + after.length + 1 = 64 := by
      rw [← hfull, hl, hsplit]; simp; omega
    dsimp only
    split
    · rw [placeIndication_length, List.length_append, hlength]
    · rw [← hl, hfull]

end Sys2Proof.Machine

/-! PROOFS. Requests taken and answered, the slots of the record pool, and RECORD_RELEASE (R148). -/

namespace Sys2Proof.Machine

variable {s : State} {r : Record}

/-! ### Requests taken and answered -/

/-- A request that was taken changes the request buffer alone. -/
theorem Readied.sameBlocks {s' : State} {k : RequestKind} {tag port : Byte} {place : Nat}
    (hr : Readied s s' k tag port place) : SameBlocks s s' := by
  obtain ⟨b, rfl, -⟩ := hr
  exact ⟨rfl, rfl, rfl, rfl⟩

/-- What is raised once a request was taken is raised. -/
theorem Readied.raised {s' t : State} {k : RequestKind} {tag port : Byte} {place : Nat} {rs : List Report}
    (hr : Readied s s' k tag port place) (h : Raised s' t rs) : Raised s t rs := by
  obtain ⟨b, rfl, -⟩ := hr
  exact h

/-- A request that was taken and is answered after work that may raise reports and makes no reply. -/
theorem Readied.answer_after {s' u : State} {k : RequestKind} {tag port : Byte} {place : Nat} (body : ReplyBody)
    (hr : Readied s s' k tag port place) (hbuffer : u.link.buffer = s'.link.buffer)
    (hreplies : u.unsentReplies = s'.unsentReplies) :
    ∃ l, arbitrate (reply place body u) = { u with link := l } ∧
      Answered s (arbitrate (reply place body u)) k tag port body ∧
      (arbitrate (reply place body u)).unsentReports = u.unsentReports := by
  obtain ⟨b, rfl, hfind⟩ := hr
  have replied := reply_eq (s := u) (place := place) body (by rw [hbuffer]; exact hfind) rfl
  have waiting : (reply place body u).link.replies ≠ [] := by simp [replied]
  obtain ⟨l, harb, -, -⟩ := arbitrate_link_only (.inr (.inl waiting))
  refine ⟨l, by rw [harb, replied]; rfl, ⟨place, ?_⟩, ?_⟩
  · rw [arbitrate_unsentReplies, replied]
    exact (List.append_assoc ..).symm.trans (congrArg (· ++ _) hreplies)
  · rw [arbitrate_unsentReports, replied]
    rfl

/-- A request that changes the record store alone and is answered at once. -/
theorem serve_onStore_answer {c : Instr} {k : RequestKind} {tag port : Byte} {serveRequest : Nat → State → State}
    {body : ReplyBody} {f : RecordStore → RecordStore} (ha : Accepts s c k port)
    (hserve : ∀ place s', s'.store = s.store → serveRequest place s' = reply place body (onStore f s')) :
    ∃ t, serve c k tag port serveRequest s = .next t ∧ t.ports = s.ports ∧ t.store = f s.store ∧ t.now = s.now ∧
      t.pending = s.pending ∧ Answered s t k tag port body ∧ t.unsentReports = s.unsentReports ∧
      t.link.deframer = s.link.deframer ∧ t.link.counters = s.link.counters := by
  obtain ⟨place, s', hr, hnext⟩ := serve_spec (tag := tag) serveRequest ha
  obtain ⟨hports, hstore, hnow, hpending⟩ := hr.sameBlocks
  obtain ⟨l, harb, hanswered, hreports⟩ := hr.answer (u := onStore f s') body rfl
  rw [hserve place s' hstore] at hnext
  have ports : (arbitrate (reply place body (onStore f s'))).ports = s.ports := by rw [harb]; exact hports
  refine ⟨_, hnext, ports, by simp [hstore], by simp [hnow], by simp [hpending], hanswered, hreports, ?_⟩
  obtain ⟨b, rfl, -⟩ := hr
  simp

/-- A request that is answered with nothing else done. -/
theorem serve_onlyAnswers {c : Instr} {k : RequestKind} {tag port : Byte} {serveRequest : Nat → State → State}
    {body : ReplyBody} (hexec : exec c s = serve c k tag port serveRequest s) (ha : Accepts s c k port)
    (hserve : ∀ place s', s'.store = s.store → serveRequest place s' = reply place body s') :
    OnlyAnswers s c k tag port body := by
  obtain ⟨t, hnext, hports, hstore, hnow, hpending, hanswered, hreports, hlink⟩ :=
    serve_onStore_answer (tag := tag) (f := id) ha hserve
  exact ⟨t, hexec.trans hnext, ⟨hports, hstore, hnow, hpending⟩, hanswered, hreports, hlink⟩

/-! ### The slots of the pool (R130, R132) -/

/-- A record of the pool stands in a slot of it. -/
theorem mem_records_iff : r ∈ s.records ↔ ∃ slot ∈ s.store.slots, slot.record = some r := List.mem_filterMap

/-- A READY record stands in a READY slot. -/
theorem mem_readyRecords_iff : r ∈ s.readyRecords ↔ .ready r ∈ s.store.slots := by
  rw [State.readyRecords, List.mem_filterMap]
  constructor
  · rintro ⟨slot, hslot, h⟩
    cases slot with
    | free => cases h
    | opened _ => cases h
    | ready _ => cases h; exact hslot
  · exact fun h => ⟨_, h, rfl⟩

/-- The slot found for a number is told by the record store alone. -/
theorem slotOf_congr {s' : State} (h : s'.store = s.store) (n : Nat) : slotOf s' n = slotOf s n := by
  rw [slotOf, slotOf, h]

/-- The slot found for a number holds a record of that number. -/
theorem slotOf_some {n : Nat} {slot : RecordSlot} (h : slotOf s n = some slot) :
    slot ∈ s.store.slots ∧ ∃ r, slot.record = some r ∧ r.number = n := by
  refine ⟨List.mem_of_find?_eq_some h, ?_⟩
  have holds := List.find?_some h
  cases slot with
  | free => cases holds
  | opened r => exact ⟨r, rfl, beq_iff_eq.mp holds⟩
  | ready r => exact ⟨r, rfl, beq_iff_eq.mp holds⟩

/-- Where no record of the pool has a number, no slot is found for it. -/
theorem slotOf_none {n : Nat} (h : ∀ r ∈ s.records, r.number ≠ n) : slotOf s n = none := by
  cases hslot : slotOf s n with
  | none => rfl
  | some slot =>
    obtain ⟨hmem, r, hr, hn⟩ := slotOf_some hslot
    exact absurd hn (h r (mem_records_iff.mpr ⟨slot, hmem, hr⟩))

/-- Two slots of the pool that hold one number are one slot (R130, R132). -/
theorem PoolLaw.slot_unique (hpool : PoolLaw s) {r' : Record} {slot slot' : RecordSlot} (h : slot ∈ s.store.slots)
    (h' : slot' ∈ s.store.slots) (hr : slot.record = some r) (hr' : slot'.record = some r')
    (hn : r'.number = r.number) : slot' = slot := by
  obtain ⟨-, -, nodup, -⟩ := hpool
  have apart := List.pairwise_filterMap.mp (List.pairwise_map.mp nodup)
  have : Std.Symm fun x y : RecordSlot =>
      ∀ a, x.record = some a → ∀ b, y.record = some b → a.number ≠ b.number :=
    ⟨fun _ _ hxy a ha b hb => (hxy b hb a ha).symm⟩
  by_contra hne
  exact apart.forall h' h hne r' hr' r hr hn

/-- The slot of a record of the pool is found for its number. -/
theorem PoolLaw.slotOf_eq (hpool : PoolLaw s) {slot : RecordSlot} (h : slot ∈ s.store.slots)
    (hr : slot.record = some r) : slotOf s r.number = some slot := by
  cases hfound : slotOf s r.number with
  | none =>
    have absent := List.find?_eq_none.mp hfound slot h
    simp [hr] at absent
  | some slot' =>
    obtain ⟨hmem, r', hr', hn⟩ := slotOf_some hfound
    rw [hpool.slot_unique h hmem hr hr' hn]

/-! ### RECORD_RELEASE (R148) -/

/-- A READY record is released. -/
theorem releaseRequest_ready {n : Nat} (place : Nat) (h : slotOf s n = some (.ready r)) :
    releaseRequest n place s = reply place (.done (.released n)) (releaseRecord n s) := by
  simp only [releaseRequest, h, replyDone]

/-- An OPEN record is not released. -/
theorem releaseRequest_opened {n : Nat} (place : Nat) (h : slotOf s n = some (.opened r)) :
    releaseRequest n place s = reply place (.refused .recordOpen none) s := by
  simp only [releaseRequest, h, replyRefused]

/-- Without a record of the number nothing is released. -/
theorem releaseRequest_absent {n : Nat} (place : Nat) (h : slotOf s n = none) :
    releaseRequest n place s = reply place (.refused .noSuchRecord none) s := by
  simp only [releaseRequest, h, replyRefused]

/-- The record pool with the READY record `r` released. -/
def RecordStore.releasing (r : Record) (st : RecordStore) : RecordStore :=
  { st with
    slots := st.slots.map fun slot => if slot = .ready r then .free else slot
    ready := st.ready.filter fun n => n ≠ r.number }

/-- In the pool the release of a READY record's number frees the slot of that record alone. -/
theorem PoolLaw.releaseNumber_eq (hpool : PoolLaw s) (h : .ready r ∈ s.store.slots) {slot : RecordSlot}
    (hslot : slot ∈ s.store.slots) :
    slot.releaseNumber r.number = if slot = .ready r then .free else slot := by
  cases slot with
  | free => rfl
  | opened _ => rfl
  | ready x =>
    by_cases hn : x.number = r.number
    · have one : RecordSlot.ready x = .ready r := hpool.slot_unique h hslot rfl rfl hn
      rw [if_pos one, RecordSlot.releaseNumber, if_pos hn]
    · have other : RecordSlot.ready x ≠ .ready r := by rintro ⟨⟩; exact hn rfl
      rw [if_neg other, RecordSlot.releaseNumber, if_neg hn]

/-- The release of a READY record: its slot is FREE, and its number has left the ready order. -/
theorem PoolLaw.releaseRecord_eq (hpool : PoolLaw s) (h : .ready r ∈ s.store.slots) {s' : State}
    (hstore : s'.store = s.store) : releaseRecord r.number s' = onStore (RecordStore.releasing r) s' := by
  have slots : s'.store.slots.map (RecordSlot.releaseNumber r.number) =
      s'.store.slots.map fun slot => if slot = .ready r then .free else slot := by
    rw [hstore]
    exact List.map_congr_left fun _ hslot => hpool.releaseNumber_eq h hslot
  have ready : (s'.store.ready.filter fun n => n != r.number) = s'.store.ready.filter fun n => n ≠ r.number :=
    List.filter_congr fun n _ => by rw [Bool.eq_iff_iff, bne_iff_ne, decide_eq_true_iff]
  rw [releaseRecord_spec, slots, ready]
  rfl

/-- RECORD_RELEASE of a READY record: the record is released and the request answered. -/
theorem PoolLaw.releaseRequest_eq (hpool : PoolLaw s) (h : .ready r ∈ s.store.slots) {s' : State} (place : Nat)
    (hstore : s'.store = s.store) : releaseRequest r.number place s' =
      reply place (.done (.released r.number)) (onStore (RecordStore.releasing r) s') := by
  have found : slotOf s' r.number = some (.ready r) := (slotOf_congr hstore _).trans (hpool.slotOf_eq h rfl)
  rw [releaseRequest_ready place found, hpool.releaseRecord_eq h hstore]

/-- Settles O28, by the slot found for the number. -/
theorem recordReleaseFrees : Obligations.RecordReleaseFrees := by
  intro s tag port _ hpool
  refine ⟨fun r hr ha => ?_, fun r hr ha => ?_, fun number ha habsent => ?_⟩
  case refine_1 =>
    obtain ⟨t, hnext, hports, hstore, hnow, hpending, hanswered, hreports, -⟩ :=
      serve_onStore_answer (tag := tag) ha fun place s' hstore =>
        hpool.releaseRequest_eq (mem_readyRecords_iff.mp hr) place hstore
    refine ⟨t, hnext, hports, hnow, hpending, ?_, ?_, ?_, hanswered, hreports⟩ <;> rw [hstore] <;> rfl
  case refine_2 =>
    exact serve_onlyAnswers rfl ha fun place s' hstore =>
      releaseRequest_opened place ((slotOf_congr hstore _).trans (hpool.slotOf_eq hr rfl))
  case refine_3 =>
    exact serve_onlyAnswers rfl ha fun place s' hstore =>
      releaseRequest_absent place ((slotOf_congr hstore _).trans (slotOf_none habsent))

end Sys2Proof.Machine

/-! PROOFS. The opening of a tube: the number its record takes (R132), the slot it fills, and the entry to ARMED
(R134, R135). -/

namespace Sys2Proof.Machine

variable {p : PortId} {s : State} {r : Record}

/-! ### The number of the next record (R132) -/

section FreeNumber

variable {slots : List RecordSlot} {n : Nat}

/-- A number is held where a record of the pool has it. -/
theorem numberHeld_iff : numberHeld slots n = true ↔ ∃ r ∈ slots.filterMap RecordSlot.record, r.number = n := by
  simp only [numberHeld, List.any_eq_true, List.mem_filterMap]
  constructor
  · rintro ⟨slot, hslot, holds⟩
    cases slot with
    | free => cases holds
    | opened r => exact ⟨r, ⟨_, hslot, rfl⟩, beq_iff_eq.mp holds⟩
    | ready r => exact ⟨r, ⟨_, hslot, rfl⟩, beq_iff_eq.mp holds⟩
  · rintro ⟨r, ⟨slot, hslot, hr⟩, hn⟩
    exact ⟨slot, hslot, by simp [hr, hn]⟩

/-- The next number lies in the range of record numbers. -/
theorem nextNumber_range (h : 1 ≤ n) : 1 ≤ nextNumber n ∧ nextNumber n ≤ 65535 := by
  unfold nextNumber
  split <;> omega

/-- The numbers from one on run round the range of record numbers. -/
theorem nextNumber_iterate (hlo : 1 ≤ n) (hhi : n ≤ 65535) (k : Nat) : nextNumber^[k] n = (n - 1 + k) % 65535 + 1 := by
  induction k with
  | zero => simp; omega
  | succ k ih =>
    rw [Function.iterate_succ_apply', ih, nextNumber]
    split <;> omega

/-- The number taken lies in the range of record numbers. -/
theorem freeNumber_range (hlo : 1 ≤ n) (hhi : n ≤ 65535) (fuel : Nat) :
    1 ≤ freeNumber slots fuel n ∧ freeNumber slots fuel n ≤ 65535 := by
  induction fuel generalizing n with
  | zero => exact ⟨hlo, hhi⟩
  | succ fuel ih =>
    rw [freeNumber]
    split
    · obtain ⟨hlo', hhi'⟩ := nextNumber_range hlo
      exact ih hlo' hhi'
    · exact ⟨hlo, hhi⟩

/-- The first number tested is taken, or it is held. -/
theorem freeNumber_first (fuel : Nat) : n = freeNumber slots (fuel + 1) n ∨ numberHeld slots n = true := by
  rw [freeNumber]
  split
  next held => exact .inr held
  next => exact .inl rfl

/-- The number taken is not held, unless every number tested is. -/
theorem freeNumber_free {fuel k : Nat} (hk : k < fuel) (hfree : numberHeld slots (nextNumber^[k] n) = false) :
    numberHeld slots (freeNumber slots fuel n) = false := by
  induction fuel generalizing n k with
  | zero => exact absurd hk (Nat.not_lt_zero k)
  | succ fuel ih =>
    rw [freeNumber]
    split
    next held =>
      cases k with
      | zero => exact absurd (held.symm.trans hfree) nofun
      | succ k => exact ih (Nat.lt_of_succ_lt_succ hk) hfree
    next free => simpa using free

/-- Of as many successive numbers as the pool has slots, one is held by no record where a slot is FREE: they are all
different, and the records are fewer. -/
theorem exists_free_number (hlo : 1 ≤ n) (hhi : n ≤ 65535) (hlen : slots.length ≤ 65535) (hfree : .free ∈ slots) :
    ∃ k < slots.length, numberHeld slots (nextNumber^[k] n) = false := by
  by_contra! held
  have nodup : ((List.range slots.length).map fun k => nextNumber^[k] n).Nodup := by
    refine List.nodup_range.map_on fun i hi j hj h => ?_
    rw [nextNumber_iterate hlo hhi, nextNumber_iterate hlo hhi] at h
    rw [List.mem_range] at hi hj
    omega
  have among : ((List.range slots.length).map fun k => nextNumber^[k] n) ⊆
      (slots.filterMap RecordSlot.record).map Record.number := by
    intro m hm
    obtain ⟨k, hk, rfl⟩ := List.mem_map.mp hm
    obtain ⟨r, hr, hn⟩ := numberHeld_iff.mp (Bool.eq_true_of_not_eq_false (held k (List.mem_range.mp hk)))
    exact List.mem_map.mpr ⟨r, hr, hn⟩
  have fewer : (slots.filterMap RecordSlot.record).length < slots.length :=
    List.length_filterMap_lt_length_iff_exists.mpr ⟨_, hfree, rfl⟩
  have atLeast := (nodup.subperm among).length_le
  simp only [List.length_map, List.length_range] at atLeast
  omega

end FreeNumber

/-- With a slot FREE the next record takes a number of the range that no record holds, the counter's own where it is
free. -/
theorem PoolLaw.takeNumber_spec (hpool : PoolLaw s) (hfree : .free ∈ s.store.slots) :
    1 ≤ s.store.takeNumber ∧ s.store.takeNumber ≤ 65535 ∧ (∀ r ∈ s.records, r.number ≠ s.store.takeNumber) ∧
      (s.store.counter = s.store.takeNumber ∨ ∃ r ∈ s.records, r.number = s.store.counter) := by
  obtain ⟨hlen, -, -, -, hlo, hhi, -⟩ := hpool
  obtain ⟨k, hk, hnot⟩ := exists_free_number hlo hhi (by rw [hlen]; decide) hfree
  rw [hlen] at hk
  obtain ⟨hlo', hhi'⟩ := freeNumber_range (slots := s.store.slots) hlo hhi Config.recordSlots
  refine ⟨hlo', hhi', fun r hr hn => ?_, ?_⟩
  · exact absurd ((numberHeld_iff.mpr ⟨r, hr, hn⟩).symm.trans (freeNumber_free hk hnot)) nofun
  · exact (freeNumber_first 11).imp_right numberHeld_iff.mp

/-! ### The slot a record fills -/

section FillFree

variable {slots : List RecordSlot}

/-- A slot that is not FREE is passed over. -/
theorem fillFree_cons_of_ne {slot : RecordSlot} (h : slot ≠ .free) :
    fillFree r (slot :: slots) = slot :: fillFree r slots := by
  cases slot with
  | free => exact absurd rfl h
  | opened _ => rfl
  | ready _ => rfl

/-- A FREE slot becomes OPEN with the record, and the other slots stand. -/
theorem fillFree_eq (h : .free ∈ slots) : ∃ before after,
    slots = before ++ .free :: after ∧ fillFree r slots = before ++ .opened r :: after := by
  induction slots with
  | nil => cases h
  | cons slot rest ih =>
    by_cases hslot : slot = .free
    · subst hslot
      exact ⟨[], rest, rfl, rfl⟩
    · obtain ⟨before, after, hrest, hfill⟩ := ih ((List.mem_cons.mp h).resolve_left (Ne.symm hslot))
      exact ⟨slot :: before, after, by rw [hrest]; rfl, by rw [fillFree_cons_of_ne hslot, hfill]; rfl⟩

/-- What is told neither of the FREE slot nor of the record that fills it is told of the pool as before. -/
theorem filterMap_fillFree_none {f : RecordSlot → Option Record} (hfree : .free ∈ slots) (hf : f .free = none)
    (hr : f (.opened r) = none) : (fillFree r slots).filterMap f = slots.filterMap f := by
  obtain ⟨before, after, hslots, hfill⟩ := fillFree_eq (r := r) hfree
  rw [hfill, hslots, List.filterMap_append, List.filterMap_append, List.filterMap_cons_none hr,
    List.filterMap_cons_none hf]

/-- Where no slot was told of, the record that fills the FREE slot is the one told of. -/
theorem filterMap_fillFree_some {f : RecordSlot → Option Record} (hfree : .free ∈ slots) (hr : f (.opened r) = some r)
    (hnone : slots.filterMap f = []) : (fillFree r slots).filterMap f = [r] := by
  obtain ⟨before, after, hslots, hfill⟩ := fillFree_eq (r := r) hfree
  rw [hslots, List.filterMap_append, List.append_eq_nil_iff] at hnone
  obtain ⟨hbefore, hafter⟩ := hnone
  rw [List.filterMap_cons] at hafter
  rw [hfill, List.filterMap_append, hbefore, List.filterMap_cons_some hr]
  split at hafter
  next => rw [hafter]; rfl
  next => cases hafter

end FillFree

/-- The records of the pool once a port without an open record has opened one. -/
theorem openWith_records {t : State} (hstore : t.store = s.store.openWith r) (hfree : .free ∈ s.store.slots)
    (hnone : s.openRecords r.port = []) :
    t.openRecords r.port = [r] ∧ (∀ q, q ≠ r.port → t.openRecords q = s.openRecords q) ∧
      t.readyRecords = s.readyRecords := by
  have hslots : t.store.slots = fillFree r s.store.slots := by rw [hstore]; rfl
  simp only [State.openRecords, State.readyRecords, hslots]
  exact ⟨filterMap_fillFree_some hfree (if_pos rfl) hnone,
    fun q hq => filterMap_fillFree_none hfree rfl (if_neg hq.symm), filterMap_fillFree_none hfree rfl rfl⟩

/-- A port in IDLE has no open record (R131). -/
theorem PoolLaw.openRecords_nil (hpool : PoolLaw s) (h : s.mode p = .idle) : s.openRecords p = [] := by
  obtain ⟨-, opens, -⟩ := hpool
  simpa [h, PortMode.hasRecord] using opens p

/-! ### Entry to ARMED (R3, R134) -/

/-- The blocks of a port once it has entered ARMED with a tube at P0 (R3, R48, R61, R119). -/
def PortBlocks.armed (now p0 : Nat) (b : PortBlocks) : PortBlocks :=
  { b.presetTube p0 with
    ctl := { b.ctl with mode := .armed, previous := b.ctl.mode, lastCause := .tubeOpen }
    seq := { b.seq with
      scan := some { kind := .time, startPos := (p0 : Int) * 100, slot := 0, phase := .switch, phaseEnd := now + 80 }
      timer := some (now + b.plan.working.travel.period * 40), owed := false, held := none, closeHold := false
      seqNo := 0 } }

/-- The entry's actions on its port are one change of the port's blocks. -/
theorem armed_eq (p0 : Nat) :
    startTimeMode p (transition p .armed .tubeOpen (onPort p (PortBlocks.presetTube p0) s)) =
      onPort p (PortBlocks.armed s.now p0) s := by
  simp only [startTimeMode, startTimeScan, transition, onSeq, onCtl, onPort_onPort]
  rfl

/-- All the entry to ARMED does: the record in the pool, the blocks of the port, and one event. -/
theorem enterArmed_eq : enterArmed p r s = stateEvent p .tubeOpen (some r.number)
    (onPort p (PortBlocks.armed s.now r.p0) (onStore (RecordStore.openWith r) s)) := by
  rw [enterArmed, armed_eq]
  rfl

/-- The entry to ARMED raises its STATE event with the number of the record (R15). -/
theorem enterArmed_raised :
    Raised s (enterArmed p r s) [stateReport p .armed (s.mode p) .tubeOpen (some r.number)] := by
  have raised := stateEvent_raised (p := p)
    (s := onPort p (PortBlocks.armed s.now r.p0) (onStore (RecordStore.openWith r) s)) .tubeOpen (some r.number)
  rw [mode_eq, onPort_port_same] at raised
  rw [enterArmed_eq]
  exact raised.of_link rfl

/-- The entry to ARMED makes no reply and leaves the request buffer. -/
theorem enterArmed_replies : (enterArmed p r s).link.buffer = s.link.buffer ∧
    (enterArmed p r s).unsentReplies = s.unsentReplies := by
  simp [enterArmed_eq, stateEvent, State.unsentReplies]

/-- What the entry to ARMED leaves, and what it makes of the record store and the port. -/
theorem enterArmed_frame : SameOthers p s (enterArmed p r s) ∧ (enterArmed p r s).now = s.now ∧
    (enterArmed p r s).pending = s.pending ∧ (enterArmed p r s).store = s.store.openWith r ∧
    (enterArmed p r s).port p = (s.port p).armed s.now r.p0 := by
  obtain ⟨l, hl⟩ := stateEvent_link_only (p := p)
    (s := onPort p (PortBlocks.armed s.now r.p0) (onStore (RecordStore.openWith r) s)) .tubeOpen (some r.number)
  rw [enterArmed_eq, hl]
  exact ⟨fun q hq => onPort_port_ne _ hq, rfl, rfl, rfl, onPort_port_same _⟩

/-! ### OPEN_TUBE (R92, R134, R135) -/

/-- In IDLE with a slot FREE the tube is opened. -/
theorem openRequest_opens {row column sec p0 : Nat} (place : Nat) (hidle : s.mode p = .idle)
    (hfree : .free ∈ s.store.slots) :
    let r := tubeRecord s p row column sec p0
    openRequest row column sec p0 p place s = reply place
      (.done (.opened r.number r.row r.column r.sec r.p0 r.flags.unbalanced)) (enterArmed p r s) := by
  have room : s.store.slots.any RecordSlot.isFree = true := List.any_eq_true.mpr ⟨_, hfree, rfl⟩
  simp only [openRequest, hidle, room, replyDone, ne_eq, not_true_eq_false, Bool.not_true, if_false,
    Bool.false_eq_true]

/-- A raw channel is used where it is the detect or the landmark channel, or an input of a mix (R92). -/
theorem mem_usedRaw_iff {w : Plan} {k : Nat} : k ∈ w.usedRaw ↔
    (k = w.detect.channel ∧ k < 12) ∨ (k = w.landmark.channel ∧ k < 12) ∨
      ∃ m, some m ∈ w.mix ∧ (k = m.primary ∨ k = m.secondary) := by
  rw [Plan.usedRaw, List.mem_append, ← or_assoc]
  refine or_congr ?_ ?_
  · simp only [List.mem_filter, List.mem_cons, List.not_mem_nil, or_false, decide_eq_true_eq, or_and_right]
    rfl
  · rw [List.mem_flatMap]
    constructor
    · rintro ⟨e, he, hk⟩
      cases e with
      | none => cases hk
      | some m => exact ⟨m, he, by simpa using hk⟩
    · rintro ⟨m, hm, hk⟩
      exact ⟨some m, hm, by simpa using hk⟩

/-- The UNBALANCED flag is set where a raw channel in use has no balanced null (R92). -/
theorem unbalancedInUse_iff {w : Plan} {nulls : List NullEntry} : unbalancedInUse w nulls = true ↔
    ∃ k, ((k = w.detect.channel ∧ k < 12) ∨ (k = w.landmark.channel ∧ k < 12) ∨
        ∃ m, some m ∈ w.mix ∧ (k = m.primary ∨ k = m.secondary)) ∧
      (nulls.getD k { x0 := 0, y0 := 0, balanced := false }).balanced = false := by
  simp only [unbalancedInUse, List.any_eq_true, mem_usedRaw_iff, Bool.not_eq_eq_eq_not, Bool.not_true]

/-- The record opened is told by the record store and the blocks of the port. -/
theorem tubeRecord_congr {s' : State} (h : SameBlocks s s') (row column sec p0 : Nat) :
    tubeRecord s' p row column sec p0 = tubeRecord s p row column sec p0 := by
  obtain ⟨hports, hstore, -⟩ := h
  simp only [tubeRecord, State.working, State.port, hports, hstore]

/-- OPEN_TUBE in IDLE with a slot FREE: the record of R135 joins the pool and the port enters ARMED (R134). -/
theorem openTube_opens {tag : Byte} {row column sec p0 : Nat}
    (ha : Accepts s (.openTube tag p.byte row column sec p0) .openTube p.byte) (hidle : s.mode p = .idle)
    (hfree : .free ∈ s.store.slots) :
    let r := tubeRecord s p row column sec p0
    ∃ t, exec (.openTube tag p.byte row column sec p0) s = .next t ∧ SameOthers p s t ∧ t.now = s.now ∧
      t.pending = s.pending ∧ t.store = s.store.openWith r ∧ t.port p = (s.port p).armed s.now r.p0 ∧
      Answered s t .openTube tag p.byte (.done (.opened r.number r.row r.column r.sec r.p0 r.flags.unbalanced)) ∧
      Raised s t [stateReport p .armed .idle .tubeOpen (some r.number)] := by
  intro r
  obtain ⟨place, s', hr, hnext⟩ :=
    serveOnPort_spec (tag := tag) (openRequest row column sec p0) ha (ofByte?_byte p)
  obtain ⟨hports, hstore, hnow, hpending⟩ := hr.sameBlocks
  have hport : ∀ q, s'.port q = s.port q := fun q => by rw [State.port, hports, State.port]
  have hrecord : tubeRecord s' p row column sec p0 = r := tubeRecord_congr hr.sameBlocks ..
  have hidle' : s'.mode p = .idle := by rw [mode_eq, hport]; exact hidle
  rw [openRequest_opens place hidle' (by rwa [hstore]), hrecord] at hnext
  obtain ⟨hbuffer, hreplies⟩ := enterArmed_replies (p := p) (r := r) (s := s')
  obtain ⟨l, harb, answered, reports⟩ := hr.answer_after
    (.done (.opened r.number r.row r.column r.sec r.p0 r.flags.unbalanced)) hbuffer hreplies
  obtain ⟨others, clock, queue, store, port⟩ := enterArmed_frame (p := p) (r := r) (s := s')
  have raised := enterArmed_raised (p := p) (r := r) (s := s')
  rw [hidle'] at raised
  rw [hnow] at clock port
  refine ⟨_, hnext, ?_, ?_, ?_, ?_, ?_, answered, fun room => reports.trans (hr.raised raised room)⟩ <;> rw [harb]
  · exact fun q hq => (others q hq).trans (hport q)
  · exact clock
  · exact queue.trans hpending
  · rw [← hstore]; exact store
  · rw [← hport]; exact port

/-- Settles O24: the record is the one R135 fills, with the number of R132. -/
theorem openTubeOpensRecord : Obligations.OpenTubeOpensRecord := by
  intro s p tag row column sec p0 _ hpool ha hidle hfree w unbalanced hunbalanced
  obtain ⟨t, hnext, others, clock, queue, hstore, hport, answered, raised⟩ := openTube_opens ha hidle hfree
  obtain ⟨hlo, hhi, fresh, counter⟩ := hpool.takeNumber_spec hfree
  have flag : unbalancedInUse (s.working p) (s.port p).chan.nulls = unbalanced :=
    Bool.eq_iff_iff.mpr (unbalancedInUse_iff.trans hunbalanced.symm)
  obtain ⟨opened, opens, readies⟩ := openWith_records hstore hfree (hpool.openRecords_nil hidle)
  rw [tubeRecord, flag] at opened answered
  rw [PortBlocks.armed, show (s.port p).ctl.mode = .idle from hidle] at hport
  exact ⟨t, s.store.takeNumber, hnext, others, clock, queue, hlo, hhi, fresh, opened, opens, readies,
    by rw [hstore]; rfl, by rw [hstore]; rfl, counter, hport, answered, raised⟩

end Sys2Proof.Machine

/-! PROOFS. No request touches the deframer: whatever an intact frame spells, the part goes on to a next state with the
deframer as the delimiter left it (R177 to R180). -/

namespace Sys2Proof.Machine

variable {p : PortId} {s : State}

/-! ### Operations that leave the link controller -/

@[simp] theorem transition_link (new : PortMode) (cause : Cause) : (transition p new cause s).link = s.link := rfl

@[simp] theorem listLandmarks_link (es : List LandmarkEntry) : (listLandmarks p es s).link = s.link := rfl

@[simp] theorem rest_link (new : PortMode) (cause : Cause) : (rest p new cause s).link = s.link := by
  have leaves : (leaveScanning p s).link = s.link := by unfold leaveScanning; split <;> rfl
  have gives : ∀ u : State, (leaveTube p u).link = u.link := fun u => by unfold leaveTube; split <;> rfl
  simp [rest, gives, leaves]

@[simp] theorem endScan_link : (endScan p s).link = s.link := rfl

@[simp] theorem decodeAtRest_link : (decodeAtRest p s).link = s.link := by
  unfold decodeAtRest
  split <;> rfl

@[simp] theorem startTimeMode_link : (startTimeMode p s).link = s.link := rfl

@[simp] theorem finaliseDetector_link : (finaliseDetector p s).link = s.link := by
  unfold finaliseDetector
  dsimp only
  split <;> rfl

@[simp] theorem classifyWindow_link (w : ClosedLandmark) : (classifyWindow p w s).link = s.link := by
  unfold classifyWindow
  split <;> rfl

@[simp] theorem finaliseLandmark_link : (finaliseLandmark p s).link = s.link := by
  unfold finaliseLandmark
  dsimp only
  split
  · rfl
  · simp

@[simp] theorem writeLastRun_link (lost : Option Int) : (writeLastRun p lost s).link = s.link := by
  have counts : (countLost p lost s).link = s.link := by cases lost <;> rfl
  unfold writeLastRun
  dsimp only
  split <;> exact counts

@[simp] theorem writeStreamGap_link : (writeStreamGap p s).link = s.link := by
  unfold writeStreamGap
  split <;> rfl

@[simp] theorem listPassed_link : (listPassed p s).link = s.link := by
  unfold listPassed
  split <;> rfl

/-- The producers of a record and its header are told nothing of the host link (R143, steps 1 to 4). -/
@[simp] theorem closeHeader_closeProducers_link (reason : CloseReason) (lost : Option Int) :
    (closeHeader p reason (closeProducers p lost s)).link = s.link := by
  simp [closeHeader, closeProducers]

@[simp] theorem readyRecord_link : (readyRecord p s).link = s.link := by
  unfold readyRecord
  split <;> rfl

/-! ### Operations that report or reply, and leave the deframer -/

@[simp] theorem onCounters_deframer (f : LinkCounters → LinkCounters) :
    (onCounters f s).link.deframer = s.link.deframer := rfl

@[simp] theorem replyDone_deframer (place : Nat) (r : Results) :
    (replyDone place r s).link.deframer = s.link.deframer := reply_deframer ..

@[simp] theorem replyRefused_deframer (place : Nat) (code : RefusalCode) :
    (replyRefused place code s).link.deframer = s.link.deframer := reply_deframer ..

@[simp] theorem answerHeld_deframer (k : RequestKind) (body : ReplyBody) :
    (answerHeld k p body s).link.deframer = s.link.deframer := by
  obtain ⟨_, _, h⟩ := answerHeld_link (p := p) (s := s) k body
  rw [h]

@[simp] theorem stateEvent_deframer (cause : Cause) (record : Option Nat) :
    (stateEvent p cause record s).link.deframer = s.link.deframer := report_deframer _

/-- An operation over a list that leaves the deframer at each item leaves it at the end. -/
theorem foldl_deframer {α : Type} {f : State → α → State}
    (hf : ∀ u x, (f u x).link.deframer = u.link.deframer) (l : List α) (s : State) :
    (l.foldl f s).link.deframer = s.link.deframer := by
  induction l generalizing s with
  | nil => rfl
  | cons x rest ih => rw [List.foldl_cons, ih, hf]

@[simp] theorem driveAbort_deframer (source : AbortSource) :
    (driveAbort p source s).link.deframer = s.link.deframer :=
  foldl_deframer (fun _ _ => report_deframer _) ..

@[simp] theorem promote_deframer (cause : Option Cause) : (promote p cause s).link.deframer = s.link.deframer := by
  cases cause <;> simp [promote]

@[simp] theorem promoteIfPending_deframer : (promoteIfPending p s).link.deframer = s.link.deframer := by
  unfold promoteIfPending
  split
  · exact promote_deframer _
  · rfl

@[simp] theorem enterIdle_deframer (cause : Cause) (record : Option Nat) :
    (enterIdle p cause record s).link.deframer = s.link.deframer := by
  simp [enterIdle]

@[simp] theorem closeRecord_deframer (reason : CloseReason) (lost : Option Int) :
    (closeRecord p reason lost s).link.deframer = s.link.deframer := by
  unfold closeRecord
  split
  · rfl
  · simp

@[simp] theorem endOperation_deframer (reason : CloseReason) :
    (endOperation p reason s).link.deframer = s.link.deframer := by
  unfold endOperation
  split <;> simp [abandonNull]

@[simp] theorem disablePort_deframer : (disablePort p s).link.deframer = s.link.deframer := by
  simp [disablePort]

@[simp] theorem enterArmed_deframer (r : Record) : (enterArmed p r s).link.deframer = s.link.deframer := by
  simp [enterArmed]

theorem resetPort_deframer : (resetPort s p).link.deframer = s.link.deframer := by
  unfold resetPort
  dsimp only
  split <;> simp

/-- RESET clears the link controller's reports, counters and last port served, and not its deframer (R186). -/
@[simp] theorem resetPart_deframer : (resetPart s).link.deframer = s.link.deframer := by
  have ports : (allPorts.foldl resetPort s).link.deframer = s.link.deframer :=
    foldl_deframer (fun _ _ => resetPort_deframer) ..
  exact (foldl_deframer (fun _ _ => report_deframer _) ..).trans ports

/-! ### The requests leave the deframer -/

section Requests

variable {place : Nat}

theorem editSection_deframer {edit : Plan → Plan} {items : List ClampItem} :
    (editSection edit items p place s).link.deframer = s.link.deframer := by
  unfold editSection
  split <;> simp

theorem commitRequest_deframer : (commitRequest p place s).link.deframer = s.link.deframer := by
  unfold commitRequest
  split
  · simp
  · split
    · simp
    · unfold commitValid
      dsimp only
      split <;> simp

theorem enableRequest_deframer : (enableRequest p place s).link.deframer = s.link.deframer := by
  unfold enableRequest
  split <;> simp

theorem disableRequest_deframer : (disableRequest p place s).link.deframer = s.link.deframer := by
  unfold disableRequest
  split <;> simp

theorem clearRequest_deframer : (clearRequest p place s).link.deframer = s.link.deframer := by
  unfold clearRequest
  split <;> simp

theorem nullRequest_deframer : (nullRequest p place s).link.deframer = s.link.deframer := by
  unfold nullRequest
  split <;> simp [enterNulling]

theorem openRequest_deframer {row column sec p0 : Nat} :
    (openRequest row column sec p0 p place s).link.deframer = s.link.deframer := by
  unfold openRequest
  dsimp only
  repeat' split
  all_goals simp

theorem closeRequest_deframer : (closeRequest p place s).link.deframer = s.link.deframer := by
  unfold closeRequest
  repeat' split
  all_goals simp [closeToIdle]

theorem markRequest_deframer : (markRequest p place s).link.deframer = s.link.deframer := by
  unfold markRequest
  split <;> simp

theorem fetchRequest_deframer {number sec first : Nat} :
    (fetchRequest number sec first place s).link.deframer = s.link.deframer := by
  unfold fetchRequest
  split <;> simp

theorem releaseRequest_deframer {number : Nat} :
    (releaseRequest number place s).link.deframer = s.link.deframer := by
  unfold releaseRequest
  split <;> simp [releaseRecord]

theorem queueRequest_deframer {entries : List MoveFields} :
    (queueRequest entries p place s).link.deframer = s.link.deframer := by
  unfold queueRequest
  dsimp only
  repeat' split
  all_goals simp

theorem abortRequest_deframer : (abortRequest p place s).link.deframer = s.link.deframer := by
  simp [abortRequest]

theorem resetRequest_deframer : (resetRequest place s).link.deframer = s.link.deframer := by
  have held : (abortHeld place s).link.deframer = s.link.deframer :=
    foldl_deframer (fun _ _ => replyRefused_deframer ..) ..
  simp [resetRequest, held]

end Requests

/-! ### Every request runs to a next state with the deframer as it was -/

section Served

variable {c : Instr} {k : RequestKind} {kind tag port : Byte}

/-- The outcome is a next state in which the deframer is as in `s`. -/
def NextWithDeframer (s : State) (o : Host.Outcome State Fault Refusal) : Prop :=
  ∃ t, o = .next t ∧ t.link.deframer = s.link.deframer

theorem nextWithDeframer_arbitrate {u : State} (h : u.link.deframer = s.link.deframer) :
    NextWithDeframer s (.next (arbitrate u)) := ⟨_, rfl, arbitrate_deframer.trans h⟩

@[simp] theorem refuseAtOnce_deframer (code : RefusalCode) :
    (refuseAtOnce code kind tag port s).link.deframer = s.link.deframer := by
  unfold refuseAtOnce
  split <;> rfl

theorem serve_nextWithDeframer {body : Nat → State → State}
    (hbody : ∀ place u, (body place u).link.deframer = u.link.deframer) :
    NextWithDeframer s (serve c k tag port body s) := by
  unfold serve claim
  cases testRequest k port (Instr.lengthAllowed c) s with
  | none => exact nextWithDeframer_arbitrate (hbody _ (hold k tag port s))
  | some code => exact nextWithDeframer_arbitrate (refuseAtOnce_deframer code)

theorem serveOnPort_nextWithDeframer {body : PortId → Nat → State → State}
    (hbody : ∀ p place u, (body p place u).link.deframer = u.link.deframer) :
    NextWithDeframer s (serveOnPort c k tag port body s) :=
  serve_nextWithDeframer fun place u => by
    cases PortId.ofByte? port with
    | none => rfl
    | some p => exact hbody p place u

/-- Whatever a frame spells, what is carried out leaves the deframer. -/
theorem runRequest_nextWithDeframer : NextWithDeframer s (runRequest c s) := by
  cases c with
  | portStatus | planDiscard | planRead | driveStatus =>
    exact serveOnPort_nextWithDeframer fun _ _ _ => replyDone_deframer ..
  | portEnable => exact serveOnPort_nextWithDeframer fun _ _ _ => enableRequest_deframer
  | portDisable => exact serveOnPort_nextWithDeframer fun _ _ _ => disableRequest_deframer
  | clearFault => exact serveOnPort_nextWithDeframer fun _ _ _ => clearRequest_deframer
  | planFreq | planSlots | planCal | planMix | planDetect | planLandmark | planSupports | planCurve | planTravel
  | planStream => exact serveOnPort_nextWithDeframer fun _ _ _ => editSection_deframer
  | planCommit => exact serveOnPort_nextWithDeframer fun _ _ _ => commitRequest_deframer
  | nullChannels => exact serveOnPort_nextWithDeframer fun _ _ _ => nullRequest_deframer
  | openTube => exact serveOnPort_nextWithDeframer fun _ _ _ => openRequest_deframer
  | closeTube => exact serveOnPort_nextWithDeframer fun _ _ _ => closeRequest_deframer
  | mark => exact serveOnPort_nextWithDeframer fun _ _ _ => markRequest_deframer
  | recordFetch => exact serve_nextWithDeframer fun _ _ => fetchRequest_deframer
  | recordRelease => exact serve_nextWithDeframer fun _ _ => releaseRequest_deframer
  | driveQueue => exact serveOnPort_nextWithDeframer fun _ _ _ => queueRequest_deframer
  | driveAbort => exact serveOnPort_nextWithDeframer fun _ _ _ => abortRequest_deframer
  | recordList | linkStatus => exact serve_nextWithDeframer fun _ _ => replyDone_deframer ..
  | reset => exact serve_nextWithDeframer fun _ _ => resetRequest_deframer
  | _ => exact ⟨s, rfl, rfl⟩

theorem takeFrame_nextWithDeframer {payload : List Byte} :
    NextWithDeframer s (takeFrame kind tag port payload s) := by
  unfold takeFrame
  split
  · exact nextWithDeframer_arbitrate (refuseAtOnce_deframer _)
  · split
    · refine nextWithDeframer_arbitrate ?_
      unfold refuseUnread
      split
      · exact refuseAtOnce_deframer _
      · rfl
    · exact runRequest_nextWithDeframer

end Served

end Sys2Proof.Machine

/-! PROOFS. The checks of a frame that a delimiter ends (R178) and the deframer's table (R177). -/

namespace Sys2Proof.Machine

variable {s t : State}

/-! ### The end of a frame (R178) -/

section FrameEnd

variable {content : List Byte}

theorem checkFrame_short (h : content.length < 7) : checkFrame content = .framing := if_pos h

theorem checkFrame_wrongCrc (h : 7 ≤ content.length)
    (hcrc : (Wire.crc16 (content.take (content.length - 2))).toNat ≠ Wire.u16 content (content.length - 2)) :
    checkFrame content = .crc := by
  simp [checkFrame, Wire.crcHolds, h.not_gt, hcrc]

theorem checkFrame_wrongLength (h : 7 ≤ content.length)
    (hcrc : (Wire.crc16 (content.take (content.length - 2))).toNat = Wire.u16 content (content.length - 2))
    (hlen : Wire.u16 content 3 ≠ content.length - 7) : checkFrame content = .framing := by
  simp [checkFrame, Wire.crcHolds, h.not_gt, hcrc, hlen]

theorem checkFrame_intact (h : 7 ≤ content.length)
    (hcrc : (Wire.crc16 (content.take (content.length - 2))).toNat = Wire.u16 content (content.length - 2))
    (hlen : Wire.u16 content 3 = content.length - 7) :
    checkFrame content = .intact (content.getD 0 0) (content.getD 1 0) (content.getD 2 0)
      ((content.drop 5).take (content.length - 7)) := by
  simp [checkFrame, Wire.crcHolds, h.not_gt, hcrc, hlen]

theorem endFrame_framing (h : checkFrame content = .framing) :
    endFrame content s = .next (arbitrate (onCounters LinkCounters.countFraming s)) := by rw [endFrame, h]

theorem endFrame_crc (h : checkFrame content = .crc) :
    endFrame content s = .next (arbitrate (onCounters LinkCounters.countCrc s)) := by rw [endFrame, h]

theorem endFrame_intact {kind tag port : Byte} {payload : List Byte}
    (h : checkFrame content = .intact kind tag port payload) :
    endFrame content s = takeFrame kind tag port payload s := by rw [endFrame, h]

/-- Discarded, refused or taken, a frame that has ended leaves the deframer. -/
theorem endFrame_nextWithDeframer : NextWithDeframer s (endFrame content s) := by
  cases h : checkFrame content with
  | framing => rw [endFrame_framing h]; exact nextWithDeframer_arbitrate rfl
  | crc => rw [endFrame_crc h]; exact nextWithDeframer_arbitrate rfl
  | intact => rw [endFrame_intact h]; exact takeFrame_nextWithDeframer

/-- A frame discarded is counted as `count` says and makes no reply. -/
theorem discard_counts {count : LinkCounters → LinkCounters} (hnext : endFrame content s = .next t)
    (hdiscard : endFrame content s = .next (arbitrate (onCounters count s))) :
    t.link.counters = count s.link.counters ∧ t.unsentReplies = s.unsentReplies := by
  obtain rfl : t = arbitrate (onCounters count s) := Host.Outcome.next.inj (hnext.symm.trans hdiscard)
  exact ⟨arbitrate_counters, arbitrate_unsentReplies⟩

/-- A delimiter ends a frame that holds content (R177). -/
theorem lineByte_endsFrame (hc : content ≠ []) (hd : s.link.deframer = { state := .inFrame, content := content }) :
    lineByte (.byte 0x7E) s = endFrame content (setDeframer .inFrame [] s) := by
  simp [lineByte, receiveByte, hd, Wire.delimiter, hc]

/-- The frame that a delimiter ends has its content checked with the deframer IN_FRAME and empty. -/
theorem hostFrameReceived_ends (time : Nat) (hc : content ≠ [])
    (hd : s.link.deframer = { state := .inFrame, content := content }) :
    ∃ t, exec (.hostFrameReceived time) s = .next t ∧ t.link.deframer = { state := .inFrame, content := [] } ∧
      endFrame content (setDeframer .inFrame [] (advance time s)) = .next t := by
  obtain ⟨t, hnext, hdeframer⟩ :=
    endFrame_nextWithDeframer (content := content) (s := setDeframer .inFrame [] (advance time s))
  exact ⟨t, (lineByte_endsFrame (s := advance time s) hc hd).trans hnext, hdeframer, hnext⟩

/-- Settles O6, by what the three checks make of the content. -/
theorem frameChecks : Obligations.FrameChecks := by
  intro s time content hc hd
  obtain ⟨t, hexec, hdeframer, hnext⟩ := hostFrameReceived_ends time hc hd
  refine ⟨t, hexec, hdeframer, fun hshort => ?_, fun hlong hcrc => ?_, fun hlong hcrc hlen => ?_,
    fun hlong hcrc hlen => ?_⟩
  · exact discard_counts hnext (endFrame_framing (checkFrame_short hshort))
  · exact discard_counts hnext (endFrame_crc (checkFrame_wrongCrc hlong hcrc))
  · exact discard_counts hnext (endFrame_framing (checkFrame_wrongLength hlong hcrc hlen))
  · exact hexec.trans (hnext.symm.trans (endFrame_intact (checkFrame_intact hlong hcrc hlen)))

end FrameEnd

/-! ### A byte that ends no frame (R177) -/

section Table

variable {b : LineByte} {v : Byte} {c c' : LinkCounters} {d d' : Deframer}

/-- The byte `b` ends no frame; it leaves the deframer `d` and the link counters `c`, and all else as it was. -/
def Received (b : LineByte) (s : State) (c : LinkCounters) (d : Deframer) : Prop :=
  receiveByte b s = ({ s with link := { s.link with deframer := d, counters := c } }, none)

theorem Received.unique (h : Received b s c d) (h' : Received b s c' d') : c = c' ∧ d = d' := by
  have states := (Prod.mk.inj (h.symm.trans h')).1
  exact ⟨congrArg (fun u => u.link.counters) states, congrArg (fun u => u.link.deframer) states⟩

/-- After a byte that ends no frame the arbiter runs. -/
theorem Received.exec_eq {time : Nat} (h : Received b (advance time s) c d) : exec (.hostLinkByteReceived time b) s =
    .next (arbitrate { advance time s with link := { s.link with deframer := d, counters := c } }) := by
  show lineByte b (advance time s) = _
  rw [lineByte, h]
  rfl

theorem appendContent_room (h : s.link.deframer.content.length < 1031) :
    appendContent v s = setDeframer .inFrame (s.link.deframer.content ++ [v]) s := if_pos h

theorem appendContent_full (h : 1031 ≤ s.link.deframer.content.length) :
    appendContent v s = framingDiscard .hunt s := if_neg h.not_gt

/-- In HUNT a delimiter alone is taken. -/
theorem received_hunt (h : s.link.deframer.state = .hunt) : Received b s s.link.counters
    (if b = .byte 0x7E then { state := .inFrame, content := [] } else s.link.deframer) := by
  cases b with
  | error => simp [Received, receiveByte, h]
  | byte v =>
    by_cases hv : v = Wire.delimiter
    · simp [Received, receiveByte, h, hv, Wire.delimiter, setDeframer, onLink]
    · have hb : LineByte.byte v ≠ .byte 0x7E := fun e => hv (LineByte.byte.inj e)
      rw [if_neg hb]
      simp [Received, receiveByte, h, hv]

/-- A delimiter after a delimiter changes nothing. -/
theorem received_delimiter_empty (h : s.link.deframer.state = .inFrame) (hc : s.link.deframer.content = []) :
    Received (.byte 0x7E) s s.link.counters s.link.deframer := by
  simp [Received, receiveByte, h, hc, Wire.delimiter]

theorem received_escapeByte (h : s.link.deframer.state = .inFrame) :
    Received (.byte 0x7D) s s.link.counters { s.link.deframer with state := .escape } := by
  simp [Received, receiveByte, h, Wire.delimiter, Wire.escapeByte, setDeframer, onLink]

/-- Any other byte in a frame is content. -/
theorem receiveByte_content (h : s.link.deframer.state = .inFrame) (hd : v ≠ Wire.delimiter) (he : v ≠ Wire.escapeByte) :
    receiveByte (.byte v) s = (appendContent v s, none) := by
  simp [receiveByte, h, hd, he]

/-- An escape sequence is content: 0x7D 0x5E stands for 0x7E and 0x7D 0x5D for 0x7D (R176). -/
theorem receiveByte_escaped (h : s.link.deframer.state = .escape) (hb : b = .byte 0x5E ∨ b = .byte 0x5D) :
    receiveByte b s = (appendContent (if b = .byte 0x5E then 0x7E else 0x7D) s, none) := by
  rcases hb with rfl | rfl <;> simp [receiveByte, h, Wire.delimiter, Wire.escapeByte]

theorem received_of_room (hb : receiveByte b s = (appendContent v s, none))
    (hlen : s.link.deframer.content.length < 1031) :
    Received b s s.link.counters { state := .inFrame, content := s.link.deframer.content ++ [v] } := by
  rw [Received, hb, appendContent_room hlen]
  rfl

theorem received_of_full (hb : receiveByte b s = (appendContent v s, none))
    (hlen : 1031 ≤ s.link.deframer.content.length) :
    Received b s s.link.counters.countFraming { state := .hunt, content := [] } := by
  rw [Received, hb, appendContent_full hlen]
  rfl

/-- A delimiter after an escape byte discards the frame and begins the next. -/
theorem received_escape_delimiter (h : s.link.deframer.state = .escape) :
    Received (.byte 0x7E) s s.link.counters.countFraming { state := .inFrame, content := [] } := by
  simp [Received, receiveByte, h, Wire.delimiter, framingDiscard, onCounters, setDeframer, onLink]

theorem received_error (h : s.link.deframer.state ≠ .hunt) :
    Received .error s s.link.counters.countFraming { state := .hunt, content := [] } := by
  cases hs : s.link.deframer.state with
  | hunt => exact absurd hs h
  | inFrame => simp [Received, receiveByte, hs, framingDiscard, onCounters, setDeframer, onLink]
  | escape => simp [Received, receiveByte, hs, framingDiscard, onCounters, setDeframer, onLink]

/-- A byte that completes no escape sequence. -/
theorem received_badEscape (h : s.link.deframer.state = .escape) (h7E : b ≠ .byte 0x7E) (h5E : b ≠ .byte 0x5E)
    (h5D : b ≠ .byte 0x5D) : Received b s s.link.counters.countFraming { state := .hunt, content := [] } := by
  cases b with
  | error => exact received_error (by simp [h])
  | byte v =>
    have h7E : v ≠ Wire.delimiter := fun e => h7E (congrArg _ e)
    have h5E : v ≠ 0x5E#8 := fun e => h5E (congrArg _ e)
    have h5D : v ≠ 0x5D#8 := fun e => h5D (congrArg _ e)
    simp [Received, receiveByte, h, h7E, h5E, h5D, framingDiscard, onCounters, setDeframer, onLink]

/-- A byte in a frame that is full, neither a delimiter nor an escape byte. -/
theorem received_overrun (h : s.link.deframer.state = .inFrame) (h7E : b ≠ .byte 0x7E) (h7D : b ≠ .byte 0x7D)
    (hlen : 1031 ≤ s.link.deframer.content.length) :
    Received b s s.link.counters.countFraming { state := .hunt, content := [] } := by
  cases b with
  | error => exact received_error (by simp [h])
  | byte v =>
    exact received_of_full (receiveByte_content h (fun e => h7E (congrArg _ e)) fun e => h7D (congrArg _ e)) hlen

/-- The table has an entry for every byte but the delimiter that ends a frame with content. -/
theorem exists_received (h : ¬ (s.link.deframer.state = .inFrame ∧ s.link.deframer.content ≠ [] ∧ b = .byte 0x7E)) :
    ∃ c d, Received b s c d := by
  cases hs : s.link.deframer.state with
  | hunt => exact ⟨_, _, received_hunt hs⟩
  | inFrame =>
    by_cases h7E : b = .byte 0x7E
    · have hc : s.link.deframer.content = [] := by simpa [hs, h7E] using h
      exact ⟨_, _, h7E ▸ received_delimiter_empty hs hc⟩
    by_cases h7D : b = .byte 0x7D
    · exact ⟨_, _, h7D ▸ received_escapeByte hs⟩
    rcases lt_or_ge s.link.deframer.content.length 1031 with hlen | hlen
    · cases b with
      | error => exact ⟨_, _, received_error (by simp [hs])⟩
      | byte v =>
        exact ⟨_, _, received_of_room
          (receiveByte_content hs (fun e => h7E (congrArg _ e)) fun e => h7D (congrArg _ e)) hlen⟩
    · exact ⟨_, _, received_overrun hs h7E h7D hlen⟩
  | escape =>
    by_cases h7E : b = .byte 0x7E
    · exact ⟨_, _, h7E ▸ received_escape_delimiter hs⟩
    by_cases hb : b = .byte 0x5E ∨ b = .byte 0x5D
    · rcases lt_or_ge s.link.deframer.content.length 1031 with hlen | hlen
      · exact ⟨_, _, received_of_room (receiveByte_escaped hs hb) hlen⟩
      · exact ⟨_, _, received_of_full (receiveByte_escaped hs hb) hlen⟩
    · exact ⟨_, _, received_badEscape hs h7E (fun e => hb (.inl e)) fun e => hb (.inr e)⟩

/-- Settles O7: a delimiter that ends a frame by the frame's end, every other byte by its entry in the table. -/
theorem deframerTable : Obligations.DeframerTable := by
  refine ⟨fun s time content hc hd => ?_, ?_⟩
  · obtain ⟨t, hexec, hdeframer, hnext⟩ := hostFrameReceived_ends time hc hd
    exact ⟨t, hexec, hexec, hdeframer, hnext⟩
  rintro s time b d rfl hends
  obtain ⟨c, d, hr⟩ := exists_received (s := advance time s) hends
  refine ⟨_, hr.exec_eq, arbitrate_unsentReplies, arbitrate_unsentReports, fun _ => arbitrate_sansRing,
    arbitrate_store, arbitrate_pending, arbitrate_now, ?_⟩
  rw [arbitrate_counters, arbitrate_deframer]
  refine ⟨fun hs => ?hunt, fun hs hb => ?empty, fun hs hb => ?escapeByte, fun v hb hs hlen => ?content,
    fun hs hb hlen => ?escaped, fun hs hb => ?restart, fun hcases => ?discard⟩
  case hunt => exact hr.unique (received_hunt hs)
  case empty =>
    subst hb
    have hc : s.link.deframer.content = [] := by simpa [hs] using hends
    exact hr.unique (received_delimiter_empty hs hc)
  case escapeByte => exact hr.unique (hb ▸ received_escapeByte hs)
  case content =>
    obtain ⟨hs, h7E, h7D⟩ := hs
    subst hb
    exact hr.unique (received_of_room (receiveByte_content hs h7E h7D) hlen)
  case escaped => exact hr.unique (received_of_room (receiveByte_escaped hs hb) hlen)
  case restart => exact hr.unique (hb ▸ received_escape_delimiter hs)
  case discard =>
    rcases hcases with ⟨hs, rfl⟩ | ⟨hs, h7E, h5E, h5D⟩ | ⟨hs, h7E, h7D, hlen⟩ | ⟨hs, hb, hlen⟩
    · exact hr.unique (received_error hs)
    · exact hr.unique (received_badEscape hs h7E h5E h5D)
    · exact hr.unique (received_overrun hs h7E h7D hlen)
    · exact hr.unique (received_of_full (receiveByte_escaped hs hb) hlen)

end Table

end Sys2Proof.Machine

/-! PROOFS. Work on one port: its blocks and its open record. Every operation that neither speaks to the host nor moves
a record to READY is one change of the blocks and one write to the open record. -/

namespace Sys2Proof.Machine

variable {p q : PortId} {s t : State} {b b' : PortBlocks} {f g : Record → Record}

/-! ### What a write to a record keeps -/

/-- What a record is given at OPEN_TUBE and keeps to its release (R135). -/
def Record.identity (r : Record) : Nat × PortId × Nat × Nat × Nat × Nat × BitVec 16 :=
  (r.number, r.port, r.row, r.column, r.sec, r.p0, r.generation)

/-- A write that keeps the identity of every record. -/
def Keeps (f : Record → Record) : Prop := ∀ r, (f r).identity = r.identity

theorem identity_eq {r r' : Record} (h : r'.identity = r.identity) : r'.number = r.number ∧ r'.port = r.port ∧
    r'.row = r.row ∧ r'.column = r.column ∧ r'.sec = r.sec ∧ r'.p0 = r.p0 ∧ r'.generation = r.generation := by
  simpa [Record.identity] using h

theorem Keeps.port (h : Keeps f) (r : Record) : (f r).port = r.port := (identity_eq (h r)).2.1

theorem Keeps.number (h : Keeps f) (r : Record) : (f r).number = r.number := (identity_eq (h r)).1

theorem Keeps.id : Keeps id := fun _ => rfl

theorem Keeps.comp (hg : Keeps g) (hf : Keeps f) : Keeps (g ∘ f) := fun r => (hg (f r)).trans (hf r)

theorem Keeps.ite {c : Prop} [Decidable c] (hf : Keeps f) (hg : Keeps g) : Keeps fun r => if c then f r else g r :=
  fun r => by dsimp only; split; exacts [hf r, hg r]

theorem keeps_onFlags (c : RecordFlags → RecordFlags) : Keeps (Record.onFlags c) := fun _ => rfl

theorem keeps_onCounters (c : RecordCounters → RecordCounters) : Keeps (Record.onCounters c) := fun _ => rfl

theorem keeps_addGap (x : Gap) : Keeps (Record.addGap x) := fun r => by unfold Record.addGap; split <;> rfl

theorem keeps_addLandmark (e : LandmarkEntry) : Keeps (Record.addLandmark e) := fun r => by
  unfold Record.addLandmark; split <;> rfl

theorem keeps_addLandmarks (es : List LandmarkEntry) : Keeps (Record.addLandmarks es) := fun r => by
  unfold Record.addLandmarks
  induction es generalizing r with
  | nil => rfl
  | cons e rest ih => exact (ih _).trans (keeps_addLandmark e r)

theorem keeps_addIndication (i : Indication) : Keeps (Record.addIndication i) := fun r => by
  unfold Record.addIndication; split <;> rfl

theorem keeps_judge (cfg : DetectFields) (curve : List CurvePoint) (w : ClosedWindow) : Keeps (Record.judge cfg curve w) := by
  intro r
  unfold Record.judge
  dsimp only
  split
  · rfl
  · split
    · split <;> rfl
    · rw [keeps_addIndication]
      split <;> rfl

/-! ### A change of the blocks and a write to the open record -/

@[simp] theorem setPort_self : s.setPort p (s.port p) = s := by cases p <;> rfl

@[simp] theorem setPort_store : (s.setPort p b).store = s.store := rfl
@[simp] theorem setPort_link : (s.setPort p b).link = s.link := rfl
@[simp] theorem setPort_now : (s.setPort p b).now = s.now := rfl
@[simp] theorem setPort_pending : (s.setPort p b).pending = s.pending := rfl

theorem onOpen_slot_id (x : RecordSlot) : x.onOpen p id = x := by
  cases x with
  | free => rfl
  | ready _ => rfl
  | opened r => simp [RecordSlot.onOpen]

@[simp] theorem onOpen_id : onOpen p id s = s := by
  simp [onOpen, onStore, funext (onOpen_slot_id (p := p))]

theorem onOpen_slot_comp (hf : Keeps f) (x : RecordSlot) : (x.onOpen p f).onOpen p g = x.onOpen p (g ∘ f) := by
  cases x with
  | free => rfl
  | ready _ => rfl
  | opened r => by_cases h : r.port = p <;> simp [RecordSlot.onOpen, h, hf.port]

theorem onOpen_onOpen (hf : Keeps f) : onOpen p g (onOpen p f s) = onOpen p (g ∘ f) s := by
  simp [onOpen, onStore, onOpen_slot_comp hf]

/-- Work on port `p`: its blocks become `b`, and its open record is written by `f`. -/
def act (p : PortId) (b : PortBlocks) (f : Record → Record) (s : State) : State := onOpen p f (s.setPort p b)

@[simp] theorem act_port_same : (act p b f s).port p = b := setPort_port_same _
@[simp] theorem act_port_ne (h : q ≠ p) : (act p b f s).port q = s.port q := setPort_port_ne _ h
@[simp] theorem act_link : (act p b f s).link = s.link := rfl
@[simp] theorem act_now : (act p b f s).now = s.now := rfl
@[simp] theorem act_pending : (act p b f s).pending = s.pending := rfl
@[simp] theorem act_ready : (act p b f s).store.ready = s.store.ready := rfl
@[simp] theorem act_counter : (act p b f s).store.counter = s.store.counter := rfl
@[simp] theorem act_readyRecords : (act p b f s).readyRecords = s.readyRecords := onOpen_readyRecords

theorem act_openRecords (hf : Keeps f) : (act p b f s).openRecords p = (s.openRecords p).map f := onOpen_openRecords hf.port

theorem act_openRecords_ne (hf : Keeps f) (h : q ≠ p) : (act p b f s).openRecords q = s.openRecords q :=
  onOpen_openRecords_ne hf.port h

theorem act_act (hf : Keeps f) : act p b' g (act p b f s) = act p b' (g ∘ f) s :=
  (show act p b' g (act p b f s) = onOpen p g (onOpen p f ((s.setPort p b).setPort p b')) from rfl).trans
    (by rw [onOpen_onOpen hf, setPort_setPort]; rfl)

theorem setPort_act : (act p b f s).setPort p b' = act p b' f s :=
  (show _ = onOpen p f ((s.setPort p b).setPort p b') from rfl).trans (by rw [setPort_setPort]; rfl)

/-- Work that writes no record. -/
theorem act_id : act p b id s = s.setPort p b := onOpen_id

/-- Work that changes no block. -/
theorem act_self : act p (s.port p) f s = onOpen p f s := by rw [act, setPort_self]

theorem onPort_eq (c : PortBlocks → PortBlocks) : onPort p c s = act p (c (s.port p)) id s := act_id.symm

@[simp] theorem act_working : (act p b f s).working p = b.plan.working := by simp [State.working]

@[simp] theorem act_mode : (act p b f s).mode p = b.ctl.mode := by simp [mode_eq]

end Sys2Proof.Machine

/-! PROOFS. Steps 1 to 4 of a close as work on one port (R143), with the detector's and the landmark unit's parts in
it. -/

namespace Sys2Proof.Machine

variable {p q : PortId} {s t : State} {b b' : PortBlocks} {f g : Record → Record}

/-! ### The detector at a close (R101) -/

/-- The open record once an open indication window has been judged TRUNCATED. -/
def PortBlocks.judgedAtClose (b : PortBlocks) (r : Record) : Record :=
  match b.det.state with
  | .opened => r.judge b.plan.working.detect b.plan.working.curve
      (b.det.close { x := 0, y := 0, seqNo := 0, pos := 0 } false true)
  | .idle => r
  | .blocked => r

theorem keeps_judgedAtClose (b : PortBlocks) : Keeps b.judgedAtClose := fun r => by
  unfold PortBlocks.judgedAtClose
  split
  · exact keeps_judge _ _ _ r
  · rfl
  · rfl

theorem judgedAtClose_of_not_opened (h : b.det.state = .idle ∨ b.det.state = .blocked) : b.judgedAtClose = id := by
  funext r
  rcases h with h | h <;> simp [PortBlocks.judgedAtClose, h]

theorem judgedAtClose_of_opened (h : b.det.state = .opened) : b.judgedAtClose =
    Record.judge b.plan.working.detect b.plan.working.curve (b.det.close { x := 0, y := 0, seqNo := 0, pos := 0 } false true) := by
  funext r
  simp [PortBlocks.judgedAtClose, h]

theorem finaliseDetector_eq :
    finaliseDetector p s = act p { s.port p with det := .clear } (s.port p).judgedAtClose s := by
  have cleared : onDet p (fun _ => Detector.clear) s = act p { s.port p with det := .clear } id s := act_id.symm
  cases h : (s.port p).det.state with
  | opened =>
    rw [judgedAtClose_of_opened h]
    simp only [finaliseDetector, h, judgeWindow, State.working, onDet_port_same]
    rfl
  | idle =>
    rw [judgedAtClose_of_not_opened (.inl h), ← cleared]
    simp only [finaliseDetector, h]
  | blocked =>
    rw [judgedAtClose_of_not_opened (.inr h), ← cleared]
    simp only [finaliseDetector, h]

/-! ### The landmark unit's windows (R118, R121, R127) -/

/-- The landmark unit once a closed window has been classified. -/
def classifiedUnit (w : Plan) (win : ClosedLandmark) (u : LandmarkUnit) : LandmarkUnit :=
  if 4 ≤ win.satLongest then u else (u.judge w.supports w.landmark.tolerance win).1

/-- The open record once a closed window has been classified. -/
def classifiedRecord (w : Plan) (win : ClosedLandmark) (u : LandmarkUnit) (r : Record) : Record :=
  if 4 ≤ win.satLongest then (r.addLandmark (win.entry .tubeEnd)).setEndSeen
  else r.addLandmarks (u.judge w.supports w.landmark.tolerance win).2

theorem keeps_classifiedRecord (w : Plan) (win : ClosedLandmark) (u : LandmarkUnit) : Keeps (classifiedRecord w win u) :=
  Keeps.ite ((keeps_onFlags _).comp (keeps_addLandmark _)) (keeps_addLandmarks _)

theorem classified_eq (w : Plan) (win : ClosedLandmark) (u : LandmarkUnit) (r : Record) :
    classified w win u r = (classifiedUnit w win u, classifiedRecord w win u r) := by
  unfold classified classifiedUnit classifiedRecord
  split <;> rfl

theorem isTubeEnd_iff (win : ClosedLandmark) : win.isTubeEnd = true ↔ 4 ≤ win.satLongest := by
  exact decide_eq_true_iff

theorem onLandEntries_eq (c : LandmarkUnit → LandmarkUnit × List LandmarkEntry) : onLandEntries p c s =
    act p { s.port p with land := (c (s.port p).land).1 } (Record.addLandmarks (c (s.port p).land).2) s := rfl

theorem classifyWindow_eq (win : ClosedLandmark) : classifyWindow p win s =
    act p { s.port p with land := classifiedUnit (s.working p) win (s.port p).land }
      (classifiedRecord (s.working p) win (s.port p).land) s := by
  by_cases h : 4 ≤ win.satLongest
  · have unit : classifiedUnit (s.working p) win (s.port p).land = (s.port p).land := if_pos h
    have record : classifiedRecord (s.working p) win (s.port p).land =
        fun r => (r.addLandmark (win.entry .tubeEnd)).setEndSeen := funext fun r => if_pos h
    rw [classifyWindow, if_pos ((isTubeEnd_iff win).mpr h), unit, record, act_self]
  · have unit : classifiedUnit (s.working p) win (s.port p).land =
        ((s.port p).land.judge (s.working p).supports (s.working p).landmark.tolerance win).1 := if_neg h
    have record : classifiedRecord (s.working p) win (s.port p).land =
        Record.addLandmarks ((s.port p).land.judge (s.working p).supports (s.working p).landmark.tolerance win).2 :=
      funext fun r => if_neg h
    rw [classifyWindow, if_neg (by rwa [isTubeEnd_iff]), onLandEntries_eq, unit, record]

/-- The window a close takes from the landmark unit. -/
def LandmarkUnit.lastWindow (u : LandmarkUnit) : ClosedLandmark := u.close { absX := 0, seqNo := 0, pos := 0 } false true

/-- The landmark unit once an open window has been classified TRUNCATED. -/
def PortBlocks.landAtClose (b : PortBlocks) : LandmarkUnit :=
  match b.land.window with
  | .opened => classifiedUnit b.plan.working b.land.lastWindow b.land.windowIdle
  | .idle => b.land

/-- The open record once an open landmark window has been classified TRUNCATED. -/
def PortBlocks.classifiedAtClose (b : PortBlocks) (r : Record) : Record :=
  match b.land.window with
  | .opened => classifiedRecord b.plan.working b.land.lastWindow b.land.windowIdle r
  | .idle => r

theorem keeps_classifiedAtClose (b : PortBlocks) : Keeps b.classifiedAtClose := fun r => by
  unfold PortBlocks.classifiedAtClose
  split
  · exact keeps_classifiedRecord _ _ _ r
  · rfl

theorem finaliseLandmark_eq :
    finaliseLandmark p s = act p { s.port p with land := (s.port p).landAtClose } (s.port p).classifiedAtClose s := by
  cases h : (s.port p).land.window with
  | idle =>
    have unit : (s.port p).landAtClose = (s.port p).land := by simp [PortBlocks.landAtClose, h]
    have record : (s.port p).classifiedAtClose = id := by funext r; simp [PortBlocks.classifiedAtClose, h]
    rw [unit, record, act_self, onOpen_id]
    simp only [finaliseLandmark, h]
  | opened =>
    have unit : (s.port p).landAtClose =
        classifiedUnit (s.working p) (s.port p).land.lastWindow (s.port p).land.windowIdle := by
      simp [PortBlocks.landAtClose, h, State.working]
    have record : (s.port p).classifiedAtClose =
        classifiedRecord (s.working p) (s.port p).land.lastWindow (s.port p).land.windowIdle := by
      funext r; simp [PortBlocks.classifiedAtClose, h, State.working]
    have idle : onLand p LandmarkUnit.windowIdle s = s.setPort p { s.port p with land := (s.port p).land.windowIdle } := rfl
    simp only [finaliseLandmark, h]
    rw [idle, classifyWindow_eq, unit, record, State.working, setPort_port_same]
    simp only [act, setPort_setPort]
    rfl

/-! ### The gaps at a close (R66, R67, R173) -/

/-- The missed-trigger run with the lost point in it. -/
def lastRun (run : Option MissedRun) : Option Int → Option MissedRun
  | none => run
  | some pos => some (runWithLost run pos)

/-- The open record with the lost point counted as missed. -/
def countedLost (lost : Option Int) (r : Record) : Record :=
  match lost with
  | none => r
  | some _ => r.countMissed

/-- The open record with the run present written. -/
def PortBlocks.runWritten (b : PortBlocks) (run : Option MissedRun) (r : Record) : Record :=
  match run with
  | some m => r.addGap (overspeedGap b m m.last)
  | none => r

/-- The open record with the stream gap being built written. -/
def StreamUnit.gapWritten (u : StreamUnit) (r : Record) : Record :=
  match u.gap with
  | some g => r.addGap (g.toGap g.last)
  | none => r

theorem keeps_countedLost (lost : Option Int) : Keeps (countedLost lost) := fun r => by cases lost <;> rfl

theorem keeps_runWritten (b : PortBlocks) (run : Option MissedRun) : Keeps (b.runWritten run) := fun r => by
  cases run with
  | none => rfl
  | some m => exact keeps_addGap _ r

theorem keeps_gapWritten (u : StreamUnit) : Keeps u.gapWritten := fun r => by
  unfold StreamUnit.gapWritten
  split
  · exact keeps_addGap _ r
  · rfl

/-- The start of an OVERSPEED gap is the one of R66. -/
theorem gapStart_eq (b : PortBlocks) : gapStart b = overspeedStart b.travel b.land.correction := by
  unfold gapStart overspeedStart
  cases b.travel.lastScan <;> cases b.travel.grid <;> rfl

/-- An OVERSPEED gap by its fields. -/
theorem overspeedGap_eq (b : PortBlocks) (m : MissedRun) (stop : Int) : overspeedGap b m stop =
    { kind := .overspeed, start := overspeedStart b.travel b.land.correction,
      stop := min 300000 (stop / 100 + b.land.correction).toNat, count := m.count } := by
  rw [overspeedGap, gapStart_eq]
  rfl

theorem countLost_eq (lost : Option Int) : countLost p lost s =
    act p { s.port p with travel := { (s.port p).travel with run := lastRun (s.port p).travel.run lost } }
      (countedLost lost) s := by
  cases lost with
  | none => exact (act_self.trans onOpen_id).symm
  | some pos => rfl

theorem writeRun_eq (m : MissedRun) (stop : Int) : writeRun p m stop s =
    act p { s.port p with travel := { (s.port p).travel with run := none } }
      (Record.addGap (overspeedGap (s.port p) m stop)) s := rfl

theorem writeLastRun_eq (lost : Option Int) : writeLastRun p lost s =
    act p { s.port p with travel := { (s.port p).travel with run := none } }
      ((s.port p).runWritten (lastRun (s.port p).travel.run lost) ∘ countedLost lost) s := by
  unfold writeLastRun
  rw [countLost_eq]
  simp only [act_port_same]
  cases h : lastRun (s.port p).travel.run lost with
  | none => rfl
  | some m =>
    dsimp only
    rw [writeRun_eq, act_port_same, act_act (keeps_countedLost lost)]
    rfl

theorem writeStreamGap_eq : writeStreamGap p s =
    act p { s.port p with stream := { (s.port p).stream with gap := none } } (s.port p).stream.gapWritten s := by
  cases h : (s.port p).stream.gap with
  | none =>
    have record : (s.port p).stream.gapWritten = id := by funext r; simp [StreamUnit.gapWritten, h]
    have stands : { (s.port p).stream with gap := none } = (s.port p).stream := by rw [← h]
    rw [record, stands, act_self, onOpen_id]
    simp only [writeStreamGap, h]
  | some x =>
    have record : (s.port p).stream.gapWritten = Record.addGap (x.toGap x.last) := by
      funext r; simp [StreamUnit.gapWritten, h]
    rw [record]
    simp only [writeStreamGap, h]
    rfl

/-! ### The entries passed by the end of the tube, and the header (R128) -/

/-- The landmark unit and the entries it lists where the end of the tube, in ACQUIRING, has passed map entries. -/
def PortBlocks.passedAtEnd (b : PortBlocks) : LandmarkUnit × List LandmarkEntry :=
  if b.ctl.mode = .acquiring then
    b.land.passing b.plan.working.supports b.plan.working.landmark.tolerance (finalPosition b)
  else (b.land, [])

theorem listPassed_eq : listPassed p s =
    act p { s.port p with land := (s.port p).passedAtEnd.1 } (Record.addLandmarks (s.port p).passedAtEnd.2) s := by
  unfold listPassed PortBlocks.passedAtEnd
  rw [mode_eq]
  split
  · rfl
  · exact (act_self.trans onOpen_id).symm

theorem keeps_close (reason : CloseReason) (mode : PortMode) (b : PortBlocks) : Keeps (Record.close reason mode b) :=
  fun _ => rfl

theorem closeHeader_eq (reason : CloseReason) : closeHeader p reason s =
    act p { s.port p with land := (s.port p).land.afterRecord } (Record.close reason (s.mode p) (s.port p)) s := rfl

/-! ### Steps 1 to 4 -/

/-- The blocks of a port once steps 1 to 4 of a close are done. -/
def PortBlocks.afterClose (b : PortBlocks) : PortBlocks :=
  { b with
    travel := { b.travel with run := none }
    det := .clear
    land := { b.landAtClose with correction := 0, matched := 0, pointer := none }
    stream := { b.stream with gap := none } }

/-- The blocks of a port at step 3 of a close, by which the map entries passed are listed. -/
def PortBlocks.atListing (b : PortBlocks) : PortBlocks := { b with land := b.landAtClose }

/-- The record once steps 1 to 3 of a close are done, with the point that waited for its scan or its start. -/
def Record.produced (b : PortBlocks) (lost : Option Int) (r : Record) : Record :=
  Record.addLandmarks b.atListing.passedAtEnd.2 <|
  b.stream.gapWritten <|
  b.atListing.runWritten (lastRun b.travel.run lost) <|
  countedLost lost <|
  b.classifiedAtClose (b.judgedAtClose r)

/-- The record once steps 1 to 4 of a close are done. -/
def Record.closedWith (b : PortBlocks) (lost : Option Int) (reason : CloseReason) (r : Record) : Record :=
  (r.produced b lost).close reason b.ctl.mode { b with land := b.atListing.passedAtEnd.1 }

theorem keeps_produced (b : PortBlocks) (lost : Option Int) : Keeps (Record.produced b lost) :=
  (keeps_addLandmarks _).comp <| (keeps_gapWritten _).comp <| (keeps_runWritten _ _).comp <|
    (keeps_countedLost _).comp <| (keeps_classifiedAtClose b).comp (keeps_judgedAtClose b)

theorem keeps_closedWith (b : PortBlocks) (lost : Option Int) (reason : CloseReason) :
    Keeps (Record.closedWith b lost reason) := (keeps_close _ _ _).comp (keeps_produced b lost)

/-- The matched entries and the correction of a passing check stand, and so does the window. -/
theorem passedAtEnd_land (b : PortBlocks) :
    ∃ pointer, b.passedAtEnd.1 = { b.land with pointer := pointer } := by
  unfold PortBlocks.passedAtEnd
  split
  · exact ⟨_, rfl⟩
  · exact ⟨b.land.pointer, rfl⟩

/-- Steps 1 to 4 of a close are work on one port. -/
theorem closeProducers_eq (reason : CloseReason) (lost : Option Int) : closeHeader p reason (closeProducers p lost s) =
    act p (s.port p).afterClose (Record.closedWith (s.port p) lost reason) s := by
  unfold closeProducers
  rw [finaliseDetector_eq, finaliseLandmark_eq, act_act (keeps_judgedAtClose _), writeLastRun_eq,
    act_act ((keeps_classifiedAtClose _).comp (keeps_judgedAtClose _)), writeStreamGap_eq,
    act_act (((keeps_runWritten _ _).comp (keeps_countedLost _)).comp
      ((keeps_classifiedAtClose _).comp (keeps_judgedAtClose _))), listPassed_eq,
    act_act ((keeps_gapWritten _).comp (((keeps_runWritten _ _).comp (keeps_countedLost _)).comp
      ((keeps_classifiedAtClose _).comp (keeps_judgedAtClose _)))), closeHeader_eq,
    act_act ((keeps_addLandmarks _).comp ((keeps_gapWritten _).comp (((keeps_runWritten _ _).comp (keeps_countedLost _)).comp
      ((keeps_classifiedAtClose _).comp (keeps_judgedAtClose _)))))]
  simp only [act_port_same, act_mode]
  obtain ⟨pointer, hpassed⟩ := passedAtEnd_land (s.port p).atListing
  have blocks : (s.port p).afterClose = { s.port p with
      travel := { (s.port p).travel with run := none }, det := .clear
      land := (s.port p).atListing.passedAtEnd.1.afterRecord
      stream := { (s.port p).stream with gap := none } } := by
    rw [hpassed]
    rfl
  rw [blocks]
  rfl

/-- The point that waits for its scan or its start is the one a close counts as lost. -/
theorem lostPoint_eq (s : State) (p : PortId) : lostPoint s p = (s.port p).waitingPoint := by
  unfold lostPoint PortBlocks.waitingPoint
  rw [mode_eq]
  cases (s.port p).ctl.mode <;> cases (s.port p).seq.scan <;> rfl

/-- A record as a close leaves it, by the steps of the close. -/
theorem closedBy_eq (b : PortBlocks) (reason : CloseReason) (r : Record) :
    r.closedBy b reason = r.closedWith b b.waitingPoint reason := by
  obtain ⟨-, -, -, -, -, start, -⟩ := identity_eq (keeps_produced b b.waitingPoint r)
  obtain ⟨pointer, listed⟩ := passedAtEnd_land b.atListing
  have final : finalPosition { b with land := b.atListing.passedAtEnd.1 } = finalPosition b.atListing := by
    rw [listed]
    rfl
  have header : r.closedWith b b.waitingPoint reason = { r.produced b b.waitingPoint with
      closeReason := some reason
      finalPos := some (if b.ctl.mode = .armed then r.p0 else clampPos (finalPosition b.atListing))
      finalCorrection := some (if b.ctl.mode = .armed then 0 else b.atListing.passedAtEnd.1.correction)
      matched := some b.atListing.passedAtEnd.1.matched
      notReached := some b.atListing.passedAtEnd.1.notReached } := by
    rw [← start, ← final]
    rfl
  rw [header]
  unfold Record.closedBy Record.produced PortBlocks.runWritten
  simp only [classified_eq, overspeedGap_eq, decide_eq_true_eq]
  unfold PortBlocks.atListing PortBlocks.landAtClose PortBlocks.classifiedAtClose
  cases b.land.window <;> cases b.waitingPoint <;> rfl

end Sys2Proof.Machine

/-! PROOFS. What the part says to the host, and the operations that bring a port to rest: promotion, entry to IDLE, the
close of a record, a coil fault, PORT_DISABLE (R6, R10, R30, R31, R143). -/

namespace Sys2Proof.Machine

variable {p q : PortId} {s t : State} {b b' : PortBlocks} {f g : Record → Record}

/-! ### What is said to the host -/

/-- An operation that changes the link controller alone, by what the link controller holds. -/
def Speaks (op : State → State) : Prop := ∃ l : LinkController → LinkController, ∀ s, op s = onLink l s

namespace Speaks

variable {op : State → State}

theorem port (h : Speaks op) : (op s).port q = s.port q := by obtain ⟨l, h⟩ := h; rw [h]; rfl
theorem ports (h : Speaks op) : (op s).ports = s.ports := by obtain ⟨l, h⟩ := h; rw [h]; rfl
theorem store (h : Speaks op) : (op s).store = s.store := by obtain ⟨l, h⟩ := h; rw [h]; rfl
theorem now (h : Speaks op) : (op s).now = s.now := by obtain ⟨l, h⟩ := h; rw [h]; rfl
theorem pending (h : Speaks op) : (op s).pending = s.pending := by obtain ⟨l, h⟩ := h; rw [h]; rfl

theorem comp {op' : State → State} (h : Speaks op) (h' : Speaks op') : Speaks fun s => op (op' s) := by
  obtain ⟨l, h⟩ := h
  obtain ⟨l', h'⟩ := h'
  exact ⟨l ∘ l', fun s => by dsimp only; rw [h', h]; rfl⟩

/-- What is said does not depend on the blocks. -/
theorem setPort (h : Speaks op) : (op s).setPort p b = op (s.setPort p b) := by
  obtain ⟨l, h⟩ := h; rw [h, h]; rfl

/-- What is said does not depend on the record store. -/
theorem onStore (h : Speaks op) (c : RecordStore → RecordStore) : onStore c (op s) = op (onStore c s) := by
  obtain ⟨l, h⟩ := h; rw [h, h]; rfl

theorem act (h : Speaks op) : act p b f (op s) = op (act p b f s) := by
  obtain ⟨l, h⟩ := h; rw [h, h]; rfl

end Speaks

/-- The link controller with a report handed to it (R182). -/
def LinkController.reported (r : Report) (l : LinkController) : LinkController :=
  if l.reports.length < Config.reportPlaces then { l with reports := l.reports ++ [r] }
  else { l with counters := l.counters.countReportLost }

/-- The link controller with a reply to the held request at a place (R180, R181). -/
def LinkController.replied (place : Nat) (body : ReplyBody) (l : LinkController) : LinkController :=
  match l.buffer.find? fun h => h.place = place with
  | none => l
  | some h =>
    if h.answered then l
    else { l with
      replies := l.replies ++ [{ place := some place, kind := h.kind.code, tag := h.tag, port := h.port, body := body }]
      buffer := l.buffer.map (HeldRequest.markAnswered place) }

theorem report_onLink (r : Report) : report r s = onLink (LinkController.reported r) s := by
  rw [report_eq]
  by_cases h : s.link.reports.length < Config.reportPlaces <;>
    simp [h, onLink, onCounters, LinkController.reported]

theorem reply_onLink (place : Nat) (body : ReplyBody) :
    reply place body s = onLink (LinkController.replied place body) s := by
  unfold reply LinkController.replied onLink
  cases hfind : s.link.buffer.find? fun h => h.place = place with
  | none => simp only [hfind]
  | some h => cases ha : h.answered <;> simp [hfind, ha]

theorem speaks_report (r : Report) : Speaks (report r) := ⟨_, fun _ => report_onLink r⟩

theorem speaks_reply (place : Nat) (body : ReplyBody) : Speaks (reply place body) := ⟨_, fun _ => reply_onLink place body⟩

theorem speaks_answerHeld (k : RequestKind) (p : PortId) (body : ReplyBody) : Speaks (answerHeld k p body) := by
  refine ⟨fun l => match l.buffer.find? fun h => h.kind = k ∧ h.port = p.byte ∧ h.answered = false with
    | some h => l.replied h.place body
    | none => l, fun s => ?_⟩
  unfold answerHeld heldOn
  cases hfind : s.link.buffer.find? fun h => h.kind = k ∧ h.port = p.byte ∧ h.answered = false with
  | none => simp only [onLink, hfind]
  | some h => simp only [reply_onLink, onLink, hfind]

/-- Reports handed to the link controller one after the other. -/
def tell (rs : List Report) (s : State) : State := rs.foldl (fun s r => report r s) s

theorem speaks_tell (rs : List Report) : Speaks (tell rs) := by
  induction rs with
  | nil => exact ⟨id, fun _ => rfl⟩
  | cons r rest ih => exact ih.comp (speaks_report r)

@[simp] theorem tell_port (rs : List Report) : (tell rs s).port q = s.port q := (speaks_tell rs).port
@[simp] theorem tell_ports (rs : List Report) : (tell rs s).ports = s.ports := (speaks_tell rs).ports
@[simp] theorem tell_store (rs : List Report) : (tell rs s).store = s.store := (speaks_tell rs).store
@[simp] theorem tell_now (rs : List Report) : (tell rs s).now = s.now := (speaks_tell rs).now
@[simp] theorem tell_pending (rs : List Report) : (tell rs s).pending = s.pending := (speaks_tell rs).pending

@[simp] theorem tell_nil : tell [] s = s := rfl

theorem tell_tell (rs rs' : List Report) : tell rs' (tell rs s) = tell (rs ++ rs') s := List.foldl_append.symm

@[simp] theorem tell_buffer (rs : List Report) : (tell rs s).link.buffer = s.link.buffer := by
  induction rs generalizing s with
  | nil => rfl
  | cons r rest ih => exact ih.trans (report_buffer r)

@[simp] theorem tell_replies (rs : List Report) : (tell rs s).link.replies = s.link.replies := by
  induction rs generalizing s with
  | nil => rfl
  | cons r rest ih => exact ih.trans (report_replies r)

@[simp] theorem tell_sending (rs : List Report) : (tell rs s).link.sending = s.link.sending := by
  induction rs generalizing s with
  | nil => rfl
  | cons r rest ih => exact ih.trans (report_sending r)

@[simp] theorem tell_unsentReplies (rs : List Report) : (tell rs s).unsentReplies = s.unsentReplies := by
  simp [State.unsentReplies]

/-- Reports told are raised: with room for them all they join the reports not yet sent. -/
theorem tell_raised (rs : List Report) : Raised s (tell rs s) rs := by
  induction rs generalizing s with
  | nil => intro; simp
  | cons r rest ih =>
    intro hroom
    simp only [List.length_cons] at hroom
    have first := report_raised (s := s) r (by simp; omega)
    have free : s.link.reports.length < Config.reportPlaces := by omega
    have later := ih (s := report r s) (by rw [report_reports r free]; simp; omega)
    exact later.trans (by rw [first]; simp)

/-- A report and a reply do not meet in the link controller. -/
theorem report_reply (r : Report) (place : Nat) (body : ReplyBody) :
    report r (reply place body s) = reply place body (report r s) := by
  have apart : ∀ l : LinkController, (l.replied place body).reported r = (l.reported r).replied place body := fun l => by
    unfold LinkController.replied LinkController.reported
    by_cases hroom : l.reports.length < Config.reportPlaces
    · cases hfind : l.buffer.find? fun h => h.place = place with
      | none => simp [hroom, hfind]
      | some h => cases ha : h.answered <;> simp [hroom, hfind, ha]
    · cases hfind : l.buffer.find? fun h => h.place = place with
      | none => simp [hroom, hfind]
      | some h => cases ha : h.answered <;> simp [hroom, hfind, ha]
  rw [report_onLink, reply_onLink, reply_onLink, report_onLink]
  exact congrArg (fun l => { s with link := l }) (apart s.link)

theorem report_answerHeld (r : Report) (k : RequestKind) (body : ReplyBody) :
    report r (answerHeld k p body s) = answerHeld k p body (report r s) := by
  unfold answerHeld heldOn
  rw [report_buffer]
  split
  · exact report_reply ..
  · rfl

theorem tell_answerHeld (rs : List Report) (k : RequestKind) (body : ReplyBody) :
    tell rs (answerHeld k p body s) = answerHeld k p body (tell rs s) := by
  induction rs generalizing s with
  | nil => rfl
  | cons r rest ih => exact (congrArg (tell rest) (report_answerHeld r k body)).trans ih

/-- The events of an operation on a drive channel are told in their order. -/
theorem onDriveEvents_eq (c : DriveChannel → DriveChannel × List DriveEvent) : onDriveEvents p c s =
    tell ((c (s.port p).drive).2.map (Report.driveEvent p))
      (s.setPort p { s.port p with drive := (c (s.port p).drive).1 }) := by
  rw [tell, List.foldl_map]
  rfl

theorem driveAbort_eq (source : AbortSource) : driveAbort p source s =
    tell [.driveEvent p { kind := .aborted source none, state := .awaitHalt, queueLength := 0 }]
      (s.setPort p { s.port p with drive := (s.port p).drive.halt }) := onDriveEvents_eq _

/-! ### Promotion (R30, R31) -/

/-- The blocks of a port once its staged plan has been promoted and the filters it passed decoded. -/
def PortBlocks.promotedAt (now : Nat) (b : PortBlocks) : PortBlocks :=
  let c := b.promoted now
  if b.ctl.mode = .off then c else { c with travel := (c.travel.decode c.plan.working.travel).1 }

theorem decodeAtRest_promoted :
    decodeAtRest p (onPort p (PortBlocks.promoted s.now) s) = s.setPort p ((s.port p).promotedAt s.now) := by
  unfold decodeAtRest PortBlocks.promotedAt
  rw [mode_eq, onPort_port_same]
  dsimp only
  by_cases h : (s.port p).ctl.mode = .off
  · rw [if_pos h]
    exact (if_pos h).trans rfl
  · rw [if_neg h]
    refine (if_neg h).trans ?_
    rw [onTravel_eq, State.working, onPort_port_same]
    simp [onPort]

theorem promotedAt_ctl (now : Nat) (b : PortBlocks) : (b.promotedAt now).ctl = b.ctl := by
  unfold PortBlocks.promotedAt
  split <;> rfl

theorem promotedAt_plan (now : Nat) (b : PortBlocks) : (b.promotedAt now).plan =
    { working := b.plan.staged, staged := b.plan.staged, pending := false, generation := b.plan.generation + 1 } := by
  unfold PortBlocks.promotedAt
  split <;> rfl

theorem promote_none : promote p none s = s.setPort p ((s.port p).promotedAt s.now) := decodeAtRest_promoted

theorem promote_some (cause : Cause) : promote p (some cause) s =
    tell [promotedReport p (s.mode p) (s.port p).ctl.previous cause ((s.port p).plan.generation + 1)]
      (s.setPort p ((s.port p).promotedAt s.now)) := by
  simp only [promote, decodeAtRest_promoted, portEvent, mode_eq, setPort_port_same, promotedAt_ctl, promotedAt_plan]
  rfl

/-- The blocks of a port once its pending plan, where it has one, has been promoted. -/
def PortBlocks.settledAt (now : Nat) (b : PortBlocks) : PortBlocks := if b.plan.pending then b.promotedAt now else b

/-- The report of the promotion of a pending plan. -/
def pendingReport (p : PortId) (b : PortBlocks) : List Report :=
  if b.plan.pending then [promotedReport p b.ctl.mode b.ctl.previous .stateEntry (b.plan.generation + 1)] else []

theorem promoteIfPending_eq : promoteIfPending p s =
    tell (pendingReport p (s.port p)) (s.setPort p ((s.port p).settledAt s.now)) := by
  unfold promoteIfPending pendingReport PortBlocks.settledAt
  by_cases h : (s.port p).plan.pending = true
  · simp only [h, if_true]
    exact promote_some _
  · simp only [h, if_false, Bool.false_eq_true, setPort_self, tell_nil]

theorem promotedBlocks_eq (now : Nat) : s.promotedBlocks now p b = b.settledAt now := by
  unfold State.promotedBlocks PortBlocks.settledAt
  split
  · rw [promote_none, setPort_port_same, setPort_port_same]
    rfl
  · rfl

/-! ### Entry to IDLE and FAULT (R3) -/

/-- The blocks of a port brought to IDLE or FAULT. -/
def PortBlocks.rested (new : PortMode) (cause : Cause) (b : PortBlocks) : PortBlocks :=
  { b with
    ctl := { b.ctl.rest new with mode := new, previous := b.ctl.mode, lastCause := cause }
    seq := b.seq.stop
    travel := if b.ctl.mode.hasRecord then b.travel.noGrid else b.travel
    stream := if b.ctl.mode.scanning then { b.stream with group := none, miss := false } else b.stream }

theorem rest_eq (new : PortMode) (cause : Cause) : rest p new cause s = s.setPort p ((s.port p).rested new cause) := by
  have leaves : leaveScanning p s = s.setPort p { s.port p with
      stream := if (s.port p).ctl.mode.scanning then { (s.port p).stream with group := none, miss := false }
        else (s.port p).stream } := by
    unfold leaveScanning
    rw [mode_eq]
    split
    · rfl
    · exact setPort_self.symm
  have gives : ∀ u : State, leaveTube p u = u.setPort p { u.port p with
      travel := if (u.port p).ctl.mode.hasRecord then (u.port p).travel.noGrid else (u.port p).travel } := fun u => by
    unfold leaveTube
    rw [mode_eq]
    split
    · rfl
    · exact setPort_self.symm
  rw [rest, gives, leaves]
  simp only [transition, onCtl, onSeq, onPort, setPort_port_same, setPort_setPort]
  rfl

theorem stateEvent_eq (cause : Cause) (record : Option Nat) : stateEvent p cause record s =
    tell [stateReport p (s.mode p) (s.port p).ctl.previous cause record] s := rfl

theorem enterIdle_eq (cause : Cause) (record : Option Nat) : enterIdle p cause record s =
    tell (stateReport p .idle (s.mode p) cause record :: pendingReport p ((s.port p).rested .idle cause))
      (s.setPort p (((s.port p).rested .idle cause).settledAt s.now)) := by
  rw [enterIdle, rest_eq, stateEvent_eq, promoteIfPending_eq, tell_port, tell_now, (speaks_tell _).setPort, tell_tell,
    setPort_port_same, setPort_setPort, mode_eq, setPort_port_same]
  rfl

/-! ### The close of a record (R143) -/

theorem onStore_setPort (c : RecordStore → RecordStore) : (onStore c s).setPort p b = onStore c (s.setPort p b) := rfl

/-- A slot that holds an OPEN record of the port holds the port's one open record. -/
theorem opened_port_iff {r x : Record} (hopen : s.openRecords p = [r]) (h : .opened x ∈ s.store.slots) :
    x.port = p ↔ x = r := by
  have mine : r.port = p := openRecords_port (by rw [hopen]; exact List.mem_singleton_self r)
  constructor
  · intro hx
    have : x ∈ s.openRecords p := List.mem_filterMap.mpr ⟨_, h, if_pos hx⟩
    rwa [hopen, List.mem_singleton] at this
  · rintro rfl
    exact mine

/-- The pool once the open record of port `p`, written by `f`, has become a READY record with the number `n` at the tail of
the ready order. -/
def RecordStore.readied (p : PortId) (f : Record → Record) (n : Nat) (st : RecordStore) : RecordStore :=
  { st with slots := st.slots.map fun x => (x.onOpen p f).makeReady p, ready := st.ready ++ [n] }

/-- Step 5 of a close, behind a write to the open record. -/
theorem readyRecord_act {n : Nat} (hnumber : s.openNumber p = some n) (hf : Keeps f) :
    readyRecord p (act p b f s) = onStore (RecordStore.readied p f n) (s.setPort p b) := by
  have number : (act p b f s).openNumber p = some n := by
    rw [openNumber_eq, act_openRecords hf, ← hnumber, openNumber_eq]
    cases s.openRecords p with
    | nil => rfl
    | cons r rest => exact congrArg some (hf.number r)
  simp only [readyRecord, number]
  exact congrArg (fun l => { s.setPort p b with store := { s.store with slots := l, ready := s.store.ready ++ [n] } })
    (List.map_map ..)

/-- With one open record it is the one that becomes READY. -/
theorem readied_eq_closing {r : Record} {u : State} (hopen : s.openRecords p = [r]) (hf : Keeps f) (hstore : u.store = s.store) :
    onStore (RecordStore.readied p f r.number) u = onStore (RecordStore.closing r (f r)) u := by
  have slots : (u.store.slots.map fun x => (x.onOpen p f).makeReady p) =
      u.store.slots.map fun slot => if slot = .opened r then .ready (f r) else slot := by
    rw [hstore]
    refine List.map_congr_left fun x hx => ?_
    cases x with
    | free => rfl
    | ready _ => rfl
    | opened y =>
      by_cases hy : y.port = p
      · obtain rfl := (opened_port_iff hopen hx).mp hy
        simp [RecordSlot.onOpen, RecordSlot.makeReady, hy, hf.port]
      · have other : y ≠ r := fun h => hy ((opened_port_iff hopen hx).mpr h)
        simp [RecordSlot.onOpen, RecordSlot.makeReady, hy, other]
  exact congrArg (fun l => { u with store := { u.store with slots := l, ready := u.store.ready ++ [r.number] } }) slots

/-- All a close of an open record does: the blocks, the pool, one report, and the answer to a held CLOSE_TUBE. -/
theorem closeRecord_some {n : Nat} (reason : CloseReason) (lost : Option Int) (hnumber : s.openNumber p = some n) :
    closeRecord p reason lost s = answerHeld .closeTube p (.done (.closed n reason)) (tell [.recordReady p n reason]
      (onStore (RecordStore.readied p (Record.closedWith (s.port p) lost reason) n) (s.setPort p (s.port p).afterClose))) := by
  simp only [closeRecord, hnumber, closeProducers_eq, readyRecord_act hnumber (keeps_closedWith _ _ _)]
  rfl

theorem openNumber_of_openRecords {r : Record} (hopen : s.openRecords p = [r]) : s.openNumber p = some r.number := by
  rw [openNumber_eq, hopen]; rfl

theorem classifiedUnit_frame (w : Plan) (win : ClosedLandmark) (u : LandmarkUnit) : ∃ pointer correction matched,
    classifiedUnit w win u = { u with pointer := pointer, correction := correction, matched := matched } := by
  unfold classifiedUnit LandmarkUnit.judge
  dsimp only
  split
  · exact ⟨u.pointer, u.correction, u.matched, rfl⟩
  · split
    · exact ⟨_, u.correction, u.matched, rfl⟩
    · split
      · exact ⟨_, _, _, rfl⟩
      · exact ⟨_, u.correction, u.matched, rfl⟩

/-- The landmark unit once a record has closed. -/
theorem afterClose_land (b : PortBlocks) : b.afterClose.land = match b.land.window with
    | .opened => .clear
    | .idle => { b.land with correction := 0, matched := 0, pointer := none } := by
  unfold PortBlocks.afterClose PortBlocks.landAtClose
  cases b.land.window with
  | idle => rfl
  | opened =>
    obtain ⟨pointer, correction, matched, h⟩ := classifiedUnit_frame b.plan.working b.land.lastWindow b.land.windowIdle
    dsimp only
    rw [h]
    rfl

/-- The blocks of a port brought to IDLE by a close. -/
theorem afterClose_rested (cause : Cause) (hmode : b.ctl.mode.hasRecord = true) :
    b.afterClose.rested .idle cause = b.closedToIdle cause := by
  have scanning : b.ctl.mode.scanning = true := by revert hmode; cases b.ctl.mode <;> decide
  have land := afterClose_land b
  unfold PortBlocks.rested PortBlocks.closedToIdle
  rw [show b.afterClose.ctl = b.ctl from rfl, hmode, scanning, land]
  rfl

/-- A close that brings the port to IDLE. -/
theorem closeToIdle_some {n : Nat} (reason : CloseReason) (cause : Cause) (hnumber : s.openNumber p = some n)
    (hmode : (s.port p).ctl.mode.hasRecord = true) : closeToIdle p reason cause s =
    answerHeld .closeTube p (.done (.closed n reason)) (tell (closeReports p (s.port p) n reason cause)
      (onStore (RecordStore.readied p (Record.closedWith (s.port p) (s.port p).waitingPoint reason) n)
        (s.setPort p (((s.port p).closedToIdle cause).settledAt s.now)))) := by
  have speaks := speaks_answerHeld .closeTube p (.done (.closed n reason))
  rw [closeToIdle, closeRecord_some reason _ hnumber, enterIdle_eq, hnumber, lostPoint_eq, speaks.setPort,
    tell_answerHeld, (speaks_tell _).setPort, tell_tell, mode_eq, speaks.port, speaks.now]
  simp only [tell_port, tell_now, onStore_port, setPort_port_same, onStore_now, setPort_now, afterClose_rested cause hmode]
  have reports : [.recordReady p n reason] ++ stateReport p .idle (s.port p).afterClose.ctl.mode cause (some n) ::
      pendingReport p ((s.port p).closedToIdle cause) = closeReports p (s.port p) n reason cause := by
    rfl
  rw [reports, onStore_setPort, setPort_setPort]

/-- A close that brings the port to IDLE, where its one record is open. -/
theorem closeToIdle_eq {r : Record} (reason : CloseReason) (cause : Cause) (hopen : s.openRecords p = [r])
    (hmode : (s.port p).ctl.mode.hasRecord = true) : closeToIdle p reason cause s =
    answerHeld .closeTube p (.done (.closed r.number reason)) (tell (closeReports p (s.port p) r.number reason cause)
      (onStore (RecordStore.closing r (r.closedBy (s.port p) reason))
        (s.setPort p (((s.port p).closedToIdle cause).settledAt s.now)))) := by
  rw [closeToIdle_some reason cause (openNumber_of_openRecords hopen) hmode,
    readied_eq_closing hopen (keeps_closedWith _ _ _) setPort_store, ← closedBy_eq]

end Sys2Proof.Machine

/-! PROOFS. A coil fault, PORT_DISABLE and RESET on the blocks of a port (R6, R10, R19). -/

namespace Sys2Proof.Machine

variable {p q : PortId} {s t : State} {b b' : PortBlocks} {f g : Record → Record}

/-! ### The end of what a port is doing (R6 and R10, steps 1 to 4) -/

/-- The blocks of a port whose scan in flight has been ended, with its samples (R52). -/
def PortBlocks.scanEnded (b : PortBlocks) : PortBlocks := { b with seq := b.seq.stop, chan := { b.chan with held := [] } }

theorem endScan_eq : endScan p s = s.setPort p (s.port p).scanEnded := by
  simp only [endScan, onChan, onSeq, onPort, setPort_port_same, setPort_setPort]
  rfl

/-- An answer, or none, that is given to a held request. -/
structure Answers (ans : State → State) : Prop where
  speaks : Speaks ans
  tell : ∀ rs s, tell rs (ans s) = ans (Machine.tell rs s)

theorem answers_id : Answers id := ⟨⟨id, fun _ => rfl⟩, fun _ _ => rfl⟩

theorem answers_answerHeld (k : RequestKind) (p : PortId) (body : ReplyBody) : Answers (answerHeld k p body) :=
  ⟨speaks_answerHeld k p body, fun rs _ => tell_answerHeld rs k body⟩

/-- Port `p` with blocks `b`, the pool changed by `c`, the reports `rs` told and an answer given. -/
def said (ans : State → State) (rs : List Report) (c : RecordStore → RecordStore) (p : PortId) (b : PortBlocks)
    (s : State) : State := ans (tell rs (onStore c (s.setPort p b)))

section Said

variable {ans : State → State} {rs rs' : List Report} {c : RecordStore → RecordStore}

theorem said_setPort (h : Answers ans) : (said ans rs c p b s).setPort p b' = said ans rs c p b' s := by
  rw [said, h.speaks.setPort, (speaks_tell rs).setPort, onStore_setPort, setPort_setPort]
  rfl

theorem tell_said (h : Answers ans) : tell rs' (said ans rs c p b s) = said ans (rs ++ rs') c p b s := by
  rw [said, h.tell, tell_tell]
  rfl

theorem said_port (h : Answers ans) : (said ans rs c p b s).port p = b := by
  rw [said, h.speaks.port, tell_port, onStore_port, setPort_port_same]

theorem said_port_ne (h : Answers ans) (hq : q ≠ p) : (said ans rs c p b s).port q = s.port q := by
  rw [said, h.speaks.port, tell_port, onStore_port, setPort_port_ne _ hq]

theorem said_now (h : Answers ans) : (said ans rs c p b s).now = s.now := by
  rw [said, h.speaks.now, tell_now]
  rfl

theorem said_pending (h : Answers ans) : (said ans rs c p b s).pending = s.pending := by
  rw [said, h.speaks.pending, tell_pending]
  rfl

theorem said_store (h : Answers ans) : (said ans rs c p b s).store = c s.store := by
  rw [said, h.speaks.store, tell_store]
  rfl

end Said

/-- How the operation of a port ends, by the state the port is in: the answer it gives, its reports, what becomes of the
pool and of the blocks (R6 and R10, steps 1 to 4). The last but one is a port with a record and no open record, which no
run reaches. -/
inductive Ending (p : PortId) (reason : CloseReason) (s : State) :
    (State → State) → List Report → (RecordStore → RecordStore) → PortBlocks → Prop
  | record {n : Nat} (hmode : (s.port p).ctl.mode.hasRecord = true) (hnumber : s.openNumber p = some n) :
    Ending p reason s (answerHeld .closeTube p (.done (.closed n reason))) [.recordReady p n reason]
      (RecordStore.readied p (Record.closedWith (s.port p) (s.port p).waitingPoint reason) n) (s.port p).scanEnded.afterClose
  | nulling (hmode : (s.port p).ctl.mode = .nulling) :
    Ending p reason s (answerHeld .nullChannels p (.refused .aborted none)) [] id
      { (s.port p).scanEnded with chan := { (s.port p).scanEnded.chan with accum := none } }
  | bare (hmode : (s.port p).ctl.mode.hasRecord = true) (hnumber : s.openNumber p = none) :
    Ending p reason s id [] id (s.port p).scanEnded
  | rest (hmode : (s.port p).ctl.mode.scanning = false) : Ending p reason s id [] id (s.port p).scanEnded

theorem endOperation_hasRecord (reason : CloseReason) (hmode : (s.port p).ctl.mode.hasRecord = true) :
    endOperation p reason s = closeRecord p reason (lostPoint s p) (endScan p s) := by
  unfold endOperation
  rw [mode_eq]
  revert hmode
  cases (s.port p).ctl.mode <;> intro hmode <;> trivial

theorem endOperation_rest (reason : CloseReason) (hmode : (s.port p).ctl.mode.scanning = false) :
    endOperation p reason s = endScan p s := by
  unfold endOperation
  rw [mode_eq]
  revert hmode
  cases (s.port p).ctl.mode <;> intro hmode <;> trivial

/-- In every state the operation of a port ends in one of these ways. -/
theorem exists_ending (p : PortId) (reason : CloseReason) (s : State) : ∃ ans rs c b, Ending p reason s ans rs c b := by
  cases hrecord : (s.port p).ctl.mode.hasRecord with
  | true =>
    cases hnumber : s.openNumber p with
    | some n => exact ⟨_, _, _, _, .record hrecord hnumber⟩
    | none => exact ⟨_, _, _, _, .bare hrecord hnumber⟩
  | false =>
    by_cases hnulling : (s.port p).ctl.mode = .nulling
    · exact ⟨_, _, _, _, .nulling hnulling⟩
    · refine ⟨_, _, _, _, .rest ?_⟩
      revert hrecord hnulling
      cases (s.port p).ctl.mode <;> simp [PortMode.hasRecord, PortMode.scanning]

section Endings

variable {reason : CloseReason} {ans : State → State} {rs : List Report} {c : RecordStore → RecordStore}

theorem Ending.answers (h : Ending p reason s ans rs c b) : Answers ans := by
  cases h with
  | record => exact answers_answerHeld _ _ _
  | nulling => exact answers_answerHeld _ _ _
  | bare => exact answers_id
  | rest => exact answers_id

theorem Ending.eq (h : Ending p reason s ans rs c b) : endOperation p reason s = said ans rs c p b s := by
  cases h with
  | record hmode hnumber =>
    have number : (s.setPort p (s.port p).scanEnded).openNumber p = _ := hnumber
    rw [endOperation_hasRecord reason hmode, endScan_eq, closeRecord_some _ _ number, lostPoint_eq, setPort_port_same,
      setPort_setPort]
    rfl
  | nulling hmode =>
    unfold endOperation
    simp only [mode_eq, hmode, abandonNull, endScan_eq, onChan, onPort, setPort_port_same, setPort_setPort]
    rfl
  | bare hmode hnumber =>
    have none' : closeRecord p reason (lostPoint s p) (endScan p s) = endScan p s := by
      have number : (endScan p s).openNumber p = none := hnumber
      simp only [closeRecord, number]
    rw [endOperation_hasRecord reason hmode, none', endScan_eq]
    rfl
  | rest hmode =>
    rw [endOperation_rest reason hmode, endScan_eq]
    rfl

end Endings

/-! ### The coil fault (R10) -/

/-- The report of a COIL_FAULT event (R15). -/
def coilFaultReport (p : PortId) (previous : PortMode) (d : FaultDetail) : Report :=
  .portEvent { port := p, kind := .coilFault, state := .fault, previous := previous, cause := .coilFault,
               record := d.record, generation := none, slot := some d.slot, status := some d.status,
               declaredIn := some d.declaredIn }

/-- The report of an abort of a drive channel. -/
def abortReport (p : PortId) (source : AbortSource) : Report :=
  .driveEvent p { kind := .aborted source none, state := .awaitHalt, queueLength := 0 }

/-- The blocks of a port in FAULT, from the blocks at the end of its operation. -/
def PortBlocks.faulted (b : PortBlocks) : PortBlocks := { b with drive := b.drive.halt }.rested .fault .coilFault

/-- The fault detail of a coil fault declared now. -/
def State.faultDetail (s : State) (p : PortId) (slot : Nat) (status : DriveStatus) : FaultDetail :=
  { slot := slot, status := status, declaredIn := s.mode p, record := s.openNumber p }

theorem coilFault_eq {slot : Nat} {status : DriveStatus} {ans : State → State} {rs : List Report}
    {c : RecordStore → RecordStore}
    (h : Ending p .fault (s.setPort p { s.port p with
      ctl := { (s.port p).ctl with fault := some (s.faultDetail p slot status) } }) ans rs c b) :
    coilFault p slot status s = said ans (rs ++ [abortReport p .portFault,
        coilFaultReport p b.ctl.mode (s.faultDetail p slot status)] ++ pendingReport p b.faulted) c p
      (b.faulted.settledAt s.now) s := by
  have hans := h.answers
  have ended : endOperation p .fault (onCtl p (fun c => { c with fault := some (s.faultDetail p slot status) }) s) =
      said ans rs c p b s := h.eq.trans (congrArg (fun u => ans (tell rs (onStore c u))) (setPort_setPort _ _))
  have event : ∀ u : State, u.port p = b.faulted → coilFaultEvent p (s.faultDetail p slot status) u =
      tell [coilFaultReport p b.ctl.mode (s.faultDetail p slot status)] u := fun u hu => by
    rw [coilFaultEvent, portEvent, mode_eq, hu]
    rfl
  have declared : coilFault p slot status s = promoteIfPending p (coilFaultEvent p (s.faultDetail p slot status)
      (rest p .fault .coilFault (driveAbort p .portFault (said ans rs c p b s)))) := by rw [← ended]; rfl
  have rested : rest p .fault .coilFault (driveAbort p .portFault (said ans rs c p b s)) =
      said ans (rs ++ [abortReport p .portFault]) c p b.faulted s := by
    rw [driveAbort_eq, said_port hans, said_setPort hans, tell_said hans, rest_eq, said_port hans, said_setPort hans]
    rfl
  rw [declared, rested, event _ (said_port hans), tell_said hans, promoteIfPending_eq, said_port hans, said_setPort hans,
    tell_said hans, said_now hans]
  simp only [List.append_assoc, List.cons_append, List.nil_append]

/-! ### PORT_DISABLE (R6, R7) -/

/-- The blocks of a port in OFF, from the blocks at the end of its operation. -/
def PortBlocks.disabled (b : PortBlocks) : PortBlocks :=
  let c := { b with drive := b.drive.halt }.cleared
  { c with ctl := { c.ctl with mode := .off, previous := b.ctl.mode, lastCause := .disable } }

theorem disablePort_eq {ans : State → State} {rs : List Report} {c : RecordStore → RecordStore}
    (h : Ending p .disabled s ans rs c b) : disablePort p s =
      said ans (rs ++ [abortReport p .portOff, stateReport p .off b.ctl.mode .disable (s.openNumber p)] ++
        pendingReport p b.disabled) c p (b.disabled.settledAt s.now) s := by
  have hans := h.answers
  have off : transition p .off .disable (onPort p PortBlocks.cleared (driveAbort p .portOff (endOperation p .disabled s))) =
      said ans (rs ++ [abortReport p .portOff]) c p b.disabled s := by
    rw [h.eq, driveAbort_eq, said_port hans, said_setPort hans, tell_said hans]
    simp only [transition, onCtl, onPort, said_port hans, said_setPort hans]
    rfl
  have event : stateEvent p .disable (s.openNumber p) (said ans (rs ++ [abortReport p .portOff]) c p b.disabled s) =
      tell [stateReport p .off b.ctl.mode .disable (s.openNumber p)]
        (said ans (rs ++ [abortReport p .portOff]) c p b.disabled s) := by
    rw [stateEvent_eq, mode_eq, said_port hans]
    rfl
  simp only [disablePort]
  rw [off, event, tell_said hans, promoteIfPending_eq, said_port hans, said_setPort hans, tell_said hans, said_now hans]
  simp only [List.append_assoc, List.cons_append, List.nil_append]

/-! ### RESET (R19, R186) -/

/-- The blocks of a port in OFF after RESET, before a pending plan is promoted. -/
def PortBlocks.resetOff (b : PortBlocks) : PortBlocks :=
  let c := { b with drive := b.drive.resetHalt }.cleared
  { c with ctl := { c.ctl with mode := .off, previous := b.ctl.mode, lastCause := .reset } }

theorem resetPort_eq : resetPort s p = s.setPort p ((s.port p).resetOff.settledAt s.now) := by
  have off : transition p .off .reset (onPort p PortBlocks.cleared (onDrive p DriveChannel.resetHalt s)) =
      s.setPort p (s.port p).resetOff := by
    simp only [transition, onCtl, onDrive, onPort, setPort_port_same, setPort_setPort]
    rfl
  unfold resetPort PortBlocks.settledAt
  dsimp only
  rw [off]
  cases hpending : (s.port p).plan.pending with
  | false => rw [if_neg Bool.false_ne_true, if_neg (by simp [PortBlocks.resetOff, PortBlocks.cleared, hpending])]
  | true =>
    rw [if_pos rfl, if_pos (by simp [PortBlocks.resetOff, PortBlocks.cleared, hpending]), promote_none, setPort_port_same,
      setPort_setPort]
    rfl

/-- RESET of the four ports, each by its own blocks. -/
theorem resetPorts_eq : allPorts.foldl resetPort s =
    { s with ports := {
        a := (s.port .a).resetOff.settledAt s.now, b := (s.port .b).resetOff.settledAt s.now,
        c := (s.port .c).resetOff.settledAt s.now, d := (s.port .d).resetOff.settledAt s.now } } := by
  simp only [allPorts, List.foldl_cons, List.foldl_nil, resetPort_eq]
  rfl

theorem resetPorts_port : (allPorts.foldl resetPort s).port p = (s.port p).resetOff.settledAt s.now := by
  rw [resetPorts_eq]
  cases p <;> rfl

theorem settledAt_drive (now : Nat) (b : PortBlocks) : (b.settledAt now).drive = b.drive := by
  unfold PortBlocks.settledAt PortBlocks.promotedAt
  split
  · split <;> rfl
  · rfl

/-- RESET after its replies. -/
theorem resetPart_eq : resetPart s = tell (allPorts.map fun p => abortReport p .reset)
    (onLink LinkController.afterReset (onStore (fun _ => RecordStore.empty) (allPorts.foldl resetPort s))) := by
  have event : ∀ (p : PortId) (rs : List Report) (u : State),
      u.ports = (allPorts.foldl resetPort s).ports → resetEvent (tell rs u) p = tell (rs ++ [abortReport p .reset]) u :=
    fun p rs u hu => by
      have blocks : (tell rs u).port p = (s.port p).resetOff.settledAt s.now := by
        rw [tell_port, State.port, hu]
        exact resetPorts_port
      rw [resetEvent, blocks, settledAt_drive, ← tell_tell]
      rfl
  have four : ∀ u : State, u.ports = (allPorts.foldl resetPort s).ports →
      allPorts.foldl resetEvent u = tell (allPorts.map fun p => abortReport p .reset) u := fun u hu => by
    rw [allPorts, List.foldl_cons, List.foldl_cons, List.foldl_cons, List.foldl_cons, List.foldl_nil]
    exact (congrArg (fun v => resetEvent (resetEvent (resetEvent v .b) .c) .d) (event .a [] u hu)).trans <|
      (congrArg (fun v => resetEvent (resetEvent v .c) .d) (event .b _ u hu)).trans <|
      (congrArg (fun v => resetEvent v .d) (event .c _ u hu)).trans (event .d _ u hu)
  exact four _ rfl

end Sys2Proof.Machine

/-! PROOFS. What the writes to an open record keep: its identity (R135), the law of its lists (R125, R139 to R141) and its
tally of trigger points (R138). -/

namespace Sys2Proof.Machine

variable {r r' : Record} {f g : Record → Record}

/-! ### The law of the lists -/

/-- The law of a record looks at its three lists and two of its counters. -/
theorem Record.lawful_congr (hlaw : r.lawful) (hlandmarks : r'.landmarks = r.landmarks)
    (hindications : r'.indications = r.indications) (hgaps : r'.gaps = r.gaps)
    (hoverflow : r'.counters.overflow = r.counters.overflow) (haccepted : r'.counters.accepted = r.counters.accepted) :
    r'.lawful := by
  unfold Record.lawful
  rw [hlandmarks, hindications, hgaps, hoverflow, haccepted]
  exact hlaw

theorem Record.addLandmark_lawful (e : LandmarkEntry) (hlaw : r.lawful) : (r.addLandmark e).lawful := by
  obtain ⟨hlandmarks, hrest⟩ := hlaw
  unfold Record.addLandmark
  split
  next hroom =>
    refine ⟨?_, hrest⟩
    simpa using hroom
  next => exact ⟨hlandmarks, hrest⟩

theorem Record.addLandmarks_lawful (es : List LandmarkEntry) (hlaw : r.lawful) : (r.addLandmarks es).lawful := by
  unfold Record.addLandmarks
  induction es generalizing r with
  | nil => exact hlaw
  | cons e rest ih => exact ih (Record.addLandmark_lawful e hlaw)

theorem Record.addGap_lawful (x : Gap) (hlaw : r.lawful) : (r.addGap x).lawful := by
  obtain ⟨hlandmarks, hindications, hgaps, hrest⟩ := hlaw
  unfold Record.addGap
  split
  next hroom => exact ⟨hlandmarks, hindications, by simpa using hroom, hrest⟩
  next => exact ⟨hlandmarks, hindications, by rwa [mergeLast_length], hrest⟩

/-- A list kept within 64 entries and in order takes an indication, where the accepted count has been raised for it. -/
theorem Record.addIndication_lawful (i : Indication) (hlaw : r.lawful) : (r.countAccepted.addIndication i).lawful := by
  obtain ⟨hlandmarks, hlength, hgaps, htally, horder⟩ := hlaw
  by_cases hroom : r.indications.length < Config.indicationEntries
  · rw [addIndication_room (r := r.countAccepted) hroom]
    refine ⟨hlandmarks, ?_, hgaps, ?_, placeIndication_pairwise i horder⟩
    · exact (placeIndication_length i _).trans_le hroom
    · have := placeIndication_length i r.indications
      simp only [Record.countAccepted, Record.onCounters]
      omega
  · have full : r.indications ≠ [] := by
      rintro h
      rw [h] at hroom
      exact hroom (by decide)
    obtain ⟨first, rest, hl⟩ := List.exists_cons_of_ne_nil full
    obtain ⟨before, e, after, hparts, -, -, -, hdrop⟩ := dropLastOf_smallest first rest
    have kept : (before ++ after).length + 1 = r.indications.length := by
      rw [hl, hparts]
      simp only [List.length_append, List.length_cons]
      omega
    have ordered : (before ++ after).Pairwise fun a b => b.pos ≤ a.pos := by
      rw [hl, hparts] at horder
      exact horder.sublist (by simp)
    have open' : r.countAccepted.indications = first :: rest := hl
    rw [addIndication_full open' hroom, open', hdrop]
    have placed := placeIndication_length i (before ++ after)
    split
    · refine ⟨hlandmarks, placed.trans_le (kept.trans_le hlength), hgaps, ?_, placeIndication_pairwise i ordered⟩
      simp only [Record.countAccepted, Record.onCounters]
      omega
    · refine ⟨hlandmarks, hl ▸ hlength, hgaps, ?_, hl ▸ horder⟩
      simp only [Record.countAccepted, Record.onCounters]
      simp only [hl] at htally kept
      omega

theorem Record.judge_lawful (cfg : DetectFields) (curve : List CurvePoint) (w : ClosedWindow) (hlaw : r.lawful) :
    (r.judge cfg curve w).lawful := by
  have marked : (if w.truncated then r.setWindowTruncated else r).lawful := by split <;> exact hlaw
  unfold Record.judge
  dsimp only
  split
  · exact hlaw
  · split
    · exact marked
    · exact Record.addIndication_lawful _ marked

/-! ### Sound and mild writes -/

/-- A write that keeps the identity and the law of every record. -/
structure Sound (f : Record → Record) : Prop where
  keeps : Keeps f
  lawful : ∀ r, r.lawful → (f r).lawful

/-- A sound write that leaves the counts of scans taken and of missed triggers. -/
structure Mild (f : Record → Record) : Prop extends Sound f where
  tally : ∀ r, (f r).counters.scansTaken = r.counters.scansTaken ∧ (f r).counters.missed = r.counters.missed

theorem Sound.comp (hg : Sound g) (hf : Sound f) : Sound (g ∘ f) :=
  ⟨hg.keeps.comp hf.keeps, fun r hlaw => hg.lawful _ (hf.lawful r hlaw)⟩

theorem Mild.id : Mild id := ⟨⟨Keeps.id, fun _ h => h⟩, fun _ => ⟨rfl, rfl⟩⟩

theorem Mild.comp (hg : Mild g) (hf : Mild f) : Mild (g ∘ f) :=
  ⟨hg.toSound.comp hf.toSound, fun r =>
    ⟨(hg.tally (f r)).1.trans (hf.tally r).1, (hg.tally (f r)).2.trans (hf.tally r).2⟩⟩

theorem mild_onFlags (c : RecordFlags → RecordFlags) : Mild (Record.onFlags c) :=
  ⟨⟨keeps_onFlags c, fun _ hlaw => hlaw⟩, fun _ => ⟨rfl, rfl⟩⟩

theorem mild_countReversal : Mild Record.countReversal := ⟨⟨fun _ => rfl, fun _ hlaw => hlaw⟩, fun _ => ⟨rfl, rfl⟩⟩

theorem mild_raiseSpeed (speed : Nat) : Mild (Record.raiseSpeed speed) :=
  ⟨⟨keeps_onCounters _, fun _ hlaw => hlaw⟩, fun _ => ⟨rfl, rfl⟩⟩

theorem mild_setGridOrigin (x : Int) : Mild (Record.setGridOrigin x) :=
  ⟨⟨fun _ => rfl, fun _ hlaw => hlaw⟩, fun _ => ⟨rfl, rfl⟩⟩

theorem sound_countScan : Sound Record.countScan := ⟨keeps_onCounters _, fun _ hlaw => hlaw⟩

theorem sound_countMissed : Sound Record.countMissed := ⟨keeps_onCounters _, fun _ hlaw => hlaw⟩

theorem mild_addGap (x : Gap) : Mild (Record.addGap x) :=
  ⟨⟨keeps_addGap x, fun _ => Record.addGap_lawful x⟩, fun r => by unfold Record.addGap; split <;> exact ⟨rfl, rfl⟩⟩

theorem mild_addLandmark (e : LandmarkEntry) : Mild (Record.addLandmark e) :=
  ⟨⟨keeps_addLandmark e, fun _ => Record.addLandmark_lawful e⟩, fun r => by
    unfold Record.addLandmark; split <;> exact ⟨rfl, rfl⟩⟩

theorem mild_addLandmarks (es : List LandmarkEntry) : Mild (Record.addLandmarks es) := by
  refine ⟨⟨keeps_addLandmarks es, fun _ => Record.addLandmarks_lawful es⟩, fun r => ?_⟩
  unfold Record.addLandmarks
  induction es generalizing r with
  | nil => exact ⟨rfl, rfl⟩
  | cons e rest ih =>
    obtain ⟨hscans, hmissed⟩ := ih (r.addLandmark e)
    obtain ⟨hscans', hmissed'⟩ := (mild_addLandmark e).tally r
    exact ⟨hscans.trans hscans', hmissed.trans hmissed'⟩

theorem mild_judge (cfg : DetectFields) (curve : List CurvePoint) (w : ClosedWindow) : Mild (Record.judge cfg curve w) := by
  refine ⟨⟨keeps_judge cfg curve w, fun _ => Record.judge_lawful cfg curve w⟩, fun r => ?_⟩
  have marked : ∀ x : Record, x = (if w.truncated then r.setWindowTruncated else r) →
      x.counters.scansTaken = r.counters.scansTaken ∧ x.counters.missed = r.counters.missed := by
    rintro x rfl
    split <;> exact ⟨rfl, rfl⟩
  have listed : ∀ (i : Indication) (x : Record), (x.addIndication i).counters.scansTaken = x.counters.scansTaken ∧
      (x.addIndication i).counters.missed = x.counters.missed := fun i x => by
    unfold Record.addIndication; split <;> exact ⟨rfl, rfl⟩
  unfold Record.judge
  dsimp only
  split
  · exact ⟨rfl, rfl⟩
  · split
    · obtain ⟨hscans, hmissed⟩ := marked _ rfl
      exact ⟨hscans, hmissed⟩
    · obtain ⟨hscans, hmissed⟩ := marked _ rfl
      exact ⟨(listed _ _).1.trans hscans, (listed _ _).2.trans hmissed⟩

theorem mild_classifiedRecord (w : Plan) (win : ClosedLandmark) (u : LandmarkUnit) : Mild (classifiedRecord w win u) := by
  by_cases h : 4 ≤ win.satLongest
  · rw [show classifiedRecord w win u = Record.setEndSeen ∘ Record.addLandmark (win.entry .tubeEnd) from
      funext fun r => if_pos h]
    exact (mild_onFlags _).comp (mild_addLandmark _)
  · rw [show classifiedRecord w win u = Record.addLandmarks (u.judge w.supports w.landmark.tolerance win).2 from
      funext fun r => if_neg h]
    exact mild_addLandmarks _

/-! ### The writes of a close -/

theorem mild_judgedAtClose (b : PortBlocks) : Mild b.judgedAtClose := by
  cases h : b.det.state with
  | opened => rw [judgedAtClose_of_opened h]; exact mild_judge _ _ _
  | idle => rw [judgedAtClose_of_not_opened (.inl h)]; exact Mild.id
  | blocked => rw [judgedAtClose_of_not_opened (.inr h)]; exact Mild.id

theorem mild_classifiedAtClose (b : PortBlocks) : Mild b.classifiedAtClose := by
  cases h : b.land.window with
  | idle =>
    rw [show b.classifiedAtClose = id from funext fun r => by simp [PortBlocks.classifiedAtClose, h]]
    exact Mild.id
  | opened =>
    rw [show b.classifiedAtClose = classifiedRecord b.plan.working b.land.lastWindow b.land.windowIdle from
      funext fun r => by simp [PortBlocks.classifiedAtClose, h]]
    exact mild_classifiedRecord _ _ _

theorem mild_runWritten (b : PortBlocks) (run : Option MissedRun) : Mild (b.runWritten run) := by
  cases run with
  | none => exact Mild.id
  | some m => exact mild_addGap _

theorem mild_gapWritten (u : StreamUnit) : Mild u.gapWritten := by
  cases h : u.gap with
  | none =>
    rw [show u.gapWritten = id from funext fun r => by simp [StreamUnit.gapWritten, h]]
    exact Mild.id
  | some x =>
    rw [show u.gapWritten = Record.addGap (x.toGap x.last) from funext fun r => by simp [StreamUnit.gapWritten, h]]
    exact mild_addGap _

theorem sound_countedLost (lost : Option Int) : Sound (countedLost lost) := by
  cases lost with
  | none => exact Mild.id.toSound
  | some pos => exact sound_countMissed

/-- The writes of a close behind the count of the lost point. -/
theorem mild_listings (b : PortBlocks) (lost : Option Int) : Mild (Record.addLandmarks b.atListing.passedAtEnd.2 ∘
    b.stream.gapWritten ∘ b.atListing.runWritten (lastRun b.travel.run lost)) :=
  (mild_addLandmarks _).comp ((mild_gapWritten _).comp (mild_runWritten _ _))

theorem sound_closedWith (b : PortBlocks) (lost : Option Int) (reason : CloseReason) :
    Sound (Record.closedWith b lost reason) := by
  have produced : Sound (Record.produced b lost) := (mild_listings b lost).toSound.comp <|
    (sound_countedLost lost).comp ((mild_classifiedAtClose b).comp (mild_judgedAtClose b)).toSound
  exact ⟨keeps_closedWith b lost reason, fun r hlaw => produced.lawful r hlaw⟩

/-- A close counts the point that waited as missed, and nothing else of the tally. -/
theorem closedWith_tally (b : PortBlocks) (lost : Option Int) (reason : CloseReason) (r : Record) :
    (r.closedWith b lost reason).counters.scansTaken = r.counters.scansTaken ∧
    (r.closedWith b lost reason).counters.missed = r.counters.missed + (if lost.isSome then 1 else 0) ∧
    (r.closedWith b lost reason).closeReason = some reason := by
  obtain ⟨hscans, hmissed⟩ := (mild_listings b lost).tally (countedLost lost (b.classifiedAtClose (b.judgedAtClose r)))
  obtain ⟨hscans', hmissed'⟩ := ((mild_classifiedAtClose b).comp (mild_judgedAtClose b)).tally r
  have lostOne : ∀ x : Record, (countedLost lost x).counters.scansTaken = x.counters.scansTaken ∧
      (countedLost lost x).counters.missed = x.counters.missed + (if lost.isSome then 1 else 0) := fun x => by
    cases lost <;> exact ⟨rfl, rfl⟩
  exact ⟨hscans.trans ((lostOne _).1.trans hscans'),
    hmissed.trans ((lostOne _).2.trans (congrArg (· + _) hmissed')), rfl⟩

end Sys2Proof.Machine

/-! PROOFS. What one command can do: the acts every command is made of, with what guards each. -/

namespace Sys2Proof.Machine

variable {p q : PortId} {s t : State} {b b' : PortBlocks} {f g : Record → Record}

/-! ### Acts on one port that stay within its state -/

/-- Work on a port that leaves its controller, its plans, its sequencer and its drive channel, and with them every count a
law is made of. -/
structure Quiet (b b' : PortBlocks) (f : Record → Record) : Prop where
  ctl : b'.ctl = b.ctl
  plan : b'.plan = b.plan
  seq : b'.seq = b.seq
  drive : b'.drive = b.drive
  nulls : b'.chan.nulls = b.chan.nulls
  accum : ∀ a', b'.chan.accum = some a' → ∃ a, b.chan.accum = some a ∧ a'.sums.length ≤ a.sums.length
  grid : b'.travel.grid = b.travel.grid
  limitSpeed : b'.travel.limitSpeed = b.travel.limitSpeed
  guardLimit : b'.travel.guardLimit = b.travel.guardLimit
  ring : b.stream.ring.length ≤ Config.ringFrames → b'.stream.ring.length ≤ Config.ringFrames
  correction : (b'.land.correction = b.land.correction ∧ b'.land.matched = b.land.matched) ∨
    (b.ctl.mode.hasRecord = true ∧
      (b.land.correction.natAbs ≤ b.land.matched * b.plan.working.landmark.tolerance →
        b'.land.correction.natAbs ≤ b'.land.matched * b.plan.working.landmark.tolerance))
  mild : Mild f

/-- A change of the sequencer that begins no DISTANCE scan, and in ACQUIRING ends none. -/
structure Sequenced (b : PortBlocks) (q : Sequencer) : Prop where
  tables : q.periods = b.seq.periods ∧ q.slots = b.seq.slots ∧ q.duration = b.seq.duration
  closeHold : q.closeHold = b.seq.closeHold
  scan : q.scan.isSome = true → b.seq.scan.isSome = true ∨ b.ctl.mode.scanning = true
  timed : q.timer.isSome = true ∨ q.owed = true →
    (b.seq.timer.isSome = true ∨ b.seq.owed = true) ∨ b.ctl.mode = .nulling ∨ b.ctl.mode = .armed
  held : q.held.isSome = true → b.seq.held.isSome = true
  acquiring : b.ctl.mode = .acquiring → q.held = b.seq.held ∧ (b.seq.scan.isSome = true → q.scan.isSome = true) ∧
    q.inDistance = b.seq.inDistance
  armed : b.ctl.mode = .armed → q.inDistance = true → b.seq.inDistance = true

/-! ### The acts -/

/-- What a command does in one act, where it answers no request that takes time (R85, R142). -/
inductive Op : State → State → Prop
  | advance {s : State} (time : Nat) : Op s (advance time s)
  | report {s : State} (r : Report) : Op s (report r s)
  | reply {s : State} (place : Nat) (body : ReplyBody) : Op s (reply place body s)
  | refuse {s : State} (code : RefusalCode) (kind tag port : Byte) : Op s (refuseAtOnce code kind tag port s)
  | deframe {s : State} (state : DeframerState) (content : List Byte) 
    (h : s.link.deframer.content.length ≤ Config.contentMax → content.length ≤ Config.contentMax) :
    Op s (setDeframer state content s)
  | count {s : State} (f : LinkCounters → LinkCounters) : Op s (onCounters f s)
  | sent {s : State} : Op s (frameSent s)
  | arbitrate {s : State} : Op s (arbitrate s)
  | powerUp {s : State} : Op s (powerUp s)
  | release {s : State} (n : Nat) : Op s (releaseRecord n s)
  | drive {s : State} {p : PortId} {d : DriveChannel} (h : (s.port p).drive.lawful → d.lawful) :
    Op s (s.setPort p { s.port p with drive := d })
  | quiet {s : State} {p : PortId} {b : PortBlocks} {f : Record → Record} (h : Quiet (s.port p) b f) : Op s (act p b f s)
  | sequenced {s : State} {p : PortId} {q : Sequencer} (h : Sequenced (s.port p) q) :
    Op s (s.setPort p { s.port p with seq := q })
  | counted {s : State} {p : PortId} {runs : List Nat} (hscan : (s.port p).seq.scan.isSome = true)
    (hlength : runs.length = (s.port p).ctl.runs.length)
    (hruns : (∀ n ∈ (s.port p).ctl.runs, n < Config.coilFaultRun) → ∀ n ∈ runs, n < Config.coilFaultRun) :
    Op s (s.setPort p { s.port p with ctl := { (s.port p).ctl with runs := runs } })
  | edit {s : State} {p : PortId} {edit : Plan → Plan} (hpending : (s.port p).plan.pending = false)
    (hrange : ∀ w, w.InRange → (edit w).InRange) :
    Op s (onPlan p (fun st => { st with staged := edit st.staged }) s)
  | discard {s : State} {p : PortId} : Op s (onPlan p (fun st => { st with staged := st.working, pending := false }) s)
  | commitRest {s : State} {p : PortId} (hrest : (s.port p).ctl.mode.atRest = true)
    (hvalid : (s.port p).plan.staged.validate = none) : Op s (s.setPort p
      ({ s.port p with plan := { (s.port p).plan with staged := (s.port p).plan.staged.commitClamped } }.promotedAt s.now))
  | commitPending {s : State} {p : PortId} (hscanning : (s.port p).ctl.mode.scanning = true)
    (hvalid : (s.port p).plan.staged.validate = none) : Op s (act p
      { s.port p with plan := { (s.port p).plan with staged := (s.port p).plan.staged.commitClamped, pending := true } }
      Record.setPlanPending s)
  | idles {s : State} {p : PortId} {cause : Cause} (h : (s.port p).ctl.mode = .off ∨ (s.port p).ctl.mode = .fault ∨
      ((s.port p).ctl.mode.hasRecord = true ∧ s.openNumber p = none)) :
    Op s (s.setPort p (((s.port p).rested .idle cause).settledAt s.now))
  | opens {s : State} {p : PortId} {row column sec p0 : Nat} {r : Record} (hidle : (s.port p).ctl.mode = .idle)
    (hfree : .free ∈ s.store.slots) (hr : r = tubeRecord s p row column sec p0) :
    Op s (onPort p (PortBlocks.armed s.now r.p0) (onStore (RecordStore.openWith r) s))
  | enters {s : State} {p : PortId} (harmed : (s.port p).ctl.mode = .armed) (hclose : (s.port p).seq.closeHold = false) :
    Op s (act p ((s.port p).entered s.now) (Record.setGridOrigin (s.port p).travel.raw) s)
  | takes {s : State} {p : PortId} {u : TravelUnit} {f : Record → Record} {g : Grid} {pos : Int}
    (hmode : (s.port p).ctl.mode = .acquiring) (htakes : (s.port p).seq.takes = true)
    (hgrid : (s.port p).travel.grid = some g) (hfired : u.grid = some g.fired)
    (hspeeds : u.limitSpeed = (s.port p).travel.limitSpeed ∧ u.guardLimit = (s.port p).travel.guardLimit) (hf : Mild f) :
    Op s (act p { s.port p with seq := (s.port p).seq.beginScan s.now .distance pos, travel := u } f s)
  | misses {s : State} {p : PortId} {u : TravelUnit} {g : Grid} (hmode : (s.port p).ctl.mode = .acquiring)
    (hgrid : (s.port p).travel.grid = some g) (hfired : u.grid = some g.fired)
    (hspeeds : u.limitSpeed = (s.port p).travel.limitSpeed ∧ u.guardLimit = (s.port p).travel.guardLimit) :
    Op s (act p { s.port p with travel := u } Record.countMissed s)
  | startsHeld {s : State} {p : PortId} {pos : Int} (hmode : (s.port p).ctl.mode = .acquiring)
    (hheld : (s.port p).seq.held = some pos) :
    Op s (s.setPort p { s.port p with seq := Sequencer.beginScan s.now .distance pos { (s.port p).seq with held := none } })
  | closes {s : State} {p : PortId} {n : Nat} {rs : List Report} {reason : CloseReason} {cause : Cause}
    (hmode : (s.port p).ctl.mode.hasRecord = true) (hnumber : s.openNumber p = some n) :
    Op s (said (answerHeld .closeTube p (.done (.closed n reason))) rs
      (RecordStore.readied p (Record.closedWith (s.port p) (s.port p).waitingPoint reason) n) p
      (((s.port p).closedToIdle cause).settledAt s.now) s)
  | nulled {s : State} {p : PortId} {rs : List Report} {body : ReplyBody} {sums : List ChannelValue}
    (hmode : (s.port p).ctl.mode = .nulling)
    (hsums : ∃ a, (s.port p).chan.accum = some a ∧ sums.length ≤ a.sums.length) :
    Op s (said (answerHeld .nullChannels p body) rs id p
      (({ s.port p with chan := { (s.port p).chan with nulls := nulledTable (s.port p).chan.nulls sums, accum := none } }.rested
        .idle .nullDone).settledAt s.now) s)
  | faults {s : State} {p : PortId} {runs : List Nat} {d : FaultDetail} {ans : State → State} {rs rs' : List Report}
    {c : RecordStore → RecordStore} {b : PortBlocks} (h : Ending p .fault
      (s.setPort p { s.port p with ctl := { (s.port p).ctl with runs := runs, fault := some d } }) ans rs c b) :
    Op s (said ans rs' c p (b.faulted.settledAt s.now) s)
  | disables {s : State} {p : PortId} {ans : State → State} {rs rs' : List Report} {c : RecordStore → RecordStore}
    {b : PortBlocks} (h : Ending p .disabled s ans rs c b) : Op s (said ans rs' c p (b.disabled.settledAt s.now) s)

/-- A scan of port `p` numbered, removed and noted: steps 1 and 2 of its completion and the counts of R138 (R46, R60). -/
def PortBlocks.completed (sc : Scan) (pos : Int) (b : PortBlocks) : PortBlocks :=
  { b with
    seq := b.seq.complete
    chan := { b.chan with held := [] }
    travel := match sc.kind with
      | .time => b.travel
      | .distance => { b.travel with lastScan := some { trigger := sc.startPos, corrected := pos } } }

/-- What a completed scan adds to the counts of the open record. -/
def Scan.noted (sc : Scan) : Record → Record :=
  match sc.kind with
  | .time => id
  | .distance => Record.countScan

/-- The blocks of a port once it has entered NULLING (R3, R48, R85). -/
def PortBlocks.nullingAt (now : Nat) (b : PortBlocks) : PortBlocks :=
  { b with
    ctl := { b.ctl with mode := .nulling, previous := b.ctl.mode, lastCause := .nullStart }
    seq := { b.seq with
      scan := some { kind := .time, startPos := b.travel.raw, slot := 0, phase := .switch, phaseEnd := now + 80 }
      timer := some (now + b.plan.working.travel.period * 40), owed := false, held := none, closeHold := false, seqNo := 0 }
    chan := { b.chan with accum := some (NullAccumulation.start b.seq.slots.length) } }

/-- The blocks of a port with the close held for its scan in flight (R53). -/
def PortBlocks.closeHeld (b : PortBlocks) : PortBlocks := { b with seq := { b.seq with closeHold := true } }

/-- The acts of a command, the taking of a request and the ends and starts of what a request waits for among them. -/
inductive Act : State → State → Prop
  | op {s t : State} (h : Op s t) : Act s t
  | holds {s : State} {k : RequestKind} {tag port : Byte} (hroom : s.link.buffer.length < Config.requestPlaces) :
    Act s (hold k tag port s)
  | nulls {s : State} {p : PortId} (hidle : (s.port p).ctl.mode = .idle) : Act s (s.setPort p ((s.port p).nullingAt s.now))
  | holdsClose {s : State} {p : PortId} (hmode : (s.port p).ctl.mode.hasRecord = true)
    (hscan : (s.port p).seq.scan.isSome = true) : Act s (s.setPort p (s.port p).closeHeld)
  | completes {s : State} {p : PortId} {sc : Scan} {pos : Int} (hscan : (s.port p).seq.scan = some sc) :
    Act s (act p ((s.port p).completed sc pos) sc.noted s)
  | resets {s : State} : Act s (resetPart s)

/-- Acts one after the other. -/
abbrev Ops : State → State → Prop := Relation.ReflTransGen Op

abbrev Acts : State → State → Prop := Relation.ReflTransGen Act

theorem Ops.acts (h : Ops s t) : Acts s t := by
  induction h with
  | refl => exact .refl
  | tail _ h ih => exact ih.tail (.op h)

/-- What the command that waits longest comes to, by what it has to do with the requests that take time. -/
inductive Run : State → State → Prop
  | ops {s t : State} (h : Ops s t) : Run s t
  | completes {s u t : State} {p : PortId} {sc : Scan} {pos : Int} (hscan : (s.port p).seq.scan = some sc)
    (hconsumed : Ops (act p ((s.port p).completed sc pos) sc.noted s) u) (hnext : Ops (nextStart p u) t) : Run s t
  | served {s u t : State} {k : RequestKind} {tag port : Byte} {body : ReplyBody}
    (hroom : s.link.buffer.length < Config.requestPlaces) (hkind : k ≠ .nullChannels ∧ k ≠ .closeTube)
    (hserved : Ops (hold k tag port s) u) (hanswered : Ops (reply (freePlace s.link.buffer) body u) t) : Run s t
  | turnedAway {s t : State} {k : RequestKind} {tag port : Byte} {body : ReplyBody}
    (hroom : s.link.buffer.length < Config.requestPlaces)
    (hanswered : Ops (reply (freePlace s.link.buffer) body (hold k tag port s)) t) : Run s t
  | nulls {s t : State} {p : PortId} {tag : Byte} (hroom : s.link.buffer.length < Config.requestPlaces)
    (hidle : (s.port p).ctl.mode = .idle)
    (hrest : Ops ((hold .nullChannels tag p.byte s).setPort p ((s.port p).nullingAt s.now)) t) : Run s t
  | holdsClose {s t : State} {p : PortId} {tag : Byte} (hroom : s.link.buffer.length < Config.requestPlaces)
    (hmode : (s.port p).ctl.mode.hasRecord = true) (hclose : (s.port p).seq.closeHold = false)
    (hscan : (s.port p).seq.scan.isSome = true)
    (hrest : Ops ((hold .closeTube tag p.byte s).setPort p (s.port p).closeHeld) t) : Run s t
  | closes {s u t : State} {p : PortId} {tag : Byte} (hroom : s.link.buffer.length < Config.requestPlaces)
    (hmode : (s.port p).ctl.mode.hasRecord = true) (hclose : (s.port p).seq.closeHold = false)
    (hcloses : u = closeToIdle p .host .closeHost (hold .closeTube tag p.byte s)) (hrest : Ops u t) : Run s t
  | resets {s t : State} {tag port : Byte} (hroom : s.link.buffer.length < Config.requestPlaces)
    (hrest : Ops (resetPart (replyDone (freePlace s.link.buffer) .nothing
      (abortHeld (freePlace s.link.buffer) (hold .reset tag port s)))) t) : Run s t

end Sys2Proof.Machine

/-! PROOFS. The operations on a drive channel keep its law (R152). -/

namespace Sys2Proof.Machine

variable {d : DriveChannel}

/-- An abort leaves a lawful channel, whatever stood before. -/
theorem DriveChannel.halt_lawful (d : DriveChannel) : d.halt.lawful := by
  simp [DriveChannel.lawful, DriveChannel.halt, DriveChannel.sendAwaited, DriveChannel.send]

/-- So does RESET's. -/
theorem DriveChannel.resetHalt_lawful (d : DriveChannel) : d.resetHalt.lawful := d.halt_lawful

/-- So does the loss of a channel that holds no move. -/
theorem DriveChannel.becomeLost_lawful (h : d.lawful) (hstate : d.state = .awaitHalt) : d.becomeLost.1.lawful := by
  obtain ⟨-, -, hcurrent, hlimit, hdeferred, -⟩ := h
  simp_all [DriveChannel.lawful, DriveChannel.becomeLost]

/-- A channel at rest: it holds no move, awaits nothing, and its queue is in its count. -/
def DriveChannel.resting (d : DriveChannel) : Prop :=
  (d.state = .released ∨ d.state = .holding) ∧ d.queue.length ≤ Config.driveQueuePlaces ∧ d.awaited = none ∧
  d.current = none ∧ d.limit = none ∧ d.doneDeadline = none ∧ d.deferred = none

theorem DriveChannel.resting.lawful (h : d.resting) : d.lawful := by
  obtain ⟨hstate, hqueue, hawaited, hcurrent, hlimit, hdone, hdeferred⟩ := h
  rcases hstate with hstate | hstate <;> simp [DriveChannel.lawful, hstate, hqueue, hawaited, hcurrent, hlimit, hdone, hdeferred]

/-- A channel that may issue holds no move and awaits nothing. -/
theorem DriveChannel.lawful.resting (h : d.lawful) (hissue : d.canIssue = true) : d.resting := by
  obtain ⟨hqueue, -, -, hlimit, hdeferred, -⟩ := h
  simp only [DriveChannel.canIssue, Bool.and_eq_true, Bool.or_eq_true, decide_eq_true_eq, Option.isNone_iff_eq_none] at hissue
  obtain ⟨⟨hstate, hcurrent⟩, hawaited⟩ := hissue
  have still : d.state ≠ .moving := by rcases hstate with h | h <;> simp [h]
  have noLimit : d.limit = none ∧ d.doneDeadline = none := by
    constructor
    · exact Option.isSome_eq_false_iff.mp (by simpa using fun h => still (hlimit (.inl h))) |> Option.isNone_iff_eq_none.mp
    · exact Option.isSome_eq_false_iff.mp (by simpa using fun h => still (hlimit (.inr h))) |> Option.isNone_iff_eq_none.mp
  have notDeferred : d.deferred = none := by
    by_contra hne
    have := (hdeferred (Option.isSome_iff_ne_none.mpr hne)).1
    rw [noLimit.1] at this
    cases this
  exact ⟨hstate, hqueue, hawaited, hcurrent, noLimit.1, noLimit.2, notDeferred⟩

theorem DriveChannel.resting.issue_lawful (h : d.resting) : d.issue.lawful := by
  unfold DriveChannel.issue
  split
  next hissue =>
    cases hq : d.queue with
    | nil => exact h.lawful
    | cons m rest =>
      obtain ⟨hstate, hqueue, hawaited, hcurrent, hlimit, hdone, hdeferred⟩ := h
      rw [hq, List.length_cons] at hqueue
      simp [DriveChannel.lawful, DriveChannel.sendAwaited, DriveChannel.send, hlimit, hdone, hdeferred]
      omega
  next => exact h.lawful

theorem DriveChannel.issue_lawful (h : d.lawful) : d.issue.lawful := by
  by_cases hissue : d.canIssue = true
  · exact (h.resting hissue).issue_lawful
  · rwa [DriveChannel.issue, if_neg hissue]

theorem DriveChannel.resting.settle_lawful (h : d.resting) : d.settle.1.lawful := by
  unfold DriveChannel.settle
  split
  · exact h.lawful
  · exact h.issue_lawful

/-- The completion of an entry leaves a lawful channel. -/
theorem DriveChannel.complete_lawful (stop : Bool) (h : { d with state := .holding }.resting) : (d.complete stop).1.lawful := by
  unfold DriveChannel.complete
  split
  · obtain ⟨-, hqueue, -, hcurrent, hlimit, hdone, hdeferred⟩ := h
    simp_all [DriveChannel.lawful, DriveChannel.sendAwaited, DriveChannel.send]
  · exact h.settle_lawful

/-- What a lawful channel is that moves. -/
theorem DriveChannel.lawful.moving (h : d.lawful) (hstate : d.state = .moving) : d.awaited = none ∧
    (d.current.isSome = true ↔ d.deferred = none) := by
  obtain ⟨-, hawaited, hcurrent, -⟩ := h
  rw [hstate] at hawaited hcurrent
  exact ⟨by simpa using hawaited, by simpa using hcurrent⟩

theorem DriveChannel.acceptAwaited_lawful (now : Nat) {a : AwaitedAccept} (h : d.lawful) (ha : d.awaited = some a) :
    (d.acceptAwaited now a).1.lawful := by
  obtain ⟨hqueue, hawaited, hcurrent, hlimit, hdeferred, hlost⟩ := h
  rw [ha] at hawaited
  have still : d.state ≠ .moving := by rintro hs; simp [hs] at hawaited
  have noLimit : d.limit = none := by
    by_contra hne
    exact still (hlimit (.inl (Option.isSome_iff_ne_none.mpr hne)))
  have noDone : d.doneDeadline = none := by
    by_contra hne
    exact still (hlimit (.inr (Option.isSome_iff_ne_none.mpr hne)))
  have notDeferred : d.deferred = none := by
    by_contra hne
    have := (hdeferred (Option.isSome_iff_ne_none.mpr hne)).1
    rw [noLimit] at this
    cases this
  unfold DriveChannel.acceptAwaited
  cases hk : a.kind with
  | move =>
    have awaiting : d.state = .awaitAccept := by
      revert hawaited; cases d.state <;> simp [hk]
    simp_all [DriveChannel.lawful]
  | release =>
    have holding : d.state = .holding := by revert hawaited; cases d.state <;> simp [hk]
    have noCurrent : d.current = none := by simpa [holding] using hcurrent
    exact DriveChannel.resting.settle_lawful ⟨.inl rfl, hqueue, rfl, noCurrent, noLimit, noDone, notDeferred⟩
  | halt =>
    have halting : d.state = .awaitHalt := by revert hawaited; cases d.state <;> simp [hk]
    have noCurrent : d.current = none := by simpa [halting] using hcurrent
    exact DriveChannel.resting.settle_lawful ⟨.inr rfl, hqueue, rfl, noCurrent, noLimit, noDone, notDeferred⟩

theorem DriveChannel.acceptLimit_lawful (now : Nat) {l : AwaitedLimit} (h : d.lawful) (hl : d.limit = some l) :
    (d.acceptLimit now l).1.lawful := by
  have moving : d.state = .moving := h.2.2.2.1 (.inl (by rw [hl]; rfl))
  obtain ⟨hawaited, hcurrent⟩ := h.moving moving
  obtain ⟨hqueue, -, -, -, hdeferred, -⟩ := h
  unfold DriveChannel.acceptLimit
  cases hd : d.deferred with
  | none => simp_all [DriveChannel.lawful]
  | some stop =>
    have noCurrent : d.current = none := by simpa [hd] using hcurrent
    have noDone : d.doneDeadline = none := (hdeferred (by rw [hd]; rfl)).2
    exact DriveChannel.complete_lawful stop ⟨.inr rfl, hqueue, hawaited, noCurrent, rfl, noDone, rfl⟩

theorem DriveChannel.onAccept_lawful (now : Nat) (n : Byte) (h : d.lawful) : (d.onAccept now n).1.lawful := by
  unfold DriveChannel.onAccept
  split
  next ha => exact DriveChannel.acceptAwaited_lawful now h (Option.filter_eq_some_iff.mp ha).1
  next hl => exact DriveChannel.acceptLimit_lawful now h (Option.filter_eq_some_iff.mp hl).1
  next => exact h

theorem DriveChannel.onRefuse_lawful (n reason : Byte) (h : d.lawful) : (d.onRefuse n reason).1.lawful := by
  unfold DriveChannel.onRefuse
  split
  next a _ ha =>
    split
    next hk =>
      refine DriveChannel.becomeLost_lawful h ?_
      have hawaited := h.2.1
      rw [(Option.filter_eq_some_iff.mp ha).1] at hawaited
      revert hawaited
      cases d.state <;> simp [hk]
    next => exact d.halt_lawful
  next => exact d.halt_lawful
  next => exact h

theorem DriveChannel.onDone_lawful (n : Byte) (h : d.lawful) : (d.onDone n).1.lawful := by
  unfold DriveChannel.onDone
  split
  next => exact h
  next c hc =>
    split
    next hturn =>
      obtain ⟨hmoving, -, hdeferred⟩ := hturn
      obtain ⟨hawaited, -⟩ := h.moving hmoving
      obtain ⟨hqueue, -, -, -, -, -⟩ := h
      dsimp only
      split
      next hlimit => simp_all [DriveChannel.lawful]
      next hlimit =>
        have noLimit : d.limit = none := by simpa using hlimit
        exact DriveChannel.complete_lawful _ ⟨.inr rfl, hqueue, hawaited, rfl, noLimit, rfl, hdeferred⟩
    next => exact h

theorem DriveChannel.onAcceptDeadline_lawful (h : d.lawful) : d.onAcceptDeadline.1.lawful := by
  unfold DriveChannel.onAcceptDeadline
  split
  next => exact h
  next a ha =>
    split
    next hk =>
      refine DriveChannel.becomeLost_lawful h ?_
      have hawaited := h.2.1
      rw [ha] at hawaited
      revert hawaited
      cases d.state <;> simp [hk]
    next => exact d.halt_lawful

/-- The kind of an awaited accept and the presence of a limit do not hang on the deadline. -/
theorem AwaitedAccept.startDeadline_kind (now : Nat) (n : BitVec 8) (a : AwaitedAccept) :
    (a.startDeadline now n).kind = a.kind := by
  unfold AwaitedAccept.startDeadline
  split <;> rfl

theorem DriveChannel.messageSent_lawful (now : Nat) (h : d.lawful) : (d.messageSent now).lawful := by
  have kinds : ∀ n, (d.awaited.map (AwaitedAccept.startDeadline now n)).map AwaitedAccept.kind =
      d.awaited.map AwaitedAccept.kind := fun n => by
    rw [Option.map_map]
    exact congrArg (Option.map · d.awaited) (funext fun a => AwaitedAccept.startDeadline_kind now n a)
  have awaiting : ∀ n (rest : List DriveMessage), { d with
      outgoing := rest, awaited := d.awaited.map (AwaitedAccept.startDeadline now n) }.lawful := fun n rest => by
    obtain ⟨hqueue, hawaited, hrest⟩ := h
    exact ⟨hqueue, by rw [kinds, Option.isSome_map]; exact hawaited, hrest⟩
  unfold DriveChannel.messageSent
  split
  · exact h
  · split
    · obtain ⟨hqueue, hawaited, hcurrent, hlimit, hdeferred, hlost⟩ := h
      exact ⟨hqueue, hawaited, hcurrent, by rwa [Option.isSome_map], by rwa [Option.isSome_map], hlost⟩
    · exact awaiting _ _

theorem DriveChannel.sendLimit_lawful (speed : Nat) (h : d.lawful) (hmoving : d.state = .moving) :
    (d.sendLimit speed).1.lawful := by
  obtain ⟨hqueue, hawaited, hcurrent, hlimit, hdeferred, hlost⟩ := h
  exact ⟨hqueue, hawaited, hcurrent, fun _ => hmoving, fun hd => ⟨rfl, (hdeferred hd).2⟩, hlost⟩

theorem DriveChannel.append_lawful (ms : List Move) (h : d.lawful) (hlost : d.state ≠ .lost)
    (hroom : d.queue.length + ms.length ≤ Config.driveQueuePlaces) : (d.append ms).lawful := by
  obtain ⟨-, hawaited, hcurrent, hlimit, hdeferred, -⟩ := h
  exact ⟨by rwa [DriveChannel.append, List.length_append], hawaited, hcurrent, hlimit, hdeferred, fun h => absurd h hlost⟩

end Sys2Proof.Machine

/-! PROOFS. Every command is made of these acts: the work of a port. -/

namespace Sys2Proof.Machine

variable {p q : PortId} {s t : State} {b b' : PortBlocks} {f g : Record → Record}

/-! ### Single acts -/

theorem Op.ops (h : Op s t) : Ops s t := Relation.ReflTransGen.single h

theorem Ops.arbitrated (h : Ops s t) : Ops s (arbitrate t) := h.tail .arbitrate

theorem ops_tell (rs : List Report) : Ops s (tell rs s) := by
  induction rs generalizing s with
  | nil => exact .refl
  | cons r rest ih => exact (Op.report r).ops.trans ih

/-- Work on the travel unit, the samples held, the detector and the stream unit is quiet where the grid, the speeds and the
ring's count stand. -/
theorem quiet_units (b : PortBlocks) (u : TravelUnit) (held : List Sample) (d : Detector) (x : StreamUnit)
    (hgrid : u.grid = b.travel.grid)
    (hspeeds : u.limitSpeed = b.travel.limitSpeed ∧ u.guardLimit = b.travel.guardLimit)
    (hring : b.stream.ring.length ≤ Config.ringFrames → x.ring.length ≤ Config.ringFrames) (hf : Mild f) :
    Quiet b { b with travel := u, chan := { b.chan with held := held }, det := d, stream := x } f where
  ctl := rfl
  plan := rfl
  seq := rfl
  drive := rfl
  nulls := rfl
  accum := fun a h => ⟨a, h, le_rfl⟩
  grid := hgrid
  limitSpeed := hspeeds.1
  guardLimit := hspeeds.2
  ring := hring
  correction := .inl ⟨rfl, rfl⟩
  mild := hf

theorem ops_onOpen (hf : Mild f) : Ops s (onOpen p f s) := by
  rw [← act_self]
  exact (Op.quiet (quiet_units (s.port p) _ _ _ _ rfl ⟨rfl, rfl⟩ id hf)).ops

theorem ops_onTravel {c : TravelUnit → TravelUnit} (hgrid : (c (s.port p).travel).grid = (s.port p).travel.grid)
    (hspeeds : (c (s.port p).travel).limitSpeed = (s.port p).travel.limitSpeed ∧
      (c (s.port p).travel).guardLimit = (s.port p).travel.guardLimit) : Ops s (onTravel p c s) := by
  rw [onTravel, onPort_eq]
  exact (Op.quiet (quiet_units (s.port p) (c (s.port p).travel) _ _ _ hgrid hspeeds id Mild.id)).ops

theorem ops_onDet (c : Detector → Detector) : Ops s (onDet p c s) := by
  rw [onDet, onPort_eq]
  exact (Op.quiet (quiet_units (s.port p) _ _ (c (s.port p).det) _ rfl ⟨rfl, rfl⟩ id Mild.id)).ops

theorem ops_onStream {c : StreamUnit → StreamUnit}
    (hring : (s.port p).stream.ring.length ≤ Config.ringFrames → (c (s.port p).stream).ring.length ≤ Config.ringFrames) :
    Ops s (onStream p c s) := by
  rw [onStream, onPort_eq]
  exact (Op.quiet (quiet_units (s.port p) _ _ _ (c (s.port p).stream) rfl ⟨rfl, rfl⟩ hring Mild.id)).ops

theorem ops_onChan_held (c : List Sample → List Sample) : Ops s (onChan p (fun x => { x with held := c x.held }) s) := by
  rw [onChan, onPort_eq]
  exact (Op.quiet (quiet_units (s.port p) _ (c (s.port p).chan.held) _ _ rfl ⟨rfl, rfl⟩ id Mild.id)).ops

theorem ops_onSeq {c : Sequencer → Sequencer} (h : Sequenced (s.port p) (c (s.port p).seq)) : Ops s (onSeq p c s) :=
  (Op.sequenced h).ops

theorem ops_onDrive {c : DriveChannel → DriveChannel} (h : (s.port p).drive.lawful → (c (s.port p).drive).lawful) :
    Ops s (onDrive p c s) := (Op.drive h).ops

theorem ops_onDriveEvents {c : DriveChannel → DriveChannel × List DriveEvent}
    (h : (s.port p).drive.lawful → (c (s.port p).drive).1.lawful) : Ops s (onDriveEvents p c s) := by
  rw [onDriveEvents_eq]
  exact (Op.drive h).ops.trans (ops_tell _)

theorem act_setPort : act p b' f (s.setPort p b) = act p b' f s := congrArg (onOpen p f) (setPort_setPort _ _)

/-! ### The tracks and the counted edges (R56 to R72) -/

theorem decode_frame (w : TravelPlan) (u : TravelUnit) : ∃ quad raw illegal,
    (u.decode w).1 = { u with quad := quad, raw := raw, illegal := illegal } := by
  unfold TravelUnit.decode
  cases decodePair u.quad u.levels with
  | still => exact ⟨u.quad, u.raw, u.illegal, rfl⟩
  | forward => exact ⟨_, _, u.illegal, rfl⟩
  | backward => exact ⟨_, _, u.illegal, rfl⟩
  | illegal => exact ⟨_, u.raw, _, rfl⟩

/-- The blocks of a port once a point has been answered TAKEN (R51, R65). -/
def PortBlocks.taken (now n : Nat) (pos : Int) (b : PortBlocks) : PortBlocks :=
  { b with
    seq := b.seq.beginScan now .distance pos
    travel := { b.travel with run := none, lastStarted := some { index := n, firedAt := now } } }

/-- The open record with the run present ended at a TAKEN point (R65, R66). -/
def PortBlocks.runEnded (pos : Int) (b : PortBlocks) (r : Record) : Record :=
  match b.travel.run with
  | none => r
  | some m => r.addGap (overspeedGap b m pos)

/-- The open record with the interval before point `n` captured (R69). -/
def PortBlocks.speedCaptured (now n : Nat) (b : PortBlocks) (r : Record) : Record :=
  match b.travel.lastStarted with
  | none => r
  | some st =>
    if st.index + 1 = n then r.raiseSpeed (capturedSpeed b.plan.working.travel.step (now - st.firedAt)) else r

theorem mild_runEnded (pos : Int) (b : PortBlocks) : Mild (b.runEnded pos) := by
  cases h : b.travel.run with
  | none => rw [show b.runEnded pos = id from funext fun r => by simp [PortBlocks.runEnded, h]]; exact Mild.id
  | some m =>
    rw [show b.runEnded pos = Record.addGap (overspeedGap b m pos) from funext fun r => by simp [PortBlocks.runEnded, h]]
    exact mild_addGap _

theorem mild_speedCaptured (now n : Nat) (b : PortBlocks) : Mild (b.speedCaptured now n) := by
  cases h : b.travel.lastStarted with
  | none => rw [show b.speedCaptured now n = id from funext fun r => by simp [PortBlocks.speedCaptured, h]]; exact Mild.id
  | some st =>
    by_cases hn : st.index + 1 = n
    · rw [show b.speedCaptured now n = Record.raiseSpeed (capturedSpeed b.plan.working.travel.step (now - st.firedAt)) from
        funext fun r => by simp [PortBlocks.speedCaptured, h, hn]]
      exact mild_raiseSpeed _
    · rw [show b.speedCaptured now n = id from funext fun r => by simp [PortBlocks.speedCaptured, h, hn]]
      exact Mild.id

theorem endRun_eq (pos : Int) : endRun p pos s =
    act p { s.port p with travel := { (s.port p).travel with run := none } } ((s.port p).runEnded pos) s := by
  cases h : (s.port p).travel.run with
  | none =>
    have record : (s.port p).runEnded pos = id := funext fun r => by simp [PortBlocks.runEnded, h]
    have stands : { (s.port p).travel with run := none } = (s.port p).travel := by rw [← h]
    rw [record, stands, act_self, onOpen_id]
    simp only [endRun, h]
  | some m =>
    have record : (s.port p).runEnded pos = Record.addGap (overspeedGap (s.port p) m pos) :=
      funext fun r => by simp [PortBlocks.runEnded, h]
    rw [record]
    simp only [endRun, h]
    rfl

theorem captureSpeed_eq (n : Nat) : captureSpeed p n s = onOpen p ((s.port p).speedCaptured s.now n) s := by
  cases h : (s.port p).travel.lastStarted with
  | none =>
    rw [show (s.port p).speedCaptured s.now n = id from funext fun r => by simp [PortBlocks.speedCaptured, h], onOpen_id]
    simp only [captureSpeed, h]
  | some st =>
    by_cases hn : st.index + 1 = n
    · rw [show (s.port p).speedCaptured s.now n =
          Record.raiseSpeed (capturedSpeed (s.port p).plan.working.travel.step (s.now - st.firedAt)) from
        funext fun r => by simp [PortBlocks.speedCaptured, h, hn]]
      simp only [captureSpeed, h, hn, if_true]
      rfl
    · rw [show (s.port p).speedCaptured s.now n = id from funext fun r => by simp [PortBlocks.speedCaptured, h, hn], onOpen_id]
      simp only [captureSpeed, h, hn, if_false]

/-- All a TAKEN point does. -/
theorem takePoint_eq (n : Nat) (pos : Int) : takePoint p n pos s =
    act p ((s.port p).taken s.now n pos) ((s.port p).speedCaptured s.now n ∘ (s.port p).runEnded pos) s := by
  have captured : (act p { s.port p with travel := { (s.port p).travel with run := none } } ((s.port p).runEnded pos)
      s).port p = { s.port p with travel := { (s.port p).travel with run := none } } := act_port_same
  have interval : PortBlocks.speedCaptured s.now n { s.port p with travel := { (s.port p).travel with run := none } } =
      (s.port p).speedCaptured s.now n := rfl
  rw [takePoint, endRun_eq, captureSpeed_eq, captured, act_now, interval]
  unfold startDistanceScan onTravel onSeq
  simp only [onPort, onOpen_port, onOpen_now, act_port_same, setPort_port_same, setPort_now, act_now]
  refine Eq.trans ?_ (onOpen_onOpen (mild_runEnded pos _).keeps)
  exact congrArg (fun u => onOpen p ((s.port p).speedCaptured s.now n) (onOpen p ((s.port p).runEnded pos) u))
    ((setPort_setPort _ _).trans (setPort_setPort _ _))

theorem ops_noteOverspeed : Ops s (noteOverspeed p s) := by
  unfold noteOverspeed
  split
  · exact .refl
  · split
    · exact .refl
    · exact (ops_onOpen (mild_onFlags _)).tail (.report _)

theorem ops_noticeMiss : Ops s (noticeMiss p s) := (ops_onDet _).trans (ops_onStream fun h => h)

theorem guardActs_moving (h : guardActs b = true) : b.drive.state = .moving := by
  simp only [guardActs, Bool.and_eq_true, decide_eq_true_eq] at h
  exact h.1.2

theorem ops_speedGuard : Ops s (speedGuard p s) := by
  unfold speedGuard
  split
  next h => exact ops_onDriveEvents fun hlaw => DriveChannel.sendLimit_lawful _ hlaw (guardActs_moving h)
  next => exact .refl

/-- The point the pull edge fires is counted with the grid, TAKEN or MISSED. -/
theorem ops_firePoint {x : Grid} {u : TravelUnit} {pos : Int} (hmode : (s.port p).ctl.mode = .acquiring)
    (hgrid : (s.port p).travel.grid = some x) (hfired : u.grid = some x.fired)
    (hspeeds : u.limitSpeed = (s.port p).travel.limitSpeed ∧ u.guardLimit = (s.port p).travel.guardLimit) :
    Ops s (firePoint p x.next pos (s.setPort p { s.port p with travel := u })) := by
  unfold firePoint
  split
  next htakes =>
    have ready : (s.port p).seq.takes = true := by rwa [setPort_port_same] at htakes
    have taken : takePoint p x.next pos (s.setPort p { s.port p with travel := u }) =
        act p { s.port p with
          seq := (s.port p).seq.beginScan s.now .distance pos
          travel := { u with run := none, lastStarted := some { index := x.next, firedAt := s.now } } }
        (PortBlocks.speedCaptured s.now x.next { s.port p with travel := u } ∘
          PortBlocks.runEnded pos { s.port p with travel := u }) s := by
      rw [takePoint_eq, act_setPort, setPort_port_same, setPort_now]
      rfl
    rw [taken]
    exact (Op.takes (u := { u with run := none, lastStarted := some { index := x.next, firedAt := s.now } }) hmode ready hgrid hfired hspeeds ((mild_speedCaptured _ _ _).comp (mild_runEnded _ _))).ops
  next =>
    have counted : onTravel p (TravelUnit.miss pos) (onOpen p Record.countMissed (s.setPort p { s.port p with travel := u })) =
        act p { s.port p with travel := u.miss pos } Record.countMissed s := by
      rw [onTravel_onOpen, onTravel_eq, setPort_setPort, setPort_port_same]
      rfl
    unfold missPoint
    rw [counted]
    exact (Op.misses (u := u.miss pos) hmode hgrid hfired hspeeds).ops.trans
      (ops_noteOverspeed.trans (ops_noticeMiss.trans ops_speedGuard))

theorem ops_passLowWater (hmode : (s.port p).ctl.mode = .acquiring) : Ops s (passLowWater p s) := by
  unfold passLowWater
  dsimp only
  split
  next low x hl hx =>
    split
    · split
      · exact ops_firePoint hmode hx rfl ⟨rfl, rfl⟩
      · exact ops_onTravel rfl ⟨rfl, rfl⟩
    · exact .refl
  next => exact .refl

theorem ops_enterAcquiring (hmode : (s.port p).ctl.mode = .armed) (hclose : (s.port p).seq.closeHold = false) :
    Ops s (enterAcquiring p s) := by
  rw [enterAcquiring_eq]
  exact (Op.enters hmode hclose).ops.tail (.report _)

theorem ops_armedEdge {e : Edge} (hmode : (s.port p).ctl.mode = .armed) : Ops s (armedEdge p e s) := by
  by_cases h : reachesStart (s.port p) e = true
  · rw [armedEdge_of_reaches h]
    refine (ops_onTravel (c := TravelUnit.towardStart e.moved) rfl ⟨rfl, rfl⟩).trans (ops_enterAcquiring ?_ ?_)
    · rw [onTravel_port_same]; exact hmode
    · rw [onTravel_port_same]; exact ((reachesStart_iff _).mp h).2.2
  · rw [armedEdge_of_not_reaches h]
    exact ops_onTravel rfl ⟨rfl, rfl⟩

theorem ops_acquiringEdge {e : Edge} (hmode : (s.port p).ctl.mode = .acquiring) : Ops s (acquiringEdge p e s) := by
  cases hpush : e.push with
  | true =>
    rw [acquiringEdge_push hpush]
    have pushed : Ops s (onTravel p (TravelUnit.pushed e.moved) s) := ops_onTravel rfl ⟨rfl, rfl⟩
    cases h : (s.port p).travel.reverses e.moved with
    | true => rw [pushEdge_of_reverses h]; exact pushed.trans (ops_onOpen mild_countReversal)
    | false => rw [pushEdge_of_not_reverses h]; exact pushed
  | false =>
    rw [acquiringEdge_pull hpush]
    refine (ops_onTravel (c := TravelUnit.pulled) rfl ⟨rfl, rfl⟩).trans (ops_passLowWater ?_)
    rw [onTravel_port_same]
    exact hmode

theorem ops_countedEdge {e : Edge} : Ops s (countedEdge p e s) := by
  unfold countedEdge
  split
  next h => exact ops_armedEdge h
  next h => exact ops_acquiringEdge h
  all_goals exact .refl

theorem ops_noteIllegal : Ops s (noteIllegal p s) := by
  unfold noteIllegal
  split
  · exact ops_onOpen (mild_onFlags _)
  · exact .refl

theorem ops_decodeTracks : Ops s (decodeTracks p s) := by
  unfold decodeTracks
  split
  · exact .refl
  · obtain ⟨quad, raw, illegal, h⟩ := decode_frame (s.working p).travel (s.port p).travel
    have decoded : Ops s (onTravel p (fun _ => ((s.port p).travel.decode (s.working p).travel).1) s) := by
      rw [h]
      exact ops_onTravel rfl ⟨rfl, rfl⟩
    dsimp only
    split
    · exact decoded.trans ops_countedEdge
    · split
      · exact decoded.trans ops_noteIllegal
      · exact decoded

theorem ops_inputChange (level1 level2 : Bool) : Ops s (inputChange p level1 level2 s) := by
  unfold inputChange
  exact (ops_onTravel rfl ⟨rfl, rfl⟩).trans ops_decodeTracks

theorem ops_filterExpiry : Ops s (filterExpiry p s) := by
  unfold filterExpiry
  split
  · exact .refl
  · exact (Op.advance _).ops.trans ((ops_onTravel rfl ⟨rfl, rfl⟩).trans ops_decodeTracks)

end Sys2Proof.Machine

/-! PROOFS. Every command is made of these acts: the scans, their consumers, and what ends a port's operation. -/

namespace Sys2Proof.Machine

variable {p q : PortId} {s t : State} {b b' : PortBlocks} {f g : Record → Record}

/-! ### The landmark unit (R114 to R128) -/

/-- The correction of a landmark unit lies within its matched count times the tolerance. -/
def LandmarkUnit.bounded (tolerance : Nat) (u : LandmarkUnit) : Prop := u.correction.natAbs ≤ u.matched * tolerance

theorem judge_bounded {supports : List Nat} {tolerance : Nat} {w : ClosedLandmark} {u : LandmarkUnit}
    (h : u.bounded tolerance) : (u.judge supports tolerance w).1.bounded tolerance := by
  unfold LandmarkUnit.judge
  dsimp only
  split
  next => exact h
  next k _ =>
    split
    next hmatch =>
      have step : ((nominal supports k : Int) - w.peak.pos).natAbs ≤ tolerance := by rwa [← Int.natAbs_neg, neg_sub]
      unfold LandmarkUnit.bounded at h ⊢
      unfold LandmarkUnit.matchAt
      dsimp only
      rw [Nat.add_mul, Nat.one_mul]
      exact (Int.natAbs_add_le _ _).trans (Nat.add_le_add h step)
    next => exact h

theorem classifiedUnit_bounded {w : Plan} {win : ClosedLandmark} {u : LandmarkUnit} (h : u.bounded w.landmark.tolerance) :
    (classifiedUnit w win u).bounded w.landmark.tolerance := by
  unfold classifiedUnit
  split
  · exact h
  · exact judge_bounded h

/-- The window step of a scan leaves the correction, the matched count and the pointer. -/
theorem landmark_scan_frame (cfg : LandmarkPlan) (pk : Peak) (saturated : Bool) (u : LandmarkUnit) :
    (u.scan cfg pk saturated).1.correction = u.correction ∧ (u.scan cfg pk saturated).1.matched = u.matched ∧
    (u.scan cfg pk saturated).1.pointer = u.pointer := by
  unfold LandmarkUnit.scan
  split
  · split <;> exact ⟨rfl, rfl, rfl⟩
  · dsimp only
    split
    · exact ⟨rfl, rfl, rfl⟩
    · split <;> exact ⟨rfl, rfl, rfl⟩

/-- Work on the landmark unit is quiet where the correction stands, or stays within its bound with a record. -/
theorem quiet_land (b : PortBlocks) (u : LandmarkUnit)
    (h : (u.correction = b.land.correction ∧ u.matched = b.land.matched) ∨
      (b.ctl.mode.hasRecord = true ∧
        (b.land.bounded b.plan.working.landmark.tolerance → u.bounded b.plan.working.landmark.tolerance)))
    (hf : Mild f) : Quiet b { b with land := u } f where
  ctl := rfl
  plan := rfl
  seq := rfl
  drive := rfl
  nulls := rfl
  accum := fun a h => ⟨a, h, le_rfl⟩
  grid := rfl
  limitSpeed := rfl
  guardLimit := rfl
  ring := id
  correction := h
  mild := hf

theorem hasRecord_of_acquiring (h : (s.port p).ctl.mode = .acquiring) : (s.port p).ctl.mode.hasRecord = true := by rw [h]; rfl

theorem ops_classifyWindow (win : ClosedLandmark) (hmode : (s.port p).ctl.mode.hasRecord = true) :
    Ops s (classifyWindow p win s) := by
  rw [classifyWindow_eq]
  exact (Op.quiet (quiet_land _ _ (.inr ⟨hmode, classifiedUnit_bounded⟩) (mild_classifiedRecord _ _ _))).ops

theorem ops_passing (pos : Int) (supports : List Nat) (tolerance : Nat) :
    Ops s (onLandEntries p (LandmarkUnit.passing supports tolerance pos) s) := by
  rw [onLandEntries_eq]
  exact (Op.quiet (quiet_land (s.port p) (LandmarkUnit.passing supports tolerance pos (s.port p).land).1 (.inl ⟨rfl, rfl⟩)
    (mild_addLandmarks _))).ops

theorem classifyWindow_ctl (win : ClosedLandmark) : ((classifyWindow p win s).port p).ctl = (s.port p).ctl := by
  rw [classifyWindow_eq, act_port_same]

theorem landmarkScan_ctl (c : CalibratedSet) : ((landmarkScan p c s).1.port p).ctl = (s.port p).ctl := by
  have stepped : ∀ u : LandmarkUnit, ((onLand p (fun _ => u) s).port p).ctl = (s.port p).ctl := fun u => by
    rw [onLand_port_same]
  have listed : ∀ (x : State) (k : LandmarkUnit → LandmarkUnit × List LandmarkEntry),
      ((onLandEntries p k x).port p).ctl = (x.port p).ctl := fun x k => by rw [onLandEntries_eq, act_port_same]
  unfold landmarkScan
  dsimp only
  split <;> split
  · rw [listed, classifyWindow_ctl, stepped]
  · rw [listed, stepped]
  · rw [classifyWindow_ctl, stepped]
  · rw [stepped]

theorem ops_landmarkScan (c : CalibratedSet) (hmode : (s.port p).ctl.mode = .acquiring) : Ops s (landmarkScan p c s).1 := by
  have frame := landmark_scan_frame (s.working p).landmark (c.peak (s.working p).landmark.channel)
    (c.channel (s.working p).landmark.channel).saturated (s.port p).land
  have stepped : Ops s (onLand p (fun _ => ((s.port p).land.scan (s.working p).landmark
      (c.peak (s.working p).landmark.channel) (c.channel (s.working p).landmark.channel).saturated).1) s) := by
    rw [onLand, onPort_eq]
    exact (Op.quiet (quiet_land (s.port p) _ (.inl ⟨frame.1, frame.2.1⟩) Mild.id)).ops
  have record : ∀ u : LandmarkUnit, ((onLand p (fun _ => u) s).port p).ctl.mode.hasRecord = true := fun u => by
    rw [onLand_port_same]
    exact hasRecord_of_acquiring hmode
  unfold landmarkScan
  dsimp only
  split <;> split
  · exact (stepped.trans (ops_classifyWindow _ (record _))).trans (ops_passing _ _ _)
  · exact stepped.trans (ops_passing _ _ _)
  · exact stepped.trans (ops_classifyWindow _ (record _))
  · exact stepped

theorem ops_detectScan (c : CalibratedSet) : Ops s (detectScan p c s) := by
  unfold detectScan
  dsimp only
  split
  · exact (ops_onDet _).trans (ops_onOpen (mild_judge _ _ _))
  · exact ops_onDet _

/-! ### The stream unit (R167 to R171) -/

theorem ops_offerFrame (x : StreamFrame) : Ops s (offerFrame p x s) := by
  unfold offerFrame
  dsimp only
  split
  next hroom =>
    have stored : Ops s (onStream p (fun u =>
        { u with ring := u.ring ++ [{ x with lost := min u.lost 255 }], lastPos := x.pos, lost := 0, gap := none }) s) :=
      ops_onStream fun _ => by rw [List.length_append]; exact hroom
    split
    · exact stored.trans (ops_onOpen (mild_addGap _))
    · exact stored
  next => exact ops_onStream id

theorem ops_streamScan (c : CalibratedSet) : Ops s (streamScan p c s) := by
  unfold streamScan
  dsimp only
  split
  · exact .refl
  · split
    · exact ops_onStream id
    · exact (ops_onStream id).trans (ops_offerFrame _)

/-! ### Ends of an operation -/

theorem ops_enterIdle {cause : Cause} {record : Option Nat} (h : (s.port p).ctl.mode = .off ∨
    (s.port p).ctl.mode = .fault ∨ ((s.port p).ctl.mode.hasRecord = true ∧ s.openNumber p = none)) :
    Ops s (enterIdle p cause record s) := by
  rw [enterIdle_eq]
  exact (Op.idles h).ops.trans (ops_tell _)

theorem ops_closeToIdle {reason : CloseReason} {cause : Cause} (hmode : (s.port p).ctl.mode.hasRecord = true) :
    Ops s (closeToIdle p reason cause s) := by
  cases hnumber : s.openNumber p with
  | some n =>
    rw [closeToIdle_some reason cause hnumber hmode]
    exact (Op.closes hmode hnumber).ops
  | none =>
    have stands : closeRecord p reason (lostPoint s p) s = s := by simp only [closeRecord, hnumber]
    rw [closeToIdle, stands]
    exact ops_enterIdle (.inr (.inr ⟨hmode, hnumber⟩))

/-- All a completed null operation does. -/
theorem completeNull_eq (a : NullAccumulation) : completeNull p a s =
    said (answerHeld .nullChannels p (.done (.nulled ((nulledTable (s.port p).chan.nulls a.sums).take a.sums.length)
        (saturatedFrom 0 a.sums))))
      (stateReport p .idle (s.port p).ctl.mode .nullDone none ::
        pendingReport p ({ s.port p with chan := { (s.port p).chan with
          nulls := nulledTable (s.port p).chan.nulls a.sums, accum := none } }.rested .idle .nullDone)) id p
      (({ s.port p with chan := { (s.port p).chan with
          nulls := nulledTable (s.port p).chan.nulls a.sums, accum := none } }.rested .idle .nullDone).settledAt s.now) s := by
  have speaks := speaks_answerHeld .nullChannels p (.done (.nulled
    ((nulledTable (s.port p).chan.nulls a.sums).take a.sums.length) (saturatedFrom 0 a.sums)))
  unfold completeNull
  dsimp only
  rw [enterIdle_eq, mode_eq, speaks.port, onChan_port_same, speaks.now, onChan_now, speaks.setPort, tell_answerHeld]
  exact congrArg (fun u => answerHeld .nullChannels p _ (tell _ u)) (setPort_setPort _ _)

theorem zipWith_add_length (l r : List ChannelValue) : (List.zipWith ChannelValue.add l r).length ≤ l.length := by
  rw [List.length_zipWith]
  exact min_le_left _ _

theorem ops_nullScan (samples : List Sample) (hmode : (s.port p).ctl.mode = .nulling) : Ops s (nullScan p samples s) := by
  unfold nullScan
  split
  next => exact .refl
  next a ha =>
    dsimp only
    split
    · have quiet : Quiet (s.port p) { s.port p with chan := { (s.port p).chan with accum := some (a.add samples) } } id :=
        { quiet_land (s.port p) _ (.inl ⟨rfl, rfl⟩) Mild.id with
          nulls := rfl
          accum := fun a' h => ⟨a, ha, by cases h; exact zipWith_add_length _ _⟩ }
      rw [onChan, onPort_eq]
      exact (Op.quiet quiet).ops
    · rw [completeNull_eq]
      exact (Op.nulled hmode ⟨a, ha, zipWith_add_length _ _⟩).ops

theorem ops_disablePort : Ops s (disablePort p s) := by
  obtain ⟨ans, rs, c, b, h⟩ := exists_ending p .disabled s
  rw [disablePort_eq h]
  exact (Op.disables h).ops

/-- A coil fault declared once the run counts have taken the sample. -/
theorem ops_coilFault (slot : Nat) (status : DriveStatus) (runs : List Nat) :
    Ops s (coilFault p slot status (onCtl p (fun c => { c with runs := runs }) s)) := by
  obtain ⟨ans, rs, c, b, h⟩ := exists_ending p .fault (s.setPort p { s.port p with
    ctl := { (s.port p).ctl with runs := runs, fault := some (s.faultDetail p slot status) } })
  have stands : onCtl p (fun c => { c with runs := runs }) s =
      s.setPort p { s.port p with ctl := { (s.port p).ctl with runs := runs } } := rfl
  have declared : (onCtl p (fun c => { c with runs := runs }) s).faultDetail p slot status = s.faultDetail p slot status := by
    unfold State.faultDetail
    rw [mode_eq, onCtl_port_same]
    rfl
  have after : (onCtl p (fun c => { c with runs := runs }) s).setPort p
      { (onCtl p (fun c => { c with runs := runs }) s).port p with
        ctl := { ((onCtl p (fun c => { c with runs := runs }) s).port p).ctl with
          fault := some ((onCtl p (fun c => { c with runs := runs }) s).faultDetail p slot status) } } =
      s.setPort p { s.port p with
        ctl := { (s.port p).ctl with runs := runs, fault := some (s.faultDetail p slot status) } } := by
    rw [declared, onCtl_port_same, stands, setPort_setPort]
  have said' : ∀ (rs : List Report) (x : PortBlocks),
      said ans rs c p x (onCtl p (fun c => { c with runs := runs }) s) = said ans rs c p x s := fun rs x => by
    unfold said
    rw [stands, setPort_setPort]
  rw [← after] at h
  rw [coilFault_eq h, said']
  rw [after] at h
  exact (Op.faults h).ops

/-! ### The completion of a scan (R46) -/

theorem ops_landmarkTurn (c : CalibratedSet) (hmode : (s.port p).ctl.mode = .acquiring) : Ops s (landmarkTurn p c s) := by
  unfold landmarkTurn
  dsimp only
  split
  · refine (ops_landmarkScan c hmode).trans (ops_closeToIdle ?_)
    rw [landmarkScan_ctl]
    exact hasRecord_of_acquiring hmode
  · exact ops_landmarkScan c hmode

theorem takesDistance_mode {kind : ScanKind} (h : takesDistance s p kind = true) : (s.port p).ctl.mode = .acquiring := by
  simp only [takesDistance, Bool.and_eq_true, decide_eq_true_eq] at h
  exact h.2

theorem ops_exitCheck (kind : ScanKind) (pos : Int) : Ops s (exitCheck p kind pos s) := by
  unfold exitCheck
  split
  next h =>
    rw [Bool.and_eq_true] at h
    exact ops_closeToIdle (hasRecord_of_acquiring (takesDistance_mode h.1))
  next => exact .refl

theorem ops_heldClose : Ops s (heldClose p s) := by
  unfold heldClose
  split
  next h =>
    rw [Bool.and_eq_true] at h
    exact ops_closeToIdle h.2
  next => exact .refl

theorem ops_consume (c : CalibratedSet) (samples : List Sample) : Ops s (consume p c samples s) := by
  have nulled : ∀ u : State, Ops u (if u.mode p = .nulling then nullScan p samples u else u) := fun u => by
    split
    next h => exact ops_nullScan samples h
    next => exact .refl
  have detected : ∀ u : State, Ops u (if takesDistance u p c.kind then detectScan p c u else u) := fun u => by
    split
    · exact ops_detectScan c
    · exact .refl
  have landmarked : ∀ u : State, Ops u (if takesDistance u p c.kind then landmarkTurn p c u else u) := fun u => by
    split
    next h => exact ops_landmarkTurn c (takesDistance_mode h)
    next => exact .refl
  unfold consume
  dsimp only
  exact ((((ops_streamScan c).trans (nulled _)).trans (detected _)).trans (landmarked _)).trans
    ((ops_exitCheck _ _).trans ops_heldClose)

/-! ### Starts of scans (R41, R46, R48 to R50) -/

/-- A TIME scan begun on a port in NULLING or ARMED, whatever its owed start. -/
theorem sequenced_startTimeScan {pos : Int} {now due : Nat} {owed : Bool}
    (hmode : b.ctl.mode = .nulling ∨ b.ctl.mode = .armed) :
    Sequenced b { b.seq.beginScan now .time pos with timer := some due, owed := owed } where
  tables := ⟨rfl, rfl, rfl⟩
  closeHold := rfl
  scan := fun _ => .inr (by rcases hmode with h | h <;> rw [h] <;> rfl)
  timed := fun _ => .inr hmode
  held := id
  acquiring := fun h => by rcases hmode with h' | h' <;> rw [h'] at h <;> cases h
  armed := fun _ h => absurd h Bool.false_ne_true

/-- A timer, an owed start and a held start given up; in ACQUIRING the held start stands. -/
theorem sequenced_drop {timer : Option Nat} {owed : Bool} {held : Option Int}
    (htimer : timer.isSome = true → b.seq.timer.isSome = true) (howed : owed = true → b.seq.owed = true)
    (hheld : held.isSome = true → b.seq.held.isSome = true) (hacquiring : b.ctl.mode = .acquiring → held = b.seq.held) :
    Sequenced b { b.seq with timer := timer, owed := owed, held := held } where
  tables := ⟨rfl, rfl, rfl⟩
  closeHold := rfl
  scan := .inl
  timed := fun h => .inl (h.imp htimer howed)
  held := hheld
  acquiring := fun h => ⟨hacquiring h, id, rfl⟩
  armed := fun _ => id

/-- The scan in flight brought on, of the same kind. -/
theorem sequenced_scan {sc sc' : Scan} (hscan : b.seq.scan = some sc) (hkind : sc'.kind = sc.kind) :
    Sequenced b { b.seq with scan := some sc' } where
  tables := ⟨rfl, rfl, rfl⟩
  closeHold := rfl
  scan := fun _ => .inl (by rw [hscan]; rfl)
  timed := .inl
  held := id
  acquiring := fun _ => ⟨rfl, fun _ => rfl, by simp only [Sequencer.inDistance, hscan, hkind]⟩
  armed := fun _ h => by simp only [Sequencer.inDistance, hscan, hkind] at h ⊢; exact h

theorem startTimeScan_eq : startTimeScan p s = s.setPort p { s.port p with
    seq := { (s.port p).seq.beginScan s.now .time (s.port p).travel.raw with
      timer := some (s.now + (s.port p).plan.working.travel.period * 40) } } := rfl

theorem ops_owedStart (hmode : (s.port p).ctl.mode = .nulling ∨ (s.port p).ctl.mode = .armed) :
    Ops s (startTimeScan p (onSeq p (fun q => { q with owed := false }) s)) := by
  have started : startTimeScan p (onSeq p (fun q => { q with owed := false }) s) = s.setPort p { s.port p with
      seq := { (s.port p).seq.beginScan s.now .time (s.port p).travel.raw with
        timer := some (s.now + (s.port p).plan.working.travel.period * 40), owed := false } } := by
    rw [startTimeScan_eq, onSeq_port_same, onSeq_now]
    exact setPort_setPort _ _
  rw [started]
  exact (Op.sequenced (sequenced_startTimeScan hmode)).ops

theorem ops_nextStart : Ops s (nextStart p s) := by
  have cleared : (s.port p).ctl.mode ≠ .acquiring → Ops s (onSeq p (fun q => { q with owed := false, held := none }) s) :=
    fun h => ops_onSeq (sequenced_drop id (fun h => absurd h Bool.false_ne_true) (fun h => by cases h) (fun h' => absurd h' h))
  unfold nextStart
  dsimp only
  rw [mode_eq]
  split
  next h =>
    split
    · exact ops_owedStart (.inl h)
    · exact .refl
  next h =>
    split
    · exact ops_owedStart (.inr h)
    · exact .refl
  next h =>
    split
    next pos hheld =>
      have started : startDistanceScan p pos (onSeq p (fun q => { q with held := none }) s) = s.setPort p { s.port p with
          seq := Sequencer.beginScan s.now .distance pos { (s.port p).seq with held := none } } := by
        simp only [startDistanceScan, onSeq, onPort, setPort_port_same, setPort_now, setPort_setPort]
      rw [started]
      exact (Op.startsHeld h hheld).ops
    next => exact .refl
  next h => exact cleared (by rw [h]; decide)
  next h => exact cleared (by rw [h]; decide)
  next h => exact cleared (by rw [h]; decide)

/-! ### The timer and the phases (R42, R49) -/

theorem ops_timeExpiry (at0 : Nat) : Ops s (timeExpiry p at0 s) := by
  have stopped : Ops s (onSeq p (fun q => { q with timer := none }) (advance at0 s)) :=
    (Op.advance at0).ops.trans (ops_onSeq (sequenced_drop (fun h => by cases h) id id fun _ => rfl))
  unfold timeExpiry
  dsimp only
  split
  next hmode =>
    have stands : ((onSeq p (fun q => { q with timer := none }) (advance at0 s)).port p).ctl.mode = .nulling ∨
        ((onSeq p (fun q => { q with timer := none }) (advance at0 s)).port p).ctl.mode = .armed := by
      rw [onSeq_port_same]
      exact hmode
    split
    · exact stopped.trans (ops_onSeq
        { sequenced_drop (b := (onSeq p (fun q => { q with timer := none }) (advance at0 s)).port p) id id id fun _ => rfl with
          timed := fun _ => .inr stands })
    · split
      · exact stopped
      · rw [startTimeScan_eq]
        exact stopped.trans (Op.sequenced (sequenced_startTimeScan stands)).ops
  next => exact stopped

theorem ops_passTimer : Ops s (passTimer p s) := by
  unfold passTimer
  split
  · exact .refl
  · exact ops_timeExpiry _

theorem inPhase_scan {phase : ScanPhase} {sc : Scan} (h : inPhase s p phase = some sc) : (s.port p).seq.scan = some sc :=
  (Option.filter_eq_some_iff.mp h).1

theorem ops_endPhase {phase : ScanPhase} {c : SlotInForce → Scan → Scan} (hkind : ∀ e sc, (c e sc).kind = sc.kind) :
    Ops s (endPhase p phase c s) := by
  unfold endPhase
  split
  next => exact .refl
  next sc h =>
    exact (Op.advance _).ops.trans (ops_onSeq (sequenced_scan (b := (advance sc.phaseEnd s).port p) (inPhase_scan h) (hkind _ _)))

theorem afterSwitch_kind (e : SlotInForce) (sc : Scan) : (sc.afterSwitch e).kind = sc.kind := by
  unfold Scan.afterSwitch
  split <;> rfl

/-! ### The end of a slot (R45, R9, R10) -/

theorem noteScan_eq (sc : Scan) (pos : Int) : noteScan p sc pos
    (onChan p (fun ch => { ch with held := [] }) (onSeq p Sequencer.complete s)) =
    act p ((s.port p).completed sc pos) sc.noted s := by
  have removed : onChan p (fun ch => { ch with held := [] }) (onSeq p Sequencer.complete s) = s.setPort p { s.port p with
      seq := (s.port p).seq.complete, chan := { (s.port p).chan with held := [] } } := by
    simp only [onChan, onSeq, onPort, setPort_port_same, setPort_setPort]
  rw [removed]
  unfold noteScan PortBlocks.completed Scan.noted
  cases sc.kind with
  | time => exact act_id.symm
  | distance =>
    dsimp only
    rw [onTravel_onOpen, onTravel_eq, setPort_setPort, setPort_port_same]
    rfl

/-- The calibrated set of the scan that completes on a port (R76). -/
def PortBlocks.setOf (sc : Scan) (b : PortBlocks) : CalibratedSet :=
  calibrate b.chan.nulls b.plan.working b.chan.held b.seq.seqNo sc.kind (correctedPos b sc.startPos)

/-- The completion of a scan: it is noted, the consumers have their turns, and the next start follows. -/
theorem completeScan_eq (sc : Scan) : completeScan p sc s =
    nextStart p (consume p ((s.port p).setOf sc) (s.port p).chan.held
      (act p ((s.port p).completed sc (correctedPos (s.port p) sc.startPos)) sc.noted s)) := by
  unfold completeScan
  dsimp only
  rw [noteScan_eq]
  rfl

theorem runsAfter_below {e : Sample} {runs : List Nat} (h : ¬ Config.coilFaultRun ≤ (runsAfter e runs).getD e.slot 0)
    (hruns : ∀ n ∈ runs, n < Config.coilFaultRun) : ∀ n ∈ runsAfter e runs, n < Config.coilFaultRun := by
  intro n hn
  unfold runsAfter at h hn
  rcases List.mem_or_eq_of_mem_set hn with hn | rfl
  · exact hruns n hn
  · by_cases hslot : e.slot < runs.length
    · rw [List.getD_eq_getElem?_getD, List.getElem?_set_self hslot, Option.getD_some] at h
      exact Nat.lt_of_not_le h
    · rw [List.set_eq_of_length_le (Nat.le_of_not_lt hslot)] at hn
      exact hruns _ hn

/-- A sample delivered runs a coil fault, the next slot, or the completion of the scan. -/
theorem run_deliver {sc : Scan} {e : Sample} (hscan : (s.port p).seq.scan = some sc) :
    ∃ u, Ops s u ∧ Run u (arbitrate (deliver p sc e s)) := by
  unfold deliver
  dsimp only
  split
  next => exact ⟨s, .refl, .ops (Ops.arbitrated (ops_coilFault _ _ _))⟩
  next hbelow =>
    rw [onCtl_port_same] at hbelow
    have counted : Ops s (onCtl p (fun c => { c with runs := runsAfter e c.runs }) s) :=
      (Op.counted (by rw [hscan]; rfl) (List.length_set ..) (runsAfter_below hbelow)).ops
    have held := counted.trans (ops_onChan_held (p := p) (· ++ [e]))
    generalize hu : onChan p (fun x => { x with held := x.held ++ [e] })
      (onCtl p (fun c => { c with runs := runsAfter e c.runs }) s) = u at held
    have stands : (u.port p).seq.scan = some sc := by
      rw [← hu, onChan_port_same, onCtl_port_same]
      exact hscan
    unfold passSample
    dsimp only
    rw [hu]
    split
    · exact ⟨u, held, .ops (Ops.arbitrated (ops_onSeq (sequenced_scan stands rfl)))⟩
    · rw [completeScan_eq]
      exact ⟨u, held, .completes stands (ops_consume _ _) Op.arbitrate.ops⟩

theorem run_endIntegrate (x y : Int) (clipped : Bool) (found : List DriveFault) :
    ∃ u, Ops s u ∧ Run u (arbitrate (endIntegrate p x y clipped found s)) := by
  unfold endIntegrate
  split
  next => exact ⟨s, .refl, .ops Op.arbitrate.ops⟩
  next sc h =>
    obtain ⟨u, hu, hrun⟩ := run_deliver (p := p) (s := advance sc.phaseEnd s) (e := sampleOf sc.slot x y clipped found)
      (inPhase_scan h)
    exact ⟨u, (Op.advance _).ops.trans hu, hrun⟩

end Sys2Proof.Machine

/-! PROOFS. The stored sections of a plan lie in their ranges, and a commit's clamps keep them there (R22, R23, R28). -/

namespace Sys2Proof.Machine

variable {w : Plan}

theorem clampTo_mem {lo hi : Nat} (h : lo ≤ hi) (v : Nat) : clampTo lo hi v ∈ Finset.Icc lo hi :=
  Finset.mem_Icc.mpr ⟨le_max_left .., max_le h (min_le_left ..)⟩

theorem storedDecimation_mem (v : Nat) : storedDecimation v ∈ [1, 2, 4, 8] := by
  unfold storedDecimation
  repeat' split
  all_goals simp

theorem storedWidth_mem (v : Nat) : storedWidth v ∈ [8, 16] := by
  unfold storedWidth
  split <;> simp

/-! ### The ten sections -/

theorem inRange_freq (h : w.InRange) {entries : List (Option Nat)} (hlen : entries.length = 4) :
    { w with freq := entries.map (Option.map storedFCode) }.InRange := by
  obtain ⟨-, -, hrest⟩ := h
  refine ⟨by rw [List.length_map, hlen], fun v hv => ?_, hrest⟩
  obtain ⟨e, -, he⟩ := List.mem_map.mp hv
  obtain ⟨x, -, rfl⟩ := Option.map_eq_some_iff.mp he
  exact clampTo_mem (by decide) x

theorem inRange_slots (h : w.InRange) {entries : List SlotFields} (hlen : 1 ≤ entries.length ∧ entries.length ≤ 12) :
    { w with slots := entries.map storedSlot }.InRange := by
  obtain ⟨hfreq, hcodes, -, -, hrest⟩ := h
  refine ⟨hfreq, hcodes, by rwa [List.length_map, Finset.mem_Icc], fun e he => ?_, hrest⟩
  obtain ⟨x, -, rfl⟩ := List.mem_map.mp he
  exact ⟨min_le_left .., min_le_left .., clampTo_mem (by decide) _⟩

theorem inRange_cal (h : w.InRange) {entries : List CalFields} (hlen : entries.length = 12) :
    { w with cal := entries.map storedCal }.InRange := by
  obtain ⟨hfreq, hcodes, hslots, hslot, -, -, hrest⟩ := h
  refine ⟨hfreq, hcodes, hslots, hslot, by rw [List.length_map, hlen], fun e he => ?_, hrest⟩
  obtain ⟨x, -, rfl⟩ := List.mem_map.mp he
  exact ⟨Nat.le_of_lt_succ (Nat.mod_lt _ (by decide)), clampTo_mem (by decide) _⟩

theorem inRange_mix (h : w.InRange) {entries : List (Option MixFields)} (hlen : entries.length = 4) :
    { w with mix := entries.map (Option.map storedMix) }.InRange := by
  obtain ⟨hfreq, hcodes, hslots, hslot, hcal, hcals, -, -, hrest⟩ := h
  refine ⟨hfreq, hcodes, hslots, hslot, hcal, hcals, by rw [List.length_map, hlen], fun m hm => ?_, hrest⟩
  obtain ⟨e, -, he⟩ := List.mem_map.mp hm
  obtain ⟨x, -, rfl⟩ := Option.map_eq_some_iff.mp he
  exact ⟨min_le_left .., min_le_left .., Nat.le_of_lt_succ (Nat.mod_lt _ (by decide)), clampTo_mem (by decide) _⟩

theorem inRange_detect (h : w.InRange) (f : DetectFields) : { w with detect := storedDetect f }.InRange := by
  obtain ⟨hfreq, hcodes, hslots, hslot, hcal, hcals, hmix, hmixes, -, hrest⟩ := h
  exact ⟨hfreq, hcodes, hslots, hslot, hcal, hcals, hmix, hmixes, ⟨min_le_left .., clampTo_mem (by decide) _, min_le_left ..,
    clampTo_mem (by decide) _, clampTo_mem (by decide) _, clampTo_mem (by decide) _, min_le_left .., min_le_left ..⟩, hrest⟩

theorem inRange_landmark (h : w.InRange) (f : LandmarkFields) : { w with landmark := storedLandmark f }.InRange := by
  obtain ⟨hfreq, hcodes, hslots, hslot, hcal, hcals, hmix, hmixes, hdetect, -, hrest⟩ := h
  exact ⟨hfreq, hcodes, hslots, hslot, hcal, hcals, hmix, hmixes, hdetect, ⟨min_le_left .., clampTo_mem (by decide) _,
    min_le_left .., clampTo_mem (by decide) _, clampTo_mem (by decide) _, min_le_left ..⟩, hrest⟩

theorem inRange_supports (h : w.InRange) {positions : List Nat} (hlen : positions.length ≤ 24) :
    { w with supports := positions.map storedSupport }.InRange := by
  obtain ⟨hfreq, hcodes, hslots, hslot, hcal, hcals, hmix, hmixes, hdetect, hlandmark, -, -, hrest⟩ := h
  refine ⟨hfreq, hcodes, hslots, hslot, hcal, hcals, hmix, hmixes, hdetect, hlandmark, by rwa [List.length_map],
    fun v hv => ?_, hrest⟩
  obtain ⟨x, -, rfl⟩ := List.mem_map.mp hv
  exact min_le_left ..

theorem inRange_curve (h : w.InRange) {points : List CurvePoint} (hlen : points.length ≤ 8) :
    { w with curve := points.map storedPoint }.InRange := by
  obtain ⟨hfreq, hcodes, hslots, hslot, hcal, hcals, hmix, hmixes, hdetect, hlandmark, hsupports, hsupport, -, -, hrest⟩ := h
  refine ⟨hfreq, hcodes, hslots, hslot, hcal, hcals, hmix, hmixes, hdetect, hlandmark, hsupports, hsupport,
    by rwa [List.length_map], fun e he => ?_, hrest⟩
  obtain ⟨x, -, rfl⟩ := List.mem_map.mp he
  exact ⟨min_le_left .., min_le_left ..⟩

theorem inRange_travel (h : w.InRange) (f : TravelFields) : { w with travel := storedTravel f }.InRange := by
  obtain ⟨hfreq, hcodes, hslots, hslot, hcal, hcals, hmix, hmixes, hdetect, hlandmark, hsupports, hsupport, hcurve, hpoints, -,
    hrest⟩ := h
  exact ⟨hfreq, hcodes, hslots, hslot, hcal, hcals, hmix, hmixes, hdetect, hlandmark, hsupports, hsupport, hcurve, hpoints,
    ⟨clampTo_mem (by decide) _, clampTo_mem (by decide) _, clampTo_mem (by decide) _, clampTo_mem (by decide) _,
      min_le_left ..⟩, hrest⟩

theorem inRange_stream (h : w.InRange) {f : StreamFields} (hlen : f.channels.length ≤ 8) :
    { w with stream := storedStream f }.InRange := by
  obtain ⟨hfreq, hcodes, hslots, hslot, hcal, hcals, hmix, hmixes, hdetect, hlandmark, hsupports, hsupport, hcurve, hpoints,
    htravel, -⟩ := h
  refine ⟨hfreq, hcodes, hslots, hslot, hcal, hcals, hmix, hmixes, hdetect, hlandmark, hsupports, hsupport, hcurve, hpoints,
    htravel, by simpa [storedStream] using hlen, fun n hn => ?_, storedDecimation_mem _, storedWidth_mem _⟩
  obtain ⟨x, -, rfl⟩ := List.mem_map.mp hn
  exact min_le_left ..

/-! ### The clamps of a commit (R28) -/

theorem inRange_commitClamped (h : w.InRange) : w.commitClamped.InRange := by
  obtain ⟨hfreq, hcodes, hslots, hslot, hcal, hcals, hmix, hmixes, hdetect, hlandmark, hsupports, hsupport, hcurve, hpoints,
    htravel, hrest⟩ := h
  obtain ⟨hchannel, hopen, hclose, hdetects⟩ := hdetect
  obtain ⟨hchannel', hopen', hclose', hlandmarks⟩ := hlandmark
  obtain ⟨hstep, hscale, htravels⟩ := htravel
  refine ⟨hfreq, hcodes, hslots, hslot, hcal, hcals, hmix, hmixes,
    ⟨hchannel, hopen, (min_le_left ..).trans hclose, hdetects⟩,
    ⟨hchannel', hopen', (min_le_left ..).trans hclose', hlandmarks⟩, hsupports, hsupport, hcurve, hpoints,
    ⟨?_, hscale, htravels⟩, hrest⟩
  rw [Finset.mem_Icc] at hstep hscale ⊢
  exact ⟨hstep.1.trans (le_max_left ..), max_le hstep.2 (hscale.2.trans (by decide))⟩

theorem committed_commitClamped (h : w.validate = none) : w.commitClamped.Committed :=
  ⟨h, min_le_right .., min_le_right .., le_max_right ..⟩

end Sys2Proof.Machine

/-! PROOFS. Every command is made of these acts: the requests, the frames, and the dispatch. -/

namespace Sys2Proof.Machine

variable {p q : PortId} {s t : State} {k : RequestKind} {tag port : Byte} {body : ReplyBody}

/-! ### A request taken -/

/-- The tests of R179 on a request that is taken: a place is free, the counts it carries are in their ranges, and the port
byte names a port where the request acts on one. -/
theorem testRequest_none {allowed : Bool} (h : testRequest k port allowed s = none) :
    s.link.buffer.length < Config.requestPlaces ∧ allowed = true ∧ (k.actsOnPort = true → port.toNat ≤ 3) := by
  unfold testRequest at h
  split at h
  next => cases h
  next hport =>
    split at h
    next => cases h
    next hlength =>
      split at h
      next => cases h
      next hbuffer =>
        refine ⟨Nat.lt_of_not_le hbuffer, by simpa using hlength, fun hacts => ?_⟩
        simpa [hacts] using hport

theorem exists_port {port : Byte} (h : port.toNat ≤ 3) : ∃ p : PortId, port = p.byte := by
  have few : port.toNat = 0 ∨ port.toNat = 1 ∨ port.toNat = 2 ∨ port.toNat = 3 := by omega
  rcases few with h | h | h | h
  · exact ⟨.a, BitVec.eq_of_toNat_eq h⟩
  · exact ⟨.b, BitVec.eq_of_toNat_eq h⟩
  · exact ⟨.c, BitVec.eq_of_toNat_eq h⟩
  · exact ⟨.d, BitVec.eq_of_toNat_eq h⟩

/-- A request is refused at once, or taken and served. -/
theorem run_serve {c : Instr} {serveRequest : Nat → State → State}
    (hserve : s.link.buffer.length < Config.requestPlaces → Instr.lengthAllowed c = true →
      (k.actsOnPort = true → port.toNat ≤ 3) →
      Run s (arbitrate (serveRequest (freePlace s.link.buffer) (hold k tag port s))))
    (hnext : serve c k tag port serveRequest s = .next t) : Run s t := by
  unfold serve claim at hnext
  cases htest : testRequest k port (Instr.lengthAllowed c) s with
  | some code =>
    simp only [htest] at hnext
    cases hnext
    exact .ops (Ops.arbitrated (Op.refuse ..).ops)
  | none =>
    simp only [htest] at hnext
    cases hnext
    obtain ⟨hroom, hlength, hport⟩ := testRequest_none htest
    exact hserve hroom hlength hport

/-- A request on a port is refused at once, or taken and served on the port its byte names. -/
theorem run_serveOnPort {c : Instr} {serveRequest : PortId → Nat → State → State} (hacts : k.actsOnPort = true)
    (hserve : ∀ p : PortId, s.link.buffer.length < Config.requestPlaces → Instr.lengthAllowed c = true →
      Run s (arbitrate (serveRequest p (freePlace s.link.buffer) (hold k tag p.byte s))))
    (hnext : serveOnPort c k tag port serveRequest s = .next t) : Run s t := by
  refine run_serve (fun hroom hlength hport => ?_) hnext
  obtain ⟨p, rfl⟩ := exists_port (hport hacts)
  rw [ofByte?_byte]
  exact hserve p hroom hlength

/-- A request served by acts that end with its answer. -/
theorem run_answers {u : State} (hkind : k ≠ .nullChannels ∧ k ≠ .closeTube)
    (hroom : s.link.buffer.length < Config.requestPlaces) (hserved : Ops (hold k tag port s) u) :
    Run s (arbitrate (reply (freePlace s.link.buffer) body u)) :=
  .served hroom hkind hserved Op.arbitrate.ops

/-- A request answered as soon as it is taken. -/
theorem run_turnsAway (hroom : s.link.buffer.length < Config.requestPlaces) :
    Run s (arbitrate (reply (freePlace s.link.buffer) body (hold k tag port s))) :=
  .turnedAway hroom Op.arbitrate.ops

theorem hold_port : (hold k tag port s).port p = s.port p := rfl

/-! ### The requests to a port controller -/

theorem run_enable (hroom : s.link.buffer.length < Config.requestPlaces) :
    Run s (arbitrate (enableRequest p (freePlace s.link.buffer) (hold .portEnable tag p.byte s))) := by
  unfold enableRequest
  split
  next hoff =>
    refine run_answers (by decide) hroom ((ops_onTravel rfl ⟨rfl, rfl⟩).trans (ops_enterIdle (.inl ?_)))
    rw [onTravel_port_same]
    exact hoff
  next => exact run_turnsAway hroom

theorem run_disable (hroom : s.link.buffer.length < Config.requestPlaces) :
    Run s (arbitrate (disableRequest p (freePlace s.link.buffer) (hold .portDisable tag p.byte s))) := by
  unfold disableRequest
  split
  · exact run_turnsAway hroom
  · exact run_answers (by decide) hroom ops_disablePort

theorem run_clear (hroom : s.link.buffer.length < Config.requestPlaces) :
    Run s (arbitrate (clearRequest p (freePlace s.link.buffer) (hold .clearFault tag p.byte s))) := by
  unfold clearRequest
  split
  next hfault => exact run_answers (by decide) hroom (ops_enterIdle (.inr (.inl hfault)))
  next => exact run_turnsAway hroom

/-- All the entry to NULLING does. -/
theorem enterNulling_eq : enterNulling p s =
    tell [stateReport p .nulling (s.port p).ctl.mode .nullStart none] (s.setPort p ((s.port p).nullingAt s.now)) := by
  have entered : startTimeMode p (transition p .nulling .nullStart (onChan p (fun c =>
      { c with accum := some (NullAccumulation.start (s.port p).seq.slots.length) }) s)) =
      s.setPort p ((s.port p).nullingAt s.now) := by
    simp only [startTimeMode, startTimeScan, transition, onSeq, onCtl, onChan, onPort, setPort_port_same, setPort_setPort]
    rfl
  rw [enterNulling, entered, stateEvent_eq, mode_eq, setPort_port_same]
  rfl

theorem run_null (hroom : s.link.buffer.length < Config.requestPlaces) :
    Run s (arbitrate (nullRequest p (freePlace s.link.buffer) (hold .nullChannels tag p.byte s))) := by
  unfold nullRequest
  split
  next hidle =>
    rw [enterNulling_eq]
    exact .nulls hroom hidle (Ops.arbitrated (ops_tell _))
  next => exact run_turnsAway hroom

/-! ### The plan requests -/

theorem run_edit {edit : Plan → Plan} {items : List ClampItem} (hkind : k ≠ .nullChannels ∧ k ≠ .closeTube)
    (hrange : ∀ w : Plan, w.InRange → (edit w).InRange) (hroom : s.link.buffer.length < Config.requestPlaces) :
    Run s (arbitrate (editSection edit items p (freePlace s.link.buffer) (hold k tag p.byte s))) := by
  unfold editSection
  split
  next => exact run_turnsAway hroom
  next hpending => exact run_answers hkind hroom (Op.edit (by simpa using hpending) hrange).ops

theorem run_commit (hroom : s.link.buffer.length < Config.requestPlaces) :
    Run s (arbitrate (commitRequest p (freePlace s.link.buffer) (hold .planCommit tag p.byte s))) := by
  unfold commitRequest
  split
  · exact run_turnsAway hroom
  · split
    next => exact run_turnsAway hroom
    next hvalid =>
      unfold commitValid
      dsimp only
      split
      next hrest =>
        have promoted : ∀ u : State, (u.port p).ctl.mode.atRest = true → (u.port p).plan.staged.validate = none →
            Ops u (promote p (some .commit) (onPlan p (fun st => { st with staged := st.staged.commitClamped }) u)) :=
          fun u hrest hvalid => by
            rw [promote_some, onPlan_port_same, onPlan_now]
            have clamped := (Op.commitRest hrest hvalid).ops.trans
              (ops_tell [promotedReport p (u.port p).ctl.mode (u.port p).ctl.previous .commit ((u.port p).plan.generation + 1)])
            rw [mode_eq, onPlan_port_same, show (onPlan p (fun st => { st with staged := st.staged.commitClamped }) u) =
              u.setPort p { u.port p with plan := { (u.port p).plan with
                staged := (u.port p).plan.staged.commitClamped } } from rfl, setPort_setPort]
            exact clamped
        exact run_answers (by decide) hroom (promoted _ hrest hvalid)
      next hrest =>
        have pending : ∀ u : State, (u.port p).ctl.mode.atRest = false → (u.port p).plan.staged.validate = none →
            Ops u (onOpen p Record.setPlanPending (onPlan p (fun st => { st with pending := true })
              (onPlan p (fun st => { st with staged := st.staged.commitClamped }) u))) := fun u hrest hvalid => by
          have scanning : (u.port p).ctl.mode.scanning = true := by
            revert hrest
            cases (u.port p).ctl.mode <;> simp [PortMode.atRest, PortMode.scanning]
          have acts := (Op.commitPending scanning hvalid).ops
          rw [act] at acts
          unfold onPlan
          rw [onPort_onPort]
          exact acts
        exact run_answers (by decide) hroom (pending _ (Bool.not_eq_true _ ▸ hrest) hvalid)

theorem run_discard (hroom : s.link.buffer.length < Config.requestPlaces) :
    Run s (arbitrate (discardRequest p (freePlace s.link.buffer) (hold .planDiscard tag p.byte s))) :=
  run_answers (by decide) hroom Op.discard.ops

/-! ### The requests on tubes and records -/

theorem ops_enterArmed (row column sec p0 : Nat) (hidle : (s.port p).ctl.mode = .idle) (hfree : .free ∈ s.store.slots) :
    Ops s (enterArmed p (tubeRecord s p row column sec p0) s) := by
  rw [enterArmed_eq]
  exact (Op.opens hidle hfree rfl).ops.tail (.report _)

theorem run_open {row column sec p0 : Nat} (hroom : s.link.buffer.length < Config.requestPlaces) :
    Run s (arbitrate (openRequest row column sec p0 p (freePlace s.link.buffer) (hold .openTube tag p.byte s))) := by
  unfold openRequest
  split
  next => exact run_turnsAway hroom
  next hidle =>
    split
    next => exact run_turnsAway hroom
    next hfree =>
      have free : .free ∈ (hold .openTube tag p.byte s).store.slots := by
        obtain ⟨x, hx, hx'⟩ := List.any_eq_true.mp (by simpa using hfree)
        cases x with
        | free => exact hx
        | opened r => cases hx'
        | ready r => cases hx'
      exact run_answers (by decide) hroom (ops_enterArmed row column sec p0 (not_not.mp hidle) free)

theorem run_close (hroom : s.link.buffer.length < Config.requestPlaces) :
    Run s (arbitrate (closeRequest p (freePlace s.link.buffer) (hold .closeTube tag p.byte s))) := by
  unfold closeRequest
  split
  next h =>
    rw [Bool.and_eq_true, Bool.not_eq_true'] at h
    obtain ⟨hmode, hclose⟩ := h
    split
    next hscan => exact .holdsClose hroom hmode hclose hscan Op.arbitrate.ops
    next => exact .closes hroom hmode hclose rfl Op.arbitrate.ops
  next => exact run_turnsAway hroom

theorem run_mark (hroom : s.link.buffer.length < Config.requestPlaces) :
    Run s (arbitrate (markRequest p (freePlace s.link.buffer) (hold .mark tag p.byte s))) := by
  unfold markRequest
  split
  · exact run_answers (by decide) hroom (ops_onOpen (mild_addLandmarks _))
  · exact run_turnsAway hroom

theorem run_fetch {number sec first : Nat} (hroom : s.link.buffer.length < Config.requestPlaces) :
    Run s (arbitrate (fetchRequest number sec first (freePlace s.link.buffer) (hold .recordFetch tag port s))) := by
  unfold fetchRequest
  split <;> exact run_turnsAway hroom

theorem run_release {number : Nat} (hroom : s.link.buffer.length < Config.requestPlaces) :
    Run s (arbitrate (releaseRequest number (freePlace s.link.buffer) (hold .recordRelease tag port s))) := by
  unfold releaseRequest
  split
  · exact run_answers (by decide) hroom (Op.release number).ops
  all_goals exact run_turnsAway hroom

/-! ### The requests to a drive channel -/

theorem run_queue {entries : List MoveFields} (hroom : s.link.buffer.length < Config.requestPlaces) :
    Run s (arbitrate (queueRequest entries p (freePlace s.link.buffer) (hold .driveQueue tag p.byte s))) := by
  unfold queueRequest
  dsimp only
  split
  next => exact run_turnsAway hroom
  next =>
    split
    next => exact run_turnsAway hroom
    next hlost =>
      split
      next => exact run_turnsAway hroom
      next hqueue =>
        refine .served hroom (by decide) (ops_onDrive fun hlaw => DriveChannel.append_lawful _ hlaw hlost ?_)
          (Ops.arbitrated (ops_onDrive fun hlaw => DriveChannel.issue_lawful hlaw))
        rw [List.length_map]
        exact Nat.le_of_not_lt hqueue

theorem ops_driveAbort (source : AbortSource) : Ops s (driveAbort p source s) :=
  ops_onDriveEvents fun _ => DriveChannel.halt_lawful _

theorem run_abort (hroom : s.link.buffer.length < Config.requestPlaces) :
    Run s (arbitrate (abortRequest p (freePlace s.link.buffer) (hold .driveAbort tag p.byte s))) :=
  run_answers (by decide) hroom (ops_driveAbort _)

theorem ops_driveAnswer (a : DriveAnswer) : Ops s (driveAnswer p a s) := by
  cases a with
  | accept n => exact ops_onDriveEvents fun h => DriveChannel.onAccept_lawful _ _ h
  | refuse n reason => exact ops_onDriveEvents fun h => DriveChannel.onRefuse_lawful _ _ h
  | done n => exact ops_onDriveEvents fun h => DriveChannel.onDone_lawful _ h

theorem ops_driveMessage (raw : List LineByte) : Ops s (driveMessage p raw s) := by
  unfold driveMessage
  split
  · exact .refl
  · exact ops_driveAnswer _

theorem ops_passAcceptDeadline : Ops s (passAcceptDeadline p s) := by
  unfold passAcceptDeadline
  split
  · exact .refl
  · exact (Op.advance _).ops.trans (ops_onDriveEvents fun h => DriveChannel.onAcceptDeadline_lawful h)

theorem ops_passLimitDeadline : Ops s (passLimitDeadline p s) := by
  unfold passLimitDeadline
  split
  · exact .refl
  · exact (Op.advance _).ops.trans (ops_driveAbort _)

theorem ops_passDoneDeadline : Ops s (passDoneDeadline p s) := by
  unfold passDoneDeadline
  split
  · exact (Op.advance _).ops.trans (ops_driveAbort _)
  · exact .refl

theorem run_reset (hroom : s.link.buffer.length < Config.requestPlaces) :
    Run s (arbitrate (resetRequest (freePlace s.link.buffer) (hold .reset tag port s))) := .resets hroom Op.arbitrate.ops

/-! ### Requests, frames and commands -/

/-- What a request comes to, given as a command or read from its frame. -/
theorem run_request {c : Instr} (hnext : runRequest c s = .next t) : Run s t := by
  cases c with
  | portEnable => exact run_serveOnPort rfl (fun _ hroom _ => run_enable hroom) hnext
  | portDisable => exact run_serveOnPort rfl (fun _ hroom _ => run_disable hroom) hnext
  | clearFault => exact run_serveOnPort rfl (fun _ hroom _ => run_clear hroom) hnext
  | portStatus => exact run_serveOnPort rfl (fun _ hroom _ => run_turnsAway hroom) hnext
  | planFreq =>
    exact run_serveOnPort rfl (fun _ hroom hlen => run_edit (by decide) (fun _ hw => inRange_freq hw
      (by simpa [Instr.lengthAllowed] using hlen)) hroom) hnext
  | planSlots =>
    exact run_serveOnPort rfl (fun _ hroom hlen => run_edit (by decide) (fun _ hw => inRange_slots hw
      (by simpa [Instr.lengthAllowed] using hlen)) hroom) hnext
  | planCal =>
    exact run_serveOnPort rfl (fun _ hroom hlen => run_edit (by decide) (fun _ hw => inRange_cal hw
      (by simpa [Instr.lengthAllowed] using hlen)) hroom) hnext
  | planMix =>
    exact run_serveOnPort rfl (fun _ hroom hlen => run_edit (by decide) (fun _ hw => inRange_mix hw
      (by simpa [Instr.lengthAllowed] using hlen)) hroom) hnext
  | planDetect => exact run_serveOnPort rfl (fun _ hroom _ => run_edit (by decide) (fun _ hw => inRange_detect hw _) hroom) hnext
  | planLandmark =>
    exact run_serveOnPort rfl (fun _ hroom _ => run_edit (by decide) (fun _ hw => inRange_landmark hw _) hroom) hnext
  | planSupports =>
    exact run_serveOnPort rfl (fun _ hroom hlen => run_edit (by decide) (fun _ hw => inRange_supports hw
      (by simpa [Instr.lengthAllowed] using hlen)) hroom) hnext
  | planCurve =>
    exact run_serveOnPort rfl (fun _ hroom hlen => run_edit (by decide) (fun _ hw => inRange_curve hw
      (by simpa [Instr.lengthAllowed] using hlen)) hroom) hnext
  | planTravel => exact run_serveOnPort rfl (fun _ hroom _ => run_edit (by decide) (fun _ hw => inRange_travel hw _) hroom) hnext
  | planStream =>
    exact run_serveOnPort rfl (fun _ hroom hlen => run_edit (by decide) (fun _ hw => inRange_stream hw
      (by simpa [Instr.lengthAllowed] using hlen)) hroom) hnext
  | planCommit => exact run_serveOnPort rfl (fun _ hroom _ => run_commit hroom) hnext
  | planDiscard => exact run_serveOnPort rfl (fun _ hroom _ => run_discard hroom) hnext
  | planRead => exact run_serveOnPort rfl (fun _ hroom _ => run_turnsAway hroom) hnext
  | nullChannels => exact run_serveOnPort rfl (fun _ hroom _ => run_null hroom) hnext
  | openTube => exact run_serveOnPort rfl (fun _ hroom _ => run_open hroom) hnext
  | closeTube => exact run_serveOnPort rfl (fun _ hroom _ => run_close hroom) hnext
  | mark => exact run_serveOnPort rfl (fun _ hroom _ => run_mark hroom) hnext
  | recordList => exact run_serve (fun hroom _ _ => run_turnsAway hroom) hnext
  | recordFetch => exact run_serve (fun hroom _ _ => run_fetch hroom) hnext
  | recordRelease => exact run_serve (fun hroom _ _ => run_release hroom) hnext
  | driveQueue => exact run_serveOnPort rfl (fun _ hroom _ => run_queue hroom) hnext
  | driveAbort => exact run_serveOnPort rfl (fun _ hroom _ => run_abort hroom) hnext
  | driveStatus => exact run_serveOnPort rfl (fun _ hroom _ => run_turnsAway hroom) hnext
  | linkStatus => exact run_serve (fun hroom _ _ => run_turnsAway hroom) hnext
  | reset => exact run_serve (fun hroom _ _ => run_reset hroom) hnext
  | _ => cases hnext; exact .ops .refl

theorem run_takeFrame {kind : Byte} {payload : List Byte} (hnext : takeFrame kind tag port payload s = .next t) : Run s t := by
  unfold takeFrame at hnext
  split at hnext
  next => cases hnext; exact .ops (Ops.arbitrated (Op.refuse ..).ops)
  next =>
    split at hnext
    next =>
      cases hnext
      unfold refuseUnread
      split
      · exact .ops (Ops.arbitrated (Op.refuse ..).ops)
      · exact .ops Op.arbitrate.ops
    next => exact run_request hnext

theorem run_endFrame {content : List Byte} (hnext : endFrame content s = .next t) : Run s t := by
  unfold endFrame at hnext
  split at hnext
  · cases hnext; exact .ops (Ops.arbitrated (Op.count _).ops)
  · cases hnext; exact .ops (Ops.arbitrated (Op.count _).ops)
  · exact run_takeFrame hnext

theorem ops_framingDiscard (next : DeframerState) : Ops s (framingDiscard next s) :=
  (Op.deframe next [] fun _ => Nat.zero_le _).ops.tail (.count _)

theorem ops_appendContent (v : Byte) : Ops s (appendContent v s) := by
  unfold appendContent
  split
  next hroom => exact (Op.deframe _ _ fun _ => by rw [List.length_append]; exact hroom).ops
  next => exact ops_framingDiscard _

theorem ops_receiveByte (b : LineByte) : Ops s (receiveByte b s).1 := by
  unfold receiveByte
  split
  · exact .refl
  · dsimp only
    split
    · exact (Op.deframe _ _ fun _ => Nat.zero_le _).ops
    · exact .refl
  · exact ops_framingDiscard _
  · split
    · split
      · exact .refl
      · exact (Op.deframe _ _ fun _ => Nat.zero_le _).ops
    · split
      · exact (Op.deframe _ _ id).ops
      · exact ops_appendContent _
  · exact ops_framingDiscard _
  · split
    · exact ops_framingDiscard _
    · split
      · exact ops_appendContent _
      · split
        · exact ops_appendContent _
        · exact ops_framingDiscard _

theorem run_lineByte {b : LineByte} (hnext : lineByte b s = .next t) : ∃ u, Ops s u ∧ Run u t := by
  have received := ops_receiveByte (s := s) b
  unfold lineByte at hnext
  split at hnext
  next s' h => cases hnext; rw [h] at received; exact ⟨s', received, .ops Op.arbitrate.ops⟩
  next s' content h => rw [h] at received; exact ⟨s', received, run_endFrame hnext⟩

/-- A command is a run of these acts. -/
theorem exec_run {c : Instr} (hnext : exec c s = .next t) : ∃ u, Ops s u ∧ Run u t := by
  have event : ∀ {u : State}, Ops s u → .next (arbitrate u) = (.next t : Host.Outcome State Fault Refusal) →
      ∃ u, Ops s u ∧ Run u t := fun {u} hu h => by cases h; exact ⟨u, hu, .ops Op.arbitrate.ops⟩
  cases hrequest : c.request? with
  | some kind =>
    rw [← runRequest_eq_exec (by rw [hrequest]; rfl)] at hnext
    exact ⟨s, .refl, run_request hnext⟩
  | none =>
    cases c with
    | powerOn => cases hnext; exact ⟨_, Op.powerUp.ops, .ops .refl⟩
    | hostFrameReceived time =>
      obtain ⟨u, hu, hrun⟩ := run_lineByte hnext
      exact ⟨u, (Op.advance time).ops.trans hu, hrun⟩
    | hostLinkByteReceived time b =>
      obtain ⟨u, hu, hrun⟩ := run_lineByte hnext
      exact ⟨u, (Op.advance time).ops.trans hu, hrun⟩
    | transmitFrameDone time => exact event ((Op.advance time).ops.tail .sent) hnext
    | trackInputChange time p level1 level2 => exact event ((Op.advance time).ops.trans (ops_inputChange _ _)) hnext
    | trackFilterExpiry p => exact event ops_filterExpiry hnext
    | timeModeExpiry p => exact event ops_passTimer hnext
    | switchEnd p => exact event (ops_endPhase afterSwitch_kind) hnext
    | settleEnd p => exact event (ops_endPhase (c := Scan.toIntegrate) fun _ _ => rfl) hnext
    | integrateEnd p x y clipped found => cases hnext; exact run_endIntegrate x y clipped found
    | driveMessageSent time p =>
      exact event ((Op.advance time).ops.trans (ops_onDrive fun h => DriveChannel.messageSent_lawful _ h)) hnext
    | accept time p number => exact event ((Op.advance time).ops.trans (ops_driveAnswer _)) hnext
    | refuse time p number reason => exact event ((Op.advance time).ops.trans (ops_driveAnswer _)) hnext
    | done time p number => exact event ((Op.advance time).ops.trans (ops_driveAnswer _)) hnext
    | driveMessageDamaged time p raw => exact event ((Op.advance time).ops.trans (ops_driveMessage _)) hnext
    | acceptDeadline p => exact event ops_passAcceptDeadline hnext
    | limitAcceptDeadline p => exact event ops_passLimitDeadline hnext
    | doneDeadline p => exact event ops_passDoneDeadline hnext
    | _ => cases hrequest

end Sys2Proof.Machine

/-! PROOFS. The acts of a command on the blocks of each port, and how an invariant is proved from them. -/

namespace Sys2Proof.Machine

variable {p q : PortId} {s t : State} {b b' : PortBlocks} {f g : Record → Record}

/-! ### From acts to steps -/

theorem ops_abortHeld (place : Nat) : Ops s (abortHeld place s) := by
  unfold abortHeld
  generalize (s.link.buffer.filter fun h => h.place != place) = l
  induction l generalizing s with
  | nil => exact .refl
  | cons h rest ih => exact (Op.reply h.place (.refused .resetAborted none)).ops.trans ih

theorem held_acts (k : RequestKind) (tag port : Byte) (hroom : s.link.buffer.length < Config.requestPlaces) :
    Acts s (hold k tag port s) := Relation.ReflTransGen.single (.holds hroom)

theorem reset_acts : Acts s (resetPart s) := Relation.ReflTransGen.single .resets

theorem Run.acts (h : Run s t) : Acts s t := by
  cases h with
  | ops h => exact h.acts
  | completes hscan hconsumed hnext =>
    exact ((Relation.ReflTransGen.single (.completes hscan)).trans hconsumed.acts).trans (ops_nextStart.acts.trans hnext.acts)
  | served hroom _ hserved hanswered =>
    exact ((held_acts _ _ _ hroom).trans hserved.acts).trans ((Op.reply ..).ops.acts.trans hanswered.acts)
  | turnedAway hroom hanswered => exact (held_acts _ _ _ hroom).trans ((Op.reply ..).ops.acts.trans hanswered.acts)
  | @nulls _ p tag hroom hidle hrest =>
    exact ((held_acts .nullChannels tag p.byte hroom).tail (.nulls hidle)).trans hrest.acts
  | @holdsClose _ p tag hroom hmode _ hscan hrest =>
    exact ((held_acts .closeTube tag p.byte hroom).tail (.holdsClose hmode hscan)).trans hrest.acts
  | @closes u _ p tag hroom hmode _ hcloses hrest =>
    have record : ((hold .closeTube tag p.byte s).port p).ctl.mode.hasRecord = true := hmode
    have closed := (ops_closeToIdle (reason := .host) (cause := .closeHost) record).acts
    rw [← hcloses] at closed
    exact ((held_acts .closeTube tag p.byte hroom).trans closed).trans hrest.acts
  | @resets _ tag port hroom hrest =>
    have answered := (ops_abortHeld (s := hold .reset tag port s) (freePlace s.link.buffer)).tail
      (.reply (freePlace s.link.buffer) (.done .nothing))
    exact (((held_acts .reset tag port hroom).trans (Ops.acts answered)).trans reset_acts).trans hrest.acts

theorem exec_acts {c : Instr} (hnext : exec c s = .next t) : Acts s t := by
  obtain ⟨u, hops, hrun⟩ := exec_run hnext
  exact hops.acts.trans hrun.acts

/-- A property that every act keeps, and that does not hang on the queue, is kept by every step. -/
theorem step_keeps {L : State → Prop} (hqueue : ∀ s l, L s → L { s with pending := l })
    (hact : ∀ s t, Act s t → L s → L t) (hlaw : L s) (hstep : step s = .next t) : L t := by
  have acts : ∀ {u v : State}, Acts u v → L u → L v := fun {u v} h hu => by
    induction h with
    | refl => exact hu
    | tail _ h ih => exact hact _ _ h ih
  unfold step at hstep
  split at hstep
  next c rest _ => exact acts (exec_acts hstep) (hqueue s rest hlaw)
  next => cases hstep; exact hlaw

/-! ### The blocks of one port -/

/-- The blocks a port's operation ends with; `bare` says that some port has a record and no open record. -/
inductive Ended (bare : Prop) (b : PortBlocks) : PortBlocks → Prop
  | record (hmode : b.ctl.mode.hasRecord = true) : Ended bare b b.scanEnded.afterClose
  | nulling (hmode : b.ctl.mode = .nulling) :
    Ended bare b { b.scanEnded with chan := { b.scanEnded.chan with accum := none } }
  | bare (h : bare) (hmode : b.ctl.mode.hasRecord = true) : Ended bare b b.scanEnded
  | rest (hmode : b.ctl.mode.scanning = false) : Ended bare b b.scanEnded

/-- What one act makes of the blocks of a port. -/
inductive BlockStep (bare : Prop) (b : PortBlocks) : PortBlocks → Prop
  | stands : BlockStep bare b b
  | frameTaken {x : StreamFrame} {rest : List StreamFrame} (h : b.stream.ring = x :: rest) :
    BlockStep bare b { b with stream := { b.stream with ring := rest } }
  | powerOn : BlockStep bare b b.powerOnAt
  | drive {d : DriveChannel} (h : b.drive.lawful → d.lawful) : BlockStep bare b { b with drive := d }
  | quiet {b' : PortBlocks} {f : Record → Record} (h : Quiet b b' f) : BlockStep bare b b'
  | sequenced {q : Sequencer} (h : Sequenced b q) : BlockStep bare b { b with seq := q }
  | counted {runs : List Nat} (hscan : b.seq.scan.isSome = true) (hlength : runs.length = b.ctl.runs.length)
    (hruns : (∀ n ∈ b.ctl.runs, n < Config.coilFaultRun) → ∀ n ∈ runs, n < Config.coilFaultRun) :
    BlockStep bare b { b with ctl := { b.ctl with runs := runs } }
  | edit {edit : Plan → Plan} (hpending : b.plan.pending = false) (hrange : ∀ w, w.InRange → (edit w).InRange) :
    BlockStep bare b { b with plan := { b.plan with staged := edit b.plan.staged } }
  | discard : BlockStep bare b { b with plan := { b.plan with staged := b.plan.working, pending := false } }
  | commitRest {now : Nat} (hrest : b.ctl.mode.atRest = true) (hvalid : b.plan.staged.validate = none) :
    BlockStep bare b ({ b with plan := { b.plan with staged := b.plan.staged.commitClamped } }.promotedAt now)
  | commitPending (hscanning : b.ctl.mode.scanning = true) (hvalid : b.plan.staged.validate = none) :
    BlockStep bare b { b with plan := { b.plan with staged := b.plan.staged.commitClamped, pending := true } }
  | idles {cause : Cause} {now : Nat}
    (h : b.ctl.mode = .off ∨ b.ctl.mode = .fault ∨ (b.ctl.mode.hasRecord = true ∧ bare)) :
    BlockStep bare b ((b.rested .idle cause).settledAt now)
  | arms {now p0 : Nat} (hidle : b.ctl.mode = .idle) : BlockStep bare b (b.armed now p0)
  | enters {now : Nat} (harmed : b.ctl.mode = .armed) (hclose : b.seq.closeHold = false) : BlockStep bare b (b.entered now)
  | takes {u : TravelUnit} {now : Nat} {pos : Int} (hmode : b.ctl.mode = .acquiring) (htakes : b.seq.takes = true)
    (hspeeds : u.limitSpeed = b.travel.limitSpeed ∧ u.guardLimit = b.travel.guardLimit) :
    BlockStep bare b { b with seq := b.seq.beginScan now .distance pos, travel := u }
  | misses {u : TravelUnit} (hmode : b.ctl.mode = .acquiring)
    (hspeeds : u.limitSpeed = b.travel.limitSpeed ∧ u.guardLimit = b.travel.guardLimit) :
    BlockStep bare b { b with travel := u }
  | startsHeld {now : Nat} {pos : Int} (hmode : b.ctl.mode = .acquiring) :
    BlockStep bare b { b with seq := Sequencer.beginScan now .distance pos { b.seq with held := none } }
  | closes {cause : Cause} {now : Nat} (hmode : b.ctl.mode.hasRecord = true) :
    BlockStep bare b ((b.closedToIdle cause).settledAt now)
  | nulled {sums : List ChannelValue} {now : Nat} (hmode : b.ctl.mode = .nulling)
    (hsums : ∃ a, b.chan.accum = some a ∧ sums.length ≤ a.sums.length) :
    BlockStep bare b (({ b with chan := { b.chan with nulls := nulledTable b.chan.nulls sums, accum := none } }.rested
      .idle .nullDone).settledAt now)
  | faults {runs : List Nat} {d : FaultDetail} {e : PortBlocks} {now : Nat}
    (h : Ended bare { b with ctl := { b.ctl with runs := runs, fault := some d } } e) :
    BlockStep bare b (e.faulted.settledAt now)
  | disables {e : PortBlocks} {now : Nat} (h : Ended bare b e) : BlockStep bare b (e.disabled.settledAt now)
  | nulls {now : Nat} (hidle : b.ctl.mode = .idle) : BlockStep bare b (b.nullingAt now)
  | holdsClose (hmode : b.ctl.mode.hasRecord = true) : BlockStep bare b b.closeHeld
  | completes {sc : Scan} {pos : Int} (hscan : b.seq.scan = some sc) : BlockStep bare b (b.completed sc pos)
  | resets {now : Nat} : BlockStep bare b (b.resetOff.settledAt now)

/-- Some port has a record and no open record, as no run has it. -/
def State.bare (s : State) : Prop := ∃ p, (s.port p).ctl.mode.hasRecord = true ∧ s.openNumber p = none

/-- A change of one port's blocks leaves the others. -/
theorem blockStep_setPort {s' : State} (hsame : s'.port p = b) (hne : ∀ q, q ≠ p → s'.port q = s.port q)
    (h : BlockStep s.bare (s.port p) b) (q : PortId) : BlockStep s.bare (s.port q) (s'.port q) := by
  by_cases hq : q = p
  · subst hq
    rw [hsame]
    exact h
  · rw [hne q hq]
    exact .stands

theorem blockStep_arbitrate (q : PortId) : BlockStep s.bare (s.port q) ((arbitrate s).port q) := by
  unfold arbitrate
  split
  · exact .stands
  · split
    · exact .stands
    · split
      · exact .stands
      · split
        next p x rest hnext =>
          have taken : (s.port p).stream.ring = x :: rest := by
            obtain ⟨r, -, hr⟩ := List.exists_of_findSome?_eq_some hnext
            split at hr
            next => cases hr
            next y l hring => cases hr; exact hring
          exact blockStep_setPort (p := p) (setPort_port_same _) (fun q hq => setPort_port_ne _ hq) (.frameTaken taken) q
        next => exact .stands

theorem Ending.ended {reason : CloseReason} {ans : State → State} {rs : List Report} {c : RecordStore → RecordStore}
    (h : Ending p reason s ans rs c b) : Ended s.bare (s.port p) b := by
  cases h with
  | record hmode _ => exact .record hmode
  | nulling hmode => exact .nulling hmode
  | bare hmode hnumber => exact .bare ⟨p, hmode, hnumber⟩ hmode
  | rest hmode => exact .rest hmode

theorem bare_setPort (hmode : b.ctl.mode = (s.port p).ctl.mode) : (s.setPort p b).bare ↔ s.bare := by
  have same : ∀ q, ((s.setPort p b).port q).ctl.mode = (s.port q).ctl.mode := fun q => by
    by_cases hq : q = p
    · subst hq; rw [setPort_port_same, hmode]
    · rw [setPort_port_ne _ hq]
  unfold State.bare
  simp only [same]
  rfl

theorem Op.blocks (h : Op s t) (q : PortId) : BlockStep s.bare (s.port q) (t.port q) := by
  have one : ∀ {p : PortId} {b : PortBlocks} {f : Record → Record}, BlockStep s.bare (s.port p) b →
      BlockStep s.bare (s.port q) ((act p b f s).port q) := fun h =>
    blockStep_setPort act_port_same (fun q hq => act_port_ne hq) h q
  have said' : ∀ {p : PortId} {b : PortBlocks} {ans : State → State} {rs : List Report} {c : RecordStore → RecordStore},
      Answers ans → BlockStep s.bare (s.port p) b → BlockStep s.bare (s.port q) ((said ans rs c p b s).port q) := fun ha h =>
    blockStep_setPort (said_port ha) (fun q hq => said_port_ne ha hq) h q
  have plain : ∀ {p : PortId} {b : PortBlocks}, BlockStep s.bare (s.port p) b →
      BlockStep s.bare (s.port q) ((s.setPort p b).port q) := fun h =>
    blockStep_setPort (setPort_port_same _) (fun q hq => setPort_port_ne _ hq) h q
  cases h with
  | advance => exact .stands
  | report => rw [report_port]; exact .stands
  | reply => rw [reply_port]; exact .stands
  | refuse => unfold refuseAtOnce; split <;> exact .stands
  | deframe => exact .stands
  | count => exact .stands
  | sent => exact .stands
  | arbitrate => exact blockStep_arbitrate q
  | powerUp => cases q <;> exact .powerOn
  | release => exact .stands
  | drive h => exact plain (.drive h)
  | quiet h => exact one (.quiet h)
  | sequenced h => exact plain (.sequenced h)
  | counted hscan hlength hruns => exact plain (.counted hscan hlength hruns)
  | edit hpending hrange => exact plain (.edit hpending hrange)
  | discard => exact plain .discard
  | commitRest hrest hvalid => exact plain (.commitRest hrest hvalid)
  | commitPending hscanning hvalid => exact one (.commitPending hscanning hvalid)
  | idles h => exact plain (.idles (h.imp_right (Or.imp_right fun h => ⟨h.1, _, h⟩)))
  | opens hidle _ hr => exact plain (.arms hidle)
  | enters harmed hclose => exact one (.enters harmed hclose)
  | takes hmode htakes _ _ hspeeds _ => exact one (.takes hmode htakes hspeeds)
  | misses hmode _ _ hspeeds => exact one (.misses hmode hspeeds)
  | startsHeld hmode _ => exact plain (.startsHeld hmode)
  | closes hmode _ => exact said' (answers_answerHeld ..) (.closes hmode)
  | nulled hmode hsums => exact said' (answers_answerHeld ..) (.nulled hmode hsums)
  | @faults p runs d ans rs rs' c b h =>
    have same : ∀ x : PortController, x.mode = (s.port p).ctl.mode →
        (s.setPort p { s.port p with ctl := x }).bare = s.bare := fun _ hx => propext (bare_setPort hx)
    have ended := h.ended
    rw [setPort_port_same, same { (s.port p).ctl with runs := runs, fault := some d } rfl] at ended
    exact said' h.answers (.faults ended)
  | disables h => exact said' h.answers (.disables h.ended)

theorem Act.blocks (h : Act s t) (q : PortId) : BlockStep s.bare (s.port q) (t.port q) := by
  have plain : ∀ {p : PortId} {b : PortBlocks}, BlockStep s.bare (s.port p) b →
      BlockStep s.bare (s.port q) ((s.setPort p b).port q) := fun h =>
    blockStep_setPort (setPort_port_same _) (fun q hq => setPort_port_ne _ hq) h q
  cases h with
  | op h => exact h.blocks q
  | holds => exact .stands
  | nulls hidle => exact plain (.nulls hidle)
  | holdsClose hmode _ => exact plain (.holdsClose hmode)
  | completes hscan => exact blockStep_setPort act_port_same (fun q hq => act_port_ne hq) (.completes hscan) q
  | resets => rw [resetPart_eq, tell_port, onLink_port, onStore_port, resetPorts_port]; exact .resets

/-- A law of the blocks of every port is kept where every change of blocks keeps it. -/
theorem step_keeps_blocks {L : PortBlocks → Prop} (hkeeps : ∀ bare b b', BlockStep bare b b' → L b → L b')
    (hlaw : ∀ p, L (s.port p)) (hstep : step s = .next t) (p : PortId) : L (t.port p) :=
  step_keeps (L := fun s => ∀ p, L (s.port p)) (fun _ _ h => h) (fun _ _ h hs p => hkeeps _ _ _ (h.blocks p) (hs p))
    hlaw hstep p

end Sys2Proof.Machine

/-! PROOFS. Every step keeps the law of port states (R1 to R3, R9, R10, R29, R48 to R53), the law of drive channels (R152)
and the capacities of the stream rings (R170). -/

namespace Sys2Proof.Machine

variable {p q : PortId} {s t : State} {b b' e : PortBlocks} {f g : Record → Record} {now : Nat} {bare : Prop}

/-! ### What a promotion leaves -/

/-- A promotion changes the plan and what is derived from it, the null table and the tracks. -/
theorem promotedAt_frame (now : Nat) (b : PortBlocks) : ∃ track1 track2 quad raw illegal, b.promotedAt now = { b with
    chan := { b.chan with nulls := comparedNulls b.plan.working b.plan.staged b.chan.nulls }
    plan := { working := b.plan.staged, staged := b.plan.staged, pending := false, generation := b.plan.generation + 1 }
    seq := b.seq.derive b.plan.staged
    travel := { b.travel.derive b.plan.staged with
      track1 := track1, track2 := track2, quad := quad, raw := raw, illegal := illegal } } := by
  have promoted : ∃ track1 track2, b.promoted now = { b with
      chan := { b.chan with nulls := comparedNulls b.plan.working b.plan.staged b.chan.nulls }
      plan := { working := b.plan.staged, staged := b.plan.staged, pending := false, generation := b.plan.generation + 1 }
      seq := b.seq.derive b.plan.staged
      travel := { b.travel.derive b.plan.staged with track1 := track1, track2 := track2 } } := by
    unfold PortBlocks.promoted
    dsimp only
    split
    · exact ⟨b.travel.track1, b.travel.track2, rfl⟩
    · exact ⟨_, _, rfl⟩
  obtain ⟨track1, track2, hpromoted⟩ := promoted
  unfold PortBlocks.promotedAt
  dsimp only
  rw [hpromoted]
  split
  · exact ⟨track1, track2, b.travel.quad, b.travel.raw, b.travel.illegal, rfl⟩
  · obtain ⟨quad, raw, illegal, hdecode⟩ := decode_frame b.plan.staged.travel
      { b.travel.derive b.plan.staged with track1 := track1, track2 := track2 }
    exact ⟨track1, track2, quad, raw, illegal, by rw [hdecode]⟩

/-- A sequencer in which nothing runs, starts or is held. -/
def Sequencer.still (q : Sequencer) : Prop :=
  q.scan = none ∧ q.timer = none ∧ q.owed = false ∧ q.held = none ∧ q.closeHold = false

theorem Sequencer.stop_still (q : Sequencer) : q.stop.still := ⟨rfl, rfl, rfl, rfl, rfl⟩

/-- What a pending promotion leaves of a port: the controller, the state of the sequencer and every block but the plan store,
the null table and the travel unit. -/
theorem settledAt_frame (now : Nat) (b : PortBlocks) : (b.settledAt now).ctl = b.ctl ∧
    (b.settledAt now).plan.pending = false ∧ (b.seq.still → (b.settledAt now).seq.still) ∧
    (b.settledAt now).land = b.land ∧ (b.settledAt now).stream = b.stream ∧ (b.settledAt now).det = b.det ∧
    (b.settledAt now).chan.accum = b.chan.accum ∧ (b.settledAt now).travel.grid = b.travel.grid := by
  unfold PortBlocks.settledAt
  split
  next =>
    obtain ⟨track1, track2, quad, raw, illegal, h⟩ := promotedAt_frame now b
    rw [h]
    exact ⟨rfl, rfl, id, rfl, rfl, rfl, rfl, rfl⟩
  next hpending => exact ⟨rfl, by simpa using hpending, id, rfl, rfl, rfl, rfl, rfl⟩

/-! ### The law of port states -/

/-- The law of a port looks at its controller, at what its sequencer runs and holds, and at the pending flag. -/
theorem lawful_congr (h : b.lawful) (hctl : b'.ctl = b.ctl) (hscan : b'.seq.scan.isSome = b.seq.scan.isSome)
    (hstarts : b'.seq.timer = b.seq.timer ∧ b'.seq.owed = b.seq.owed ∧ b'.seq.held = b.seq.held ∧
      b'.seq.closeHold = b.seq.closeHold) (hpending : b'.plan.pending = b.plan.pending) : b'.lawful := by
  obtain ⟨htimer, howed, hheld, hclose⟩ := hstarts
  unfold PortBlocks.lawful
  rw [hctl, hscan, htimer, howed, hheld, hclose, hpending]
  exact h

theorem mem_zeroRuns {n : Nat} (h : n ∈ zeroRuns) : n = 0 := List.eq_of_mem_replicate h

/-- A port at rest that scans nothing, holds nothing and has no plan pending. -/
theorem lawful_of_still (hseq : b.seq.still) (hruns : b.ctl.runs = zeroRuns)
    (hfault : b.ctl.fault.isSome = true ↔ b.ctl.mode = .fault) (hpending : b.plan.pending = false) : b.lawful := by
  obtain ⟨hscan, htimer, howed, hheld, hclose⟩ := hseq
  refine ⟨?_, ?_, ?_, ?_, ?_, ?_, fun _ n hn => mem_zeroRuns (hruns ▸ hn), hfault, ?_⟩
  · simp [hscan]
  · simp [htimer, howed]
  · simp [hheld]
  · simp [hclose]
  · rw [hruns]; rfl
  · intro n hn
    rw [show n = 0 from mem_zeroRuns (hruns ▸ hn)]
    decide
  · simp [hpending]

/-- A port brought to rest, its pending plan promoted. -/
theorem settledAt_lawful (hseq : b.seq.still) (hruns : b.ctl.runs = zeroRuns)
    (hfault : b.ctl.fault.isSome = true ↔ b.ctl.mode = .fault) : (b.settledAt now).lawful := by
  obtain ⟨hctl, hpending, hstill, -⟩ := settledAt_frame now b
  exact lawful_of_still (hstill hseq) (by rw [hctl, hruns]) (by rw [hctl, hfault]) hpending

theorem rested_idle_lawful {cause : Cause} : ((b.rested .idle cause).settledAt now).lawful :=
  settledAt_lawful b.seq.stop_still rfl (by simp [PortBlocks.rested, PortController.rest])

/-- Run counts of a scanning state may be anything below 3. -/
theorem Ended.fault (h : Ended bare b e) : e.ctl = b.ctl := by cases h <;> rfl

/-- A port that has entered a scanning state with a TIME scan begun and nothing held. -/
theorem lawful_of_scanning (hmode : b'.ctl.mode = .nulling ∨ b'.ctl.mode = .armed) (hheld : b'.seq.held = none)
    (hclose : b'.seq.closeHold = false) (hlength : b'.ctl.runs.length = Config.rawChannels)
    (hruns : ∀ n ∈ b'.ctl.runs, n < Config.coilFaultRun) (hfault : b'.ctl.fault = none) : b'.lawful := by
  have scanning : b'.ctl.mode.scanning = true := by rcases hmode with h | h <;> rw [h] <;> rfl
  have noFault : b'.ctl.mode ≠ .fault := by rcases hmode with h | h <;> rw [h] <;> decide
  refine ⟨fun _ => scanning, fun _ => hmode, ?_, ?_, hlength, hruns, ?_, ?_, fun _ => scanning⟩
  · simp [hheld]
  · simp [hclose]
  · simp [scanning]
  · simp [hfault, noFault]

theorem startZero_scan (q : Sequencer) (x : Int) : (q.startZero now x).timer = q.timer ∧ (q.startZero now x).owed = q.owed ∧
    (q.startZero now x).closeHold = q.closeHold := by
  rw [startZero_eq]
  split <;> exact ⟨rfl, rfl, rfl⟩

theorem BlockStep.lawful (h : BlockStep bare b b') (hlaw : b.lawful) : b'.lawful := by
  obtain ⟨hscan, htimed, hheld, hclose, hlength, hruns, hzero, hfault, hpending⟩ := id hlaw
  have noFault : b.ctl.mode ≠ .fault → b.ctl.fault = none := fun hne => by
    cases hd : b.ctl.fault with
    | none => rfl
    | some d => exact absurd (hfault.mp (by rw [hd]; rfl)) hne
  cases h with
  | stands => exact hlaw
  | frameTaken => exact hlaw
  | powerOn => exact lawful_of_still ⟨rfl, rfl, rfl, rfl, rfl⟩ rfl ⟨fun h => (by cases h), fun h => (by cases h)⟩ rfl
  | drive => exact hlaw
  | quiet h => exact lawful_congr hlaw h.ctl (by rw [h.seq]) (by rw [h.seq]; exact ⟨rfl, rfl, rfl, rfl⟩) (by rw [h.plan])
  | sequenced h =>
    refine ⟨fun hsome => ?_, fun hsome => ?_, fun hsome => hheld (h.held hsome), fun hsome => hclose (h.closeHold ▸ hsome),
      hlength, hruns, hzero, hfault, hpending⟩
    · exact (h.scan hsome).elim hscan id
    · exact (h.timed hsome).elim htimed id
  | counted hsome hlength' hruns' =>
    have scanning := hscan hsome
    exact ⟨hscan, htimed, hheld, hclose, hlength'.trans hlength, hruns' hruns,
      fun h => absurd (h.symm.trans scanning) Bool.false_ne_true, hfault, hpending⟩
  | edit hnone _ => exact hlaw
  | discard => exact ⟨hscan, htimed, hheld, hclose, hlength, hruns, hzero, hfault, fun h => absurd h Bool.false_ne_true⟩
  | @commitRest now hrest _ =>
    obtain ⟨track1, track2, quad, raw, illegal, h⟩ := promotedAt_frame now
      { b with plan := { b.plan with staged := b.plan.staged.commitClamped } }
    rw [h]
    exact ⟨hscan, htimed, hheld, hclose, hlength, hruns, hzero, hfault, fun h => absurd h Bool.false_ne_true⟩
  | commitPending hscanning _ => exact ⟨hscan, htimed, hheld, hclose, hlength, hruns, hzero, hfault, fun _ => hscanning⟩
  | idles _ => exact rested_idle_lawful
  | arms hidle =>
    exact lawful_of_scanning (.inr rfl) rfl rfl hlength hruns (noFault (by rw [hidle]; decide))
  | @enters now harmed hopen =>
    obtain ⟨htimer, howed, hhold⟩ := startZero_scan (now := now) (b.enterAcquiring now).seq b.travel.raw
    refine ⟨fun _ => rfl, fun h => ?_, fun _ => rfl, fun _ => rfl, hlength, hruns, fun h => absurd h.symm Bool.false_ne_true,
      ?_, fun _ => rfl⟩
    · have timer : (b.entered now).seq.timer = none := htimer
      have owed : (b.entered now).seq.owed = false := howed
      rw [timer, owed] at h
      simp at h
    · have detail : (b.entered now).ctl.fault = none := noFault (by rw [harmed]; decide)
      rw [detail]
      simp [PortBlocks.entered]
  | takes hmode htakes _ =>
    exact ⟨fun _ => by rw [hmode]; rfl, htimed, hheld, hclose, hlength, hruns, hzero, hfault, hpending⟩
  | misses => exact hlaw
  | startsHeld hmode =>
    exact ⟨fun _ => by rw [hmode]; rfl, htimed, fun h => (by cases h), hclose, hlength, hruns, hzero, hfault, hpending⟩
  | closes hmode => exact settledAt_lawful ⟨rfl, rfl, rfl, rfl, rfl⟩ rfl (by simp [PortBlocks.closedToIdle])
  | nulled hmode _ => exact rested_idle_lawful
  | faults h =>
    refine settledAt_lawful (Sequencer.stop_still _) rfl ?_
    have detail := h.fault
    simp [PortBlocks.faulted, PortBlocks.rested, PortController.rest, detail]
  | disables h => exact settledAt_lawful ⟨rfl, rfl, rfl, rfl, rfl⟩ rfl (by simp [PortBlocks.disabled, PortBlocks.cleared])
  | nulls hidle => exact lawful_of_scanning (.inl rfl) rfl rfl hlength hruns (noFault (by rw [hidle]; decide))
  | holdsClose hmode => exact ⟨hscan, htimed, hheld, fun _ => hmode, hlength, hruns, hzero, hfault, hpending⟩
  | completes _ => exact ⟨fun h => (by cases h), htimed, hheld, hclose, hlength, hruns, hzero, hfault, hpending⟩
  | resets => exact settledAt_lawful ⟨rfl, rfl, rfl, rfl, rfl⟩ rfl (by simp [PortBlocks.resetOff, PortBlocks.cleared])

/-- Settles O55: every act keeps the law of every port. -/
theorem portLawKept : Obligations.PortLawKept := fun _ _ hlaw hstep =>
  step_keeps_blocks (fun _ _ _ h => h.lawful) hlaw hstep

/-! ### The law of drive channels -/

theorem Ended.drive (h : Ended bare b e) : e.drive = b.drive := by cases h <;> rfl

theorem DriveChannel.powerOn_lawful : DriveChannel.powerOn.lawful := by
  simp [DriveChannel.lawful, DriveChannel.powerOn]

theorem BlockStep.drive_lawful (h : BlockStep bare b b') (hlaw : b.drive.lawful) : b'.drive.lawful := by
  cases h with
  | powerOn => exact DriveChannel.powerOn_lawful
  | drive h => exact h hlaw
  | quiet h => exact h.drive ▸ hlaw
  | @commitRest now _ _ =>
    obtain ⟨track1, track2, quad, raw, illegal, h⟩ := promotedAt_frame now
      { b with plan := { b.plan with staged := b.plan.staged.commitClamped } }
    rw [h]
    exact hlaw
  | idles _ => rw [settledAt_drive]; exact hlaw
  | closes _ => rw [settledAt_drive]; exact hlaw
  | nulled _ _ => rw [settledAt_drive]; exact hlaw
  | faults _ => rw [settledAt_drive]; exact DriveChannel.halt_lawful _
  | disables _ => rw [settledAt_drive]; exact DriveChannel.halt_lawful _
  | resets => rw [settledAt_drive]; exact DriveChannel.resetHalt_lawful _
  | _ => exact hlaw

/-- Settles O56: every act keeps the law of every drive channel. -/
theorem driveLawKept : Obligations.DriveLawKept := fun _ _ hlaw hstep =>
  step_keeps_blocks (L := fun b => b.drive.lawful) (fun _ _ _ h => h.drive_lawful) hlaw hstep

/-! ### The stream rings -/

theorem Ended.ring (h : Ended bare b e) : e.stream.ring = b.stream.ring := by cases h <;> rfl

theorem BlockStep.ring_le (h : BlockStep bare b b') (hlaw : b.stream.ring.length ≤ Config.ringFrames) :
    b'.stream.ring.length ≤ Config.ringFrames := by
  have rested : ∀ (e : PortBlocks) (new : PortMode) (cause : Cause), (e.rested new cause).stream.ring = e.stream.ring :=
    fun e new cause => by unfold PortBlocks.rested; dsimp only; split <;> rfl
  cases h with
  | frameTaken h =>
    rw [h, List.length_cons] at hlaw
    exact (Nat.le_succ _).trans hlaw
  | powerOn => exact Nat.zero_le _
  | quiet h => exact h.ring hlaw
  | @commitRest now _ _ =>
    obtain ⟨track1, track2, quad, raw, illegal, h⟩ := promotedAt_frame now
      { b with plan := { b.plan with staged := b.plan.staged.commitClamped } }
    rw [h]
    exact hlaw
  | idles _ => rw [(settledAt_frame _ _).2.2.2.2.1, rested]; exact hlaw
  | closes _ => rw [(settledAt_frame _ _).2.2.2.2.1]; exact hlaw
  | nulled _ _ => rw [(settledAt_frame _ _).2.2.2.2.1, rested]; exact hlaw
  | faults h => rw [(settledAt_frame _ _).2.2.2.2.1, PortBlocks.faulted, rested]; exact h.ring ▸ hlaw
  | disables _ => rw [(settledAt_frame _ _).2.2.2.2.1]; exact Nat.zero_le _
  | resets => rw [(settledAt_frame _ _).2.2.2.2.1]; exact Nat.zero_le _
  | _ => exact hlaw

end Sys2Proof.Machine

/-! PROOFS. Every step keeps the record pool's law (R130 to R133) and the law of every record's lists (R125, R139 to R141). -/

namespace Sys2Proof.Machine

variable {p q : PortId} {s t : State} {b b' e : PortBlocks} {f g : Record → Record} {slots : List RecordSlot}

/-! ### The slots under each change of the pool -/

theorem record_onOpen (hf : Keeps f) (x : RecordSlot) :
    (x.onOpen p f).record.map Record.number = x.record.map Record.number := by
  cases x with
  | free => rfl
  | ready r => rfl
  | opened r =>
    unfold RecordSlot.onOpen
    dsimp only
    split
    · exact congrArg some (hf.number r)
    · rfl

theorem record_makeReady (x : RecordSlot) : (x.makeReady p).record = x.record := by
  cases x with
  | free => rfl
  | ready r => rfl
  | opened r =>
    unfold RecordSlot.makeReady
    dsimp only
    split <;> rfl

/-- A change of each slot that keeps the number of its record keeps the numbers of the pool. -/
theorem numbers_map {c : RecordSlot → RecordSlot}
    (hc : ∀ x : RecordSlot, (c x).record.map Record.number = x.record.map Record.number) :
    ((slots.map c).filterMap RecordSlot.record).map Record.number =
      (slots.filterMap RecordSlot.record).map Record.number := by
  rw [List.filterMap_map, List.map_filterMap, List.map_filterMap]
  exact List.filterMap_congr fun x _ => hc x

/-- The slots whose open record has become READY hold it beside the READY records that stood. -/
theorem readyRecords_readied (hf : Keeps f) (slots : List RecordSlot) :
    ((slots.map fun x => (x.onOpen p f).makeReady p).filterMap RecordSlot.readyRecord).Perm
      (slots.filterMap RecordSlot.readyRecord ++ (slots.filterMap (RecordSlot.openFor p)).map f) := by
  induction slots with
  | nil => exact .nil
  | cons x rest ih =>
    cases x with
    | free => exact ih
    | ready r => exact ih.cons r
    | opened r =>
      by_cases hr : r.port = p
      · have ready : ((RecordSlot.opened r).onOpen p f).makeReady p = .ready (f r) := by
          simp [RecordSlot.onOpen, RecordSlot.makeReady, hr, hf.port]
        have found : RecordSlot.openFor p (.opened r) = some r := if_pos hr
        have passed : RecordSlot.readyRecord (.opened r) = none := rfl
        rw [List.map_cons, ready, List.filterMap_cons_some (f := RecordSlot.readyRecord) (a := .ready (f r)) rfl,
          List.filterMap_cons_none passed,
          List.filterMap_cons_some found, List.map_cons]
        exact (ih.cons (f r)).trans List.perm_middle.symm
      · have stands : ((RecordSlot.opened r).onOpen p f).makeReady p = .opened r := by
          simp [RecordSlot.onOpen, RecordSlot.makeReady, hr]
        have missed : RecordSlot.openFor p (.opened r) = none := if_neg hr
        have passed : RecordSlot.readyRecord (.opened r) = none := rfl
        rw [List.map_cons, stands, List.filterMap_cons_none passed, List.filterMap_cons_none passed,
          List.filterMap_cons_none missed]
        exact ih

theorem openFor_readied_same (x : RecordSlot) : RecordSlot.openFor p ((x.onOpen p f).makeReady p) = none :=
  openFor_makeReady _

theorem openFor_readied_ne (hf : Keeps f) (h : q ≠ p) (x : RecordSlot) :
    RecordSlot.openFor q ((x.onOpen p f).makeReady p) = RecordSlot.openFor q x := by
  cases x with
  | free => rfl
  | ready r => rfl
  | opened r =>
    by_cases hr : r.port = p
    · have other : r.port ≠ q := fun h' => h (h'.symm.trans hr)
      have ready : ((RecordSlot.opened r).onOpen p f).makeReady p = .ready (f r) := by
        simp [RecordSlot.onOpen, RecordSlot.makeReady, hr, hf.port]
      rw [ready]
      exact (if_neg other).symm
    · have stands : ((RecordSlot.opened r).onOpen p f).makeReady p = .opened r := by
        simp [RecordSlot.onOpen, RecordSlot.makeReady, hr]
      rw [stands]

/-- A release takes a record out of the pool, or none. -/
theorem record_released_sublist (n : Nat) (slots : List RecordSlot) :
    ((slots.map (RecordSlot.releaseNumber n)).filterMap RecordSlot.record).Sublist (slots.filterMap RecordSlot.record) := by
  induction slots with
  | nil => exact .slnil
  | cons x rest ih =>
    cases x with
    | free => exact ih
    | opened r => exact ih.cons_cons r
    | ready r =>
      by_cases hr : r.number = n
      · have freed : (RecordSlot.ready r).releaseNumber n = .free := if_pos hr
        rw [List.map_cons, freed]
        exact ih.cons r
      · have stands : (RecordSlot.ready r).releaseNumber n = .ready r := if_neg hr
        rw [List.map_cons, stands]
        exact ih.cons_cons r

theorem readyRecords_released (n : Nat) (slots : List RecordSlot) :
    (slots.map (RecordSlot.releaseNumber n)).filterMap RecordSlot.readyRecord =
      (slots.filterMap RecordSlot.readyRecord).filter fun r => r.number != n := by
  induction slots with
  | nil => rfl
  | cons x rest ih =>
    cases x with
    | free => exact ih
    | opened r => exact ih
    | ready r =>
      by_cases hr : r.number = n
      · have freed : (RecordSlot.ready r).releaseNumber n = .free := if_pos hr
        rw [List.map_cons, freed, List.filterMap_cons_some (f := RecordSlot.readyRecord) (a := .ready r) rfl,
          List.filter_cons_of_neg (by simpa using hr)]
        exact ih
      · have stands : (RecordSlot.ready r).releaseNumber n = .ready r := if_neg hr
        rw [List.map_cons, stands, List.filterMap_cons_some (f := RecordSlot.readyRecord) (a := .ready r) rfl,
          List.filterMap_cons_some (f := RecordSlot.readyRecord) (a := .ready r) rfl,
          List.filter_cons_of_pos (by simpa using hr), ih]

theorem openFor_released (n : Nat) (x : RecordSlot) : RecordSlot.openFor q (x.releaseNumber n) = RecordSlot.openFor q x := by
  cases x with
  | free => rfl
  | opened r => rfl
  | ready r => unfold RecordSlot.releaseNumber; dsimp only; split <;> rfl

/-! ### The law of the lists -/

/-- What one act makes of the record store. -/
inductive StoreStep (st : RecordStore) : RecordStore → Prop
  | stands : StoreStep st st
  | written {p : PortId} {f : Record → Record} (hf : Sound f) :
    StoreStep st { st with slots := st.slots.map (RecordSlot.onOpen p f) }
  | released (n : Nat) : StoreStep st { st with
      slots := st.slots.map (RecordSlot.releaseNumber n), ready := st.ready.filter fun m => m != n }
  | opened {r : Record} (hfree : .free ∈ st.slots) (hnew : r.lawful) : StoreStep st (st.openWith r)
  | readied {p : PortId} {f : Record → Record} {n : Nat} (hf : Sound f) : StoreStep st (st.readied p f n)
  | emptied : StoreStep st .empty

theorem tubeRecord_lawful (row column sec p0 : Nat) : (tubeRecord s p row column sec p0).lawful :=
  ⟨Nat.zero_le _, Nat.zero_le _, Nat.zero_le _, rfl, .nil⟩

theorem Ending.store {reason : CloseReason} {ans : State → State} {rs : List Report} {c : RecordStore → RecordStore}
    (h : Ending p reason s ans rs c b) (st : RecordStore) : StoreStep st (c st) := by
  cases h with
  | record => exact .readied (sound_closedWith _ _ _)
  | nulling => exact .stands
  | bare => exact .stands
  | rest => exact .stands

theorem Op.store (h : Op s t) : StoreStep s.store t.store := by
  cases h with
  | report => rw [report_store]; exact .stands
  | reply => rw [reply_store]; exact .stands
  | refuse => unfold refuseAtOnce; split <;> exact .stands
  | arbitrate => rw [arbitrate_store]; exact .stands
  | powerUp => exact .emptied
  | release n => exact .released n
  | quiet h => exact .written h.mild.toSound
  | commitPending => exact .written (mild_onFlags _).toSound
  | opens _ hfree hr => subst hr; exact .opened hfree (tubeRecord_lawful ..)
  | enters => exact .written (mild_setGridOrigin _).toSound
  | takes _ _ _ _ _ hf => exact .written hf.toSound
  | misses => exact .written sound_countMissed
  | closes => rw [said_store (answers_answerHeld ..)]; exact .readied (sound_closedWith _ _ _)
  | nulled => rw [said_store (answers_answerHeld ..)]; exact .stands
  | faults h => rw [said_store h.answers]; exact h.store _
  | disables h => rw [said_store h.answers]; exact h.store _
  | _ => exact .stands

theorem sound_noted (sc : Scan) : Sound sc.noted := by
  unfold Scan.noted
  split
  · exact Mild.id.toSound
  · exact sound_countScan

theorem Act.store (h : Act s t) : StoreStep s.store t.store := by
  cases h with
  | op h => exact h.store
  | completes => exact .written (sound_noted _)
  | resets => rw [resetPart_eq, tell_store]; exact .emptied
  | _ => exact .stands

theorem record_map_lawful {c : RecordSlot → RecordSlot} (h : ∀ r ∈ slots.filterMap RecordSlot.record, r.lawful)
    (hc : ∀ x r, (c x).record = some r → ∃ r', x.record = some r' ∧ (r'.lawful → r.lawful)) :
    ∀ r ∈ (slots.map c).filterMap RecordSlot.record, r.lawful := by
  intro r hr
  obtain ⟨y, hy, hry⟩ := List.mem_filterMap.mp hr
  obtain ⟨x, hx, rfl⟩ := List.mem_map.mp hy
  obtain ⟨r', hr', hlaw⟩ := hc x r hry
  exact hlaw (h r' (List.mem_filterMap.mpr ⟨x, hx, hr'⟩))

/-- A written slot holds the record it held, or that record written. -/
theorem onOpen_record {x : RecordSlot} {r : Record} (hf : Sound f) (h : (x.onOpen p f).record = some r) :
    ∃ r', x.record = some r' ∧ (r'.lawful → r.lawful) := by
  cases x with
  | free => cases h
  | ready r' => cases h; exact ⟨r, rfl, id⟩
  | opened r' =>
    unfold RecordSlot.onOpen at h
    dsimp only at h
    split at h
    · cases h; exact ⟨r', rfl, hf.lawful r'⟩
    · cases h; exact ⟨r, rfl, id⟩

theorem StoreStep.lawful {st st' : RecordStore} (h : StoreStep st st')
    (hlaw : ∀ r ∈ st.slots.filterMap RecordSlot.record, r.lawful) :
    ∀ r ∈ st'.slots.filterMap RecordSlot.record, r.lawful := by
  cases h with
  | stands => exact hlaw
  | written hf => exact record_map_lawful hlaw fun _ _ => onOpen_record hf
  | released n => exact fun r hr => hlaw r ((record_released_sublist n _).subset hr)
  | @opened new hfree hnew =>
    intro r hr
    obtain ⟨before, after, hslots, hfilled⟩ := fillFree_eq (r := new) hfree
    have members : r ∈ (before ++ .opened new :: after).filterMap RecordSlot.record := hfilled ▸ hr
    rw [List.filterMap_append, List.filterMap_cons_some (f := RecordSlot.record) (a := .opened new) rfl] at members
    rw [hslots, List.filterMap_append, List.filterMap_cons_none (f := RecordSlot.record) (a := .free) rfl] at hlaw
    rcases List.mem_append.mp members with hmem | hmem
    · exact hlaw r (List.mem_append_left _ hmem)
    · rcases List.mem_cons.mp hmem with rfl | hmem
      · exact hnew
      · exact hlaw r (List.mem_append_right _ hmem)
  | readied hf =>
    refine record_map_lawful hlaw fun x r hr => ?_
    rw [record_makeReady] at hr
    exact onOpen_record hf hr
  | emptied => exact fun r hr => absurd hr (by simp [RecordStore.empty, RecordSlot.record])

/-- Settles O54: every act keeps the lists of every record and the ring of every port. -/
theorem capacityLawKept : Obligations.CapacityLawKept := fun _ _ hlists hrings hstep =>
  ⟨step_keeps (L := ListLaw) (fun _ _ h => h) (fun _ _ h hlaw => h.store.lawful hlaw) hlists hstep,
    step_keeps_blocks (L := fun b => b.stream.ring.length ≤ Config.ringFrames) (fun _ _ _ h => h.ring_le) hrings hstep⟩

/-! ### The law of the pool -/

/-- The law of the pool looks at the record store and at which ports have a record. -/
theorem PoolLaw.congr (h : PoolLaw s) (hstore : t.store = s.store)
    (hmode : ∀ q, (t.port q).ctl.mode.hasRecord = (s.port q).ctl.mode.hasRecord) : PoolLaw t := by
  unfold PoolLaw State.openRecords State.records State.readyRecords State.mode at h ⊢
  simp only [hstore, hmode]
  exact h

/-- A write to the open record of a port keeps the pool. -/
theorem PoolLaw.onOpen (h : PoolLaw s) (hf : Keeps f) : PoolLaw (onOpen p f s) := by
  obtain ⟨hlength, hopen, hnumbers, hrange, hlow, hhigh, hready⟩ := h
  have numbers : ((Machine.onOpen p f s).records).map Record.number = s.records.map Record.number :=
    numbers_map (record_onOpen hf)
  refine ⟨by rw [onOpen_slots_length, hlength], fun q => ?_, by rwa [numbers], fun r hr => ?_, hlow, hhigh, ?_⟩
  · refine Eq.trans ?_ (hopen q)
    by_cases hq : q = p
    · subst hq; rw [onOpen_openRecords hf.port, List.length_map]
    · rw [onOpen_openRecords_ne hf.port hq]
  · have mem : r.number ∈ s.records.map Record.number := numbers ▸ List.mem_map_of_mem hr
    obtain ⟨r', hr', hnumber⟩ := List.mem_map.mp mem
    exact hnumber ▸ hrange r' hr'
  · rw [onOpen_readyRecords]
    exact hready

/-- Work on a port that keeps whether it has a record keeps the pool. -/
theorem PoolLaw.act (h : PoolLaw s) (hf : Keeps f)
    (hmode : b.ctl.mode.hasRecord = (s.port p).ctl.mode.hasRecord) : PoolLaw (act p b f s) := by
  refine PoolLaw.onOpen (h.congr rfl fun q => ?_) hf
  by_cases hq : q = p
  · subst hq; rw [setPort_port_same, hmode]
  · rw [setPort_port_ne _ hq]

theorem PoolLaw.setPort (h : PoolLaw s) (hmode : b.ctl.mode.hasRecord = (s.port p).ctl.mode.hasRecord) :
    PoolLaw (s.setPort p b) := act_id ▸ h.act Keeps.id hmode

theorem PoolLaw.released (h : PoolLaw s) (n : Nat) : PoolLaw (releaseRecord n s) := by
  obtain ⟨hlength, hopen, hnumbers, hrange, hlow, hhigh, hready⟩ := h
  have sub := record_released_sublist n s.store.slots
  refine ⟨by rw [releaseRecord_spec]; simpa using hlength, fun q => ?_, hnumbers.sublist (sub.map _),
    fun r hr => hrange r (sub.subset hr), hlow, hhigh, ?_⟩
  · have opened : (releaseRecord n s).openRecords q = s.openRecords q := by
      unfold State.openRecords
      rw [releaseRecord_spec, List.filterMap_map]
      exact List.filterMap_congr fun x _ => openFor_released n x
    rw [opened]
    exact hopen q
  · have ready : (releaseRecord n s).readyRecords = s.readyRecords.filter fun r => r.number != n :=
      readyRecords_released n _
    have numbers : (s.readyRecords.filter fun r => r.number != n).map Record.number =
        (s.readyRecords.map Record.number).filter fun m => m != n := by
      rw [List.filter_map]
      rfl
    rw [ready, numbers]
    exact hready.filter _

/-- The open record of a port with a record. -/
theorem PoolLaw.exists_open (h : PoolLaw s) (hmode : (s.port p).ctl.mode.hasRecord = true) :
    ∃ r, s.openRecords p = [r] := by
  have one := h.2.1 p
  rw [mode_eq, hmode] at one
  exact List.length_eq_one_iff.mp one

theorem PoolLaw.openRecords_nil_of (h : PoolLaw s) (hmode : (s.port p).ctl.mode.hasRecord = false) : s.openRecords p = [] := by
  have none' := h.2.1 p
  rw [mode_eq, hmode] at none'
  exact List.length_eq_zero_iff.mp none'

/-- A port with a record has an open record. -/
theorem PoolLaw.not_bare (h : PoolLaw s) : ¬ s.bare := by
  rintro ⟨p, hmode, hnumber⟩
  obtain ⟨r, hopen⟩ := h.exists_open hmode
  rw [openNumber_of_openRecords hopen] at hnumber
  cases hnumber

/-- The close of the open record of a port that then has none keeps the pool. -/
theorem PoolLaw.readied {n : Nat} (h : PoolLaw s) (hf : Keeps f) (hnumber : s.openNumber p = some n)
    (hmode : (s.port p).ctl.mode.hasRecord = true) (hrest : b.ctl.mode.hasRecord = false)
    (hstore : t.store = s.store.readied p f n) (hports : t.ports = (s.setPort p b).ports) : PoolLaw t := by
  obtain ⟨r, hr⟩ := h.exists_open hmode
  obtain ⟨hlength, hopen, hnumbers, hrange, hlow, hhigh, hready⟩ := h
  obtain rfl : r.number = n := Option.some.inj ((openNumber_of_openRecords hr).symm.trans hnumber)
  have slots : t.store.slots = s.store.slots.map fun x => (x.onOpen p f).makeReady p := by rw [hstore]; rfl
  have numbers : t.records.map Record.number = s.records.map Record.number := by
    unfold State.records
    rw [slots]
    exact numbers_map fun x => by rw [record_makeReady, record_onOpen hf]
  have mode : ∀ q, t.mode q = (s.setPort p b).mode q := fun q => by unfold State.mode State.port; rw [hports]
  refine ⟨by rw [slots, List.length_map, hlength], fun q => ?_, by rwa [numbers], fun x hx => ?_, by rw [hstore]; exact hlow,
    by rw [hstore]; exact hhigh, ?_⟩
  · rw [mode, mode_eq]
    by_cases hq : q = p
    · subst hq
      have none' : t.openRecords q = [] := by
        unfold State.openRecords
        rw [slots, List.filterMap_map, List.filterMap_eq_nil_iff]
        exact fun x _ => openFor_readied_same x
      rw [setPort_port_same, hrest, none']
      rfl
    · have same : t.openRecords q = s.openRecords q := by
        unfold State.openRecords
        rw [slots, List.filterMap_map]
        exact List.filterMap_congr fun x _ => openFor_readied_ne hf hq x
      rw [setPort_port_ne _ hq, same]
      exact hopen q
  · have mem : x.number ∈ s.records.map Record.number := numbers ▸ List.mem_map_of_mem hx
    obtain ⟨x', hx', hnumber'⟩ := List.mem_map.mp mem
    exact hnumber' ▸ hrange x' hx'
  · have tail : t.store.ready = s.store.ready ++ [r.number] := by rw [hstore]; rfl
    have perm : t.readyRecords.Perm (s.readyRecords ++ (s.openRecords p).map f) := by
      unfold State.readyRecords
      rw [slots]
      exact readyRecords_readied hf _
    rw [tail]
    refine (hready.append_right _).trans ?_
    refine List.Perm.trans ?_ (perm.map Record.number).symm
    rw [hr, List.map_append, List.map_cons, List.map_cons, hf.number]
    exact .refl _

/-- The opening of a record for a port that had none keeps the pool. -/
theorem PoolLaw.opened {row column sec p0 : Nat} {r : Record} (h : PoolLaw s) (hr : r = tubeRecord s p row column sec p0)
    (hidle : (s.port p).ctl.mode.hasRecord = false) (hfree : .free ∈ s.store.slots) (hrecord : b.ctl.mode.hasRecord = true)
    (hstore : t.store = s.store.openWith r) (hports : t.ports = (s.setPort p b).ports) : PoolLaw t := by
  have number : r.number = s.store.takeNumber := by rw [hr]; rfl
  have port : r.port = p := by rw [hr]; rfl
  obtain ⟨hlow', hhigh', hfresh, -⟩ := h.takeNumber_spec hfree
  have none' := h.openRecords_nil_of hidle
  obtain ⟨hsame, hother, hreadies⟩ := openWith_records (t := t) hstore hfree (port.symm ▸ none')
  obtain ⟨hlength, hopen, hnumbers, hrange, hlow, hhigh, hready⟩ := h
  obtain ⟨before, after, hslots, hfilled⟩ := fillFree_eq (r := r) hfree
  have slots : t.store.slots = before ++ .opened r :: after := by rw [hstore]; exact hfilled
  have perm : t.records.Perm (r :: s.records) := by
    unfold State.records
    rw [slots, hslots, List.filterMap_append, List.filterMap_append,
      List.filterMap_cons_some (f := RecordSlot.record) (a := .opened r) rfl,
      List.filterMap_cons_none (f := RecordSlot.record) (a := .free) rfl]
    exact List.perm_middle
  have mode : ∀ q, t.mode q = (s.setPort p b).mode q := fun q => by unfold State.mode State.port; rw [hports]
  obtain ⟨hnextLow, hnextHigh⟩ := nextNumber_range (n := r.number) (number ▸ hlow')
  refine ⟨?_, fun q => ?_, ?_, fun x hx => ?_, by rw [hstore]; exact hnextLow, by rw [hstore]; exact hnextHigh, ?_⟩
  · rw [slots, ← hlength, hslots]
    simp
  · rw [mode, mode_eq]
    by_cases hq : q = p
    · subst hq
      rw [setPort_port_same, hrecord, port.symm, hsame]
      rfl
    · rw [setPort_port_ne _ hq, hother q (port.symm ▸ hq)]
      exact hopen q
  · rw [(perm.map Record.number).nodup_iff, List.map_cons, List.nodup_cons]
    refine ⟨fun hmem => ?_, hnumbers⟩
    obtain ⟨x, hx, hxr⟩ := List.mem_map.mp hmem
    exact hfresh x hx (hxr.trans number)
  · rcases List.mem_cons.mp (perm.subset hx) with rfl | hx
    · rw [number]
      exact ⟨hlow', hhigh'⟩
    · exact hrange x hx
  · rw [hreadies, hstore]
    exact hready

/-- The empty pool with every port at rest. -/
theorem poolLaw_empty (hstore : t.store = .empty) (hmode : ∀ q, (t.port q).ctl.mode.hasRecord = false) : PoolLaw t := by
  unfold PoolLaw State.openRecords State.records State.readyRecords
  rw [hstore]
  refine ⟨by decide, fun q => ?_, by decide, ?_, by decide, by decide, by decide⟩
  · rw [mode_eq, hmode]
    simp [RecordStore.empty, RecordSlot.openFor]
  · simp [RecordStore.empty, RecordSlot.record]

theorem Ending.poolLaw {reason : CloseReason} {ans : State → State} {rs : List Report} {c : RecordStore → RecordStore}
    {x : PortController} (hpool : PoolLaw s) (hx : x.mode = (s.port p).ctl.mode)
    (h : Ending p reason (s.setPort p { s.port p with ctl := x }) ans rs c b) (hrest : e.ctl.mode.hasRecord = false)
    (hports : t.ports = (s.setPort p e).ports) (hstore : t.store = c s.store) : PoolLaw t := by
  have setPorts : ∀ {u : State}, u.ports = (s.setPort p e).ports → ∀ q, u.port q = (s.setPort p e).port q := fun hu q => by
    unfold State.port; rw [hu]
  have modes : (s.port p).ctl.mode.hasRecord = false → ∀ q, (t.port q).ctl.mode.hasRecord = (s.port q).ctl.mode.hasRecord :=
    fun hnone q => by
      rw [setPorts hports]
      by_cases hq : q = p
      · subst hq; rw [setPort_port_same, hrest, hnone]
      · rw [setPort_port_ne _ hq]
  cases h with
  | record hmode hnumber =>
    rw [setPort_port_same, hx] at hmode
    exact hpool.readied (keeps_closedWith _ _ _) hnumber hmode hrest hstore hports
  | nulling hmode =>
    rw [setPort_port_same, hx] at hmode
    exact hpool.congr hstore (modes (by rw [hmode]; rfl))
  | bare hmode hnumber =>
    rw [setPort_port_same, hx] at hmode
    exact absurd ⟨p, hmode, hnumber⟩ hpool.not_bare
  | rest hmode =>
    rw [setPort_port_same, hx] at hmode
    refine hpool.congr hstore (modes ?_)
    revert hmode
    cases (s.port p).ctl.mode <;> decide

end Sys2Proof.Machine

/-! PROOFS. Every step keeps the record pool (R130 to R133) and the position correction (R122, R128). -/

namespace Sys2Proof.Machine

variable {p q : PortId} {s t : State} {b b' e : PortBlocks} {f g : Record → Record} {now : Nat} {bare : Prop}

/-! ### The pool -/

theorem powerUp_mode (q : PortId) : ((powerUp s).port q).ctl.mode = .off := by cases q <;> rfl

/-- An act that keeps the blocks of every port and the pool as they are, but for a stream ring. -/
theorem PoolLaw.of_ports (h : PoolLaw s) (hstore : t.store = s.store) (hmode : ∀ q, (t.port q).ctl = (s.port q).ctl) :
    PoolLaw t := h.congr hstore fun q => by rw [hmode]

theorem arbitrate_ctl (q : PortId) : ((arbitrate s).port q).ctl = (s.port q).ctl := by
  have blocks := congrArg PortBlocks.ctl (arbitrate_sansRing (s := s) (q := q))
  exact blocks

theorem settledAt_ctl (now : Nat) (b : PortBlocks) : (b.settledAt now).ctl = b.ctl := (settledAt_frame now b).1

theorem said_ports {ans : State → State} {rs : List Report} {c : RecordStore → RecordStore} (h : Answers ans) :
    (said ans rs c p b s).ports = (s.setPort p b).ports := by
  rw [said, h.speaks.ports, tell_ports]
  rfl

theorem Op.poolLaw (h : Op s t) (hpool : PoolLaw s) : PoolLaw t := by
  cases h with
  | report => exact hpool.of_ports (report_store _) fun q => by rw [report_port]
  | reply => exact hpool.of_ports (reply_store _ _) fun q => by rw [reply_port]
  | refuse => unfold refuseAtOnce; split <;> exact hpool
  | arbitrate => exact hpool.of_ports arbitrate_store arbitrate_ctl
  | powerUp => exact poolLaw_empty rfl fun q => by rw [powerUp_mode]; rfl
  | release n => exact hpool.released n
  | quiet h => exact hpool.act h.mild.keeps (by rw [h.ctl])
  | drive | sequenced | counted | edit | discard | startsHeld => exact hpool.setPort rfl
  | commitRest => exact hpool.setPort (by rw [promotedAt_ctl])
  | commitPending => exact hpool.act (mild_onFlags _).keeps rfl
  | idles h =>
    refine hpool.setPort ?_
    rw [settledAt_ctl]
    rcases h with h | h | ⟨hmode, hnumber⟩
    · rw [h]; rfl
    · rw [h]; rfl
    · exact absurd ⟨_, hmode, hnumber⟩ hpool.not_bare
  | opens hidle hfree hr => exact hpool.opened hr (by rw [hidle]; rfl) hfree rfl rfl rfl
  | enters harmed _ => exact hpool.act (mild_setGridOrigin _).keeps (by rw [harmed]; rfl)
  | takes _ _ _ _ _ hf => exact hpool.act hf.keeps rfl
  | misses => exact hpool.act sound_countMissed.keeps rfl
  | closes hmode hnumber =>
    exact hpool.readied (keeps_closedWith _ _ _) hnumber hmode (by rw [settledAt_ctl]; rfl)
      (said_store (answers_answerHeld ..)) (said_ports (answers_answerHeld ..))
  | nulled hmode _ =>
    refine (hpool.setPort ?_).congr (said_store (answers_answerHeld ..)) fun q => by
      rw [State.port, said_ports (answers_answerHeld ..)]; rfl
    rw [settledAt_ctl, hmode]
    rfl
  | @faults p runs d _ _ _ _ _ h =>
    exact Ending.poolLaw (x := { (s.port p).ctl with runs := runs, fault := some d }) hpool rfl h
      (by rw [settledAt_ctl]; rfl) (said_ports h.answers) (said_store h.answers)
  | @disables p ans rs rs' c b h =>
    have ending : Ending p .disabled (s.setPort p { s.port p with ctl := (s.port p).ctl }) ans rs c b := by
      rw [show ({ s.port p with ctl := (s.port p).ctl } : PortBlocks) = s.port p from rfl, setPort_self]
      exact h
    exact ending.poolLaw hpool rfl (by rw [settledAt_ctl]; rfl) (said_ports h.answers) (said_store h.answers)
  | _ => exact hpool

theorem Act.poolLaw (h : Act s t) (hpool : PoolLaw s) : PoolLaw t := by
  cases h with
  | op h => exact h.poolLaw hpool
  | holds => exact hpool
  | nulls hidle => exact hpool.setPort (by rw [hidle]; rfl)
  | holdsClose => exact hpool.setPort rfl
  | completes => exact hpool.act (sound_noted _).keeps rfl
  | resets =>
    refine poolLaw_empty (by rw [resetPart_eq, tell_store]; rfl) fun q => ?_
    rw [resetPart_eq, tell_port, onLink_port, onStore_port, resetPorts_port, settledAt_ctl]
    rfl

/-- Settles O53: every act keeps the record pool. -/
theorem poolLawKept : Obligations.PoolLawKept := fun _ _ hlaw hstep =>
  step_keeps (L := PoolLaw) (fun _ _ h => h) (fun _ _ h => h.poolLaw) hlaw hstep

/-- A law of the blocks of every port that hangs on the pool is kept where every change of blocks in a lawful pool keeps
it. -/
theorem step_keeps_pooled {L : PortBlocks → Prop} (hkeeps : ∀ b b', BlockStep False b b' → L b → L b') (hpool : PoolLaw s)
    (hlaw : ∀ p, L (s.port p)) (hstep : step s = .next t) (p : PortId) : L (t.port p) := by
  refine (step_keeps (L := fun s => PoolLaw s ∧ ∀ p, L (s.port p)) (fun _ _ h => h) (fun u v h hu => ?_)
    ⟨hpool, hlaw⟩ hstep).2 p
  refine ⟨h.poolLaw hu.1, fun p => hkeeps _ _ ?_ (hu.2 p)⟩
  have blocks := h.blocks p
  rwa [eq_false hu.1.not_bare] at blocks

/-! ### The position correction -/

/-- The law of a port's position correction. -/
def PortBlocks.corrects (b : PortBlocks) : Prop :=
  b.land.bounded b.plan.working.landmark.tolerance ∧
    (b.ctl.mode.hasRecord = false → b.land.correction = 0 ∧ b.land.matched = 0)

/-- No correction is within every tolerance. -/
theorem corrects_of_zero (h : b.land.correction = 0 ∧ b.land.matched = 0) : b.corrects :=
  ⟨by rw [LandmarkUnit.bounded, h.1]; exact Nat.zero_le _, fun _ => h⟩

theorem corrects_congr (h : b.corrects) (hland : b'.land.correction = b.land.correction ∧ b'.land.matched = b.land.matched)
    (hplan : b'.plan.working = b.plan.working) (hmode : b'.ctl.mode.hasRecord = b.ctl.mode.hasRecord) : b'.corrects := by
  obtain ⟨hbound, hzero⟩ := h
  unfold PortBlocks.corrects LandmarkUnit.bounded
  rw [hland.1, hland.2, hplan, hmode]
  exact ⟨hbound, hzero⟩

theorem settledAt_land (now : Nat) (b : PortBlocks) : (b.settledAt now).land = b.land := (settledAt_frame now b).2.2.2.1

/-- A port that ends its operation leaves no correction. -/
theorem Ended.land_zero (h : Ended False b e) (hlaw : b.corrects) : e.land.correction = 0 ∧ e.land.matched = 0 := by
  cases h with
  | record => exact ⟨rfl, rfl⟩
  | nulling hmode => exact hlaw.2 (by rw [hmode]; rfl)
  | bare h => exact h.elim
  | rest hmode => exact hlaw.2 (by revert hmode; cases b.ctl.mode <;> decide)

theorem BlockStep.corrects (h : BlockStep False b b') (hlaw : b.corrects) : b'.corrects := by
  cases h with
  | powerOn => exact corrects_of_zero ⟨rfl, rfl⟩
  | quiet h =>
    rcases h.correction with hsame | ⟨hmode, hbound⟩
    · exact corrects_congr hlaw hsame (by rw [h.plan]) (by rw [h.ctl])
    · refine ⟨?_, fun hnone => ?_⟩
      · rw [h.plan]
        exact hbound hlaw.1
      · rw [h.ctl, hmode] at hnone
        cases hnone
  | @commitRest now hrest _ =>
    obtain ⟨track1, track2, quad, raw, illegal, h⟩ := promotedAt_frame now
      { b with plan := { b.plan with staged := b.plan.staged.commitClamped } }
    have zero := hlaw.2 (by revert hrest; cases b.ctl.mode <;> decide)
    rw [h]
    exact corrects_of_zero zero
  | idles h =>
    have zero := hlaw.2 (by
      rcases h with h | h | h
      · rw [h]; rfl
      · rw [h]; rfl
      · exact h.2.elim)
    exact corrects_of_zero (by rw [settledAt_land]; exact zero)
  | arms _ => exact corrects_of_zero ⟨rfl, rfl⟩
  | enters harmed _ => exact corrects_congr hlaw ⟨rfl, rfl⟩ rfl (by rw [harmed]; rfl)
  | closes _ =>
    refine corrects_of_zero ?_
    rw [settledAt_land]
    unfold PortBlocks.closedToIdle
    dsimp only
    split <;> exact ⟨rfl, rfl⟩
  | nulled hmode _ => exact corrects_of_zero (by rw [settledAt_land]; exact hlaw.2 (by rw [hmode]; rfl))
  | faults h =>
    refine corrects_of_zero ?_
    rw [settledAt_land]
    exact h.land_zero hlaw
  | disables _ => exact corrects_of_zero (by rw [settledAt_land]; exact ⟨rfl, rfl⟩)
  | nulls hidle => exact corrects_of_zero (hlaw.2 (by rw [hidle]; rfl))
  | resets => exact corrects_of_zero (by rw [settledAt_land]; exact ⟨rfl, rfl⟩)
  | _ => exact hlaw

/-- Settles O58: every act keeps the correction within the matched count times the tolerance in force. -/
theorem correctionLawKept : Obligations.CorrectionLawKept := fun _ _ hpool hlaw hstep =>
  step_keeps_pooled (L := PortBlocks.corrects) (fun _ _ h => h.corrects) hpool hlaw hstep

/-! ### The plans and what hangs on them -/

/-- The plans of a port: both copies in range, the working plan and a pending one as a commit leaves them. -/
def PlanStore.lawful (st : PlanStore) : Prop :=
  st.working.InRange ∧ st.staged.InRange ∧ st.working.Committed ∧ (st.pending = true → st.staged.Committed)

/-- What is derived from a working plan is that of the plan (R38, R40, R70). -/
def PortBlocks.derives (w : Plan) (b : PortBlocks) : Prop :=
  b.seq.periods = w.periods ∧ b.seq.slots = w.slotTable ∧ b.seq.duration = (b.seq.slots.map SlotInForce.slotTime).sum ∧
  b.travel.limitSpeed = w.travel.step * 40000 / b.seq.duration ∧ b.travel.guardLimit = b.travel.limitSpeed * 9 / 10

/-- A null table of twelve entries, those beyond `k` slots unused (R84). -/
def NullsLawful (slots : Nat) (nulls : List NullEntry) : Prop :=
  nulls.length = 12 ∧ ∀ k e, nulls[k]? = some e → slots ≤ k → e = { x0 := 0, y0 := 0, balanced := false }

/-- An accumulation stands in NULLING alone, with no sum beyond the slot table (R85). -/
def PortBlocks.accumulates (b : PortBlocks) : Prop :=
  ∀ a, b.chan.accum = some a → b.ctl.mode = .nulling ∧ a.sums.length ≤ b.seq.slots.length

theorem planLawful_iff : b.planLawful ↔ b.plan.lawful ∧ b.derives b.plan.working ∧
    NullsLawful b.seq.slots.length b.chan.nulls ∧ b.accumulates := by
  unfold PortBlocks.planLawful PlanStore.lawful PortBlocks.derives NullsLawful PortBlocks.accumulates
  tauto

/-- The nulls a promotion leaves: those of the slots that agree in both plans, the others unused (R32). -/
theorem comparedNulls_lawful {outgoing incoming : Plan} {nulls : List NullEntry}
    (h : NullsLawful outgoing.slots.length nulls) : NullsLawful incoming.slots.length (comparedNulls outgoing incoming nulls) := by
  refine ⟨by rw [comparedNulls, List.length_map, List.length_zipIdx, h.1], fun k e he hk => ?_⟩
  rw [comparedNulls_getElem?] at he
  obtain ⟨x, hx, rfl⟩ := Option.map_eq_some_iff.mp he
  split
  next hkeys =>
    have beyond : incoming.slotKey k = none := by
      rw [Plan.slotKey, List.getElem?_eq_none hk]
      rfl
    rw [beyond, Plan.slotKey, Option.map_eq_none_iff, List.getElem?_eq_none_iff] at hkeys
    exact h.2 k x hx hkeys
  next => rfl

theorem nulledTable_length (nulls : List NullEntry) (sums : List ChannelValue) :
    (nulledTable nulls sums).length = nulls.length := by
  induction nulls generalizing sums with
  | nil => rfl
  | cons e rest ih =>
    cases sums with
    | nil => rfl
    | cons v vs => exact congrArg (· + 1) (ih vs)

/-- A null operation writes no entry beyond its sums. -/
theorem nulledTable_beyond {nulls : List NullEntry} {sums : List ChannelValue} {k : Nat} (h : sums.length ≤ k) :
    (nulledTable nulls sums)[k]? = nulls[k]? := by
  induction nulls generalizing sums k with
  | nil => rfl
  | cons e rest ih =>
    cases sums with
    | nil => rfl
    | cons v vs =>
      cases k with
      | zero => cases h
      | succ k => exact ih (Nat.le_of_succ_le_succ h)

theorem nulledTable_lawful {nulls : List NullEntry} {sums : List ChannelValue} {k : Nat} (h : NullsLawful k nulls)
    (hsums : sums.length ≤ k) : NullsLawful k (nulledTable nulls sums) :=
  ⟨(nulledTable_length _ _).trans h.1, fun n e he hn => h.2 n e (nulledTable_beyond (hsums.trans hn) ▸ he) hn⟩

theorem slotTable_length (w : Plan) : w.slotTable.length = w.slots.length := List.length_map _

/-- A promotion of a plan as a commit leaves it keeps the law of the plans, whatever else of the port has changed. -/
theorem promotedAt_planLawful (hplan : b.plan.lawful) (hcommitted : b.plan.staged.Committed)
    (hnulls : NullsLawful b.plan.working.slots.length b.chan.nulls) (haccum : b.chan.accum = none) :
    (b.promotedAt now).planLawful := by
  obtain ⟨track1, track2, quad, raw, illegal, h⟩ := promotedAt_frame now b
  obtain ⟨-, hstaged, -, -⟩ := hplan
  rw [planLawful_iff, h]
  refine ⟨⟨hstaged, hstaged, hcommitted, fun hf => absurd hf Bool.false_ne_true⟩, ⟨rfl, rfl, rfl, rfl, rfl⟩, ?_, ?_⟩
  · have slots : (b.seq.derive b.plan.staged).slots.length = b.plan.staged.slots.length := slotTable_length _
    dsimp only
    rw [slots]
    exact comparedNulls_lawful hnulls
  · intro a ha
    rw [haccum] at ha
    cases ha

/-- The law of the plans as a port at rest has it, with the accumulation gone. -/
theorem settledAt_planLawful (hplan : b.plan.lawful) (hderives : b.derives b.plan.working)
    (hnulls : NullsLawful b.seq.slots.length b.chan.nulls) (haccum : b.chan.accum = none) :
    (b.settledAt now).planLawful := by
  unfold PortBlocks.settledAt
  split
  next hpending =>
    refine promotedAt_planLawful hplan (hplan.2.2.2 hpending) ?_ haccum
    rw [← slotTable_length, ← hderives.2.1]
    exact hnulls
  next =>
    refine planLawful_iff.mpr ⟨hplan, hderives, hnulls, fun a ha => ?_⟩
    rw [haccum] at ha
    cases ha

theorem planLawful_congr (h : b.planLawful) (hplan : b'.plan = b.plan)
    (htables : b'.seq.periods = b.seq.periods ∧ b'.seq.slots = b.seq.slots ∧ b'.seq.duration = b.seq.duration)
    (hspeeds : b'.travel.limitSpeed = b.travel.limitSpeed ∧ b'.travel.guardLimit = b.travel.guardLimit)
    (hnulls : b'.chan.nulls = b.chan.nulls) (haccum : b'.accumulates) : b'.planLawful := by
  obtain ⟨hlaw, hderives, hbeyond, -⟩ := planLawful_iff.mp h
  obtain ⟨hperiods, hslots, hduration⟩ := htables
  refine planLawful_iff.mpr ⟨hplan ▸ hlaw, ?_, ?_, haccum⟩
  · unfold PortBlocks.derives
    rw [hplan, hperiods, hslots, hduration, hspeeds.1, hspeeds.2]
    exact hderives
  · rw [hslots, hnulls]
    exact hbeyond

/-- What the end of an operation leaves of a port's plans and of what hangs on them. -/
theorem Ended.plans (h : Ended bare b e) : e.plan = b.plan ∧ (e.seq.periods = b.seq.periods ∧ e.seq.slots = b.seq.slots ∧
    e.seq.duration = b.seq.duration) ∧ (e.travel.limitSpeed = b.travel.limitSpeed ∧
    e.travel.guardLimit = b.travel.guardLimit) ∧ e.chan.nulls = b.chan.nulls ∧
    (b.ctl.mode = .nulling → e.chan.accum = none) ∧ (b.ctl.mode ≠ .nulling → e.chan.accum = b.chan.accum) := by
  cases h with
  | record hmode =>
    exact ⟨rfl, ⟨rfl, rfl, rfl⟩, ⟨rfl, rfl⟩, rfl, fun h => (by rw [h] at hmode; cases hmode), fun _ => rfl⟩
  | nulling hmode => exact ⟨rfl, ⟨rfl, rfl, rfl⟩, ⟨rfl, rfl⟩, rfl, fun _ => rfl, fun h => absurd hmode h⟩
  | bare _ hmode => exact ⟨rfl, ⟨rfl, rfl, rfl⟩, ⟨rfl, rfl⟩, rfl, fun h => (by rw [h] at hmode; cases hmode), fun _ => rfl⟩
  | rest hmode => exact ⟨rfl, ⟨rfl, rfl, rfl⟩, ⟨rfl, rfl⟩, rfl, fun h => (by rw [h] at hmode; cases hmode), fun _ => rfl⟩

end Sys2Proof.Machine

/-! PROOFS. Every step keeps the plans of a port and what hangs on them (R20, R23, R28, R29, R38, R40, R70, R84, R85). -/

namespace Sys2Proof.Machine

variable {p q : PortId} {s t : State} {b b' e : PortBlocks} {f g : Record → Record} {now : Nat} {bare : Prop}

/-! ### The plan at power-on -/

theorem defaultPlan_inRange : Plan.default.InRange := by
  refine ⟨rfl, fun v hv => ?_, by decide, by decide, rfl, fun e he => ?_, rfl, fun m hm => ?_, by decide +kernel,
    by decide +kernel, Nat.zero_le _, by simp [Plan.default], Nat.zero_le _, by simp [Plan.default], by decide +kernel,
    Nat.zero_le _, by simp [Plan.default], by decide, by decide⟩
  · obtain rfl : v = 1000 := by simpa [Plan.default] using hv
    exact Finset.mem_Icc.mpr ⟨by norm_num, by norm_num⟩
  · obtain rfl := List.eq_of_mem_replicate he
    decide
  · simp [Plan.default] at hm

theorem defaultPlan_committed : Plan.default.Committed := ⟨by decide, by decide, by decide, by decide⟩

theorem defaultPlan_tables : Plan.default.periods = Sequencer.powerOn.periods ∧
    Plan.default.slotTable = Sequencer.powerOn.slots := by decide

/-- The null table of a port at power-on: twelve unused entries. -/
theorem powerOn_nulls_lawful (k : Nat) : NullsLawful k ChannelProcessor.powerOn.nulls :=
  ⟨rfl, fun _ _ he _ => List.eq_of_mem_replicate (List.mem_of_getElem? he)⟩

/-- A port at power-on, whatever the state of its tracks. -/
theorem powerOn_planLawful (hplan : b.plan = PortBlocks.powerOn.plan) (hseq : b.seq = .powerOn)
    (hspeeds : b.travel.limitSpeed = TravelUnit.powerOn.limitSpeed ∧ b.travel.guardLimit = TravelUnit.powerOn.guardLimit)
    (hchan : b.chan = .powerOn) : b.planLawful := by
  obtain ⟨hperiods, hslots⟩ := defaultPlan_tables
  refine planLawful_iff.mpr ⟨?_, ?_, ?_, fun a ha => ?_⟩
  · rw [hplan]
    exact ⟨defaultPlan_inRange, defaultPlan_inRange, defaultPlan_committed, fun h => absurd h Bool.false_ne_true⟩
  · unfold PortBlocks.derives
    rw [hplan, hseq, hspeeds.1, hspeeds.2]
    exact ⟨hperiods.symm, hslots.symm, rfl, rfl, rfl⟩
  · rw [hchan]
    exact powerOn_nulls_lawful _
  · rw [hchan] at ha
    cases ha

/-! ### The law under each change of blocks -/

/-- An accumulation stands only in NULLING. -/
theorem no_accum (h : b.planLawful) (hmode : b.ctl.mode ≠ .nulling) : b.chan.accum = none := by
  obtain ⟨-, -, -, haccum⟩ := planLawful_iff.mp h
  cases ha : b.chan.accum with
  | none => rfl
  | some a => exact absurd (haccum a ha).1 hmode

/-- A port brought to rest with its plans, tables, speeds and nulls as they stood. -/
theorem settles_planLawful (h : b.planLawful) (hplan : e.plan = b.plan)
    (htables : e.seq.periods = b.seq.periods ∧ e.seq.slots = b.seq.slots ∧ e.seq.duration = b.seq.duration)
    (hspeeds : e.travel.limitSpeed = b.travel.limitSpeed ∧ e.travel.guardLimit = b.travel.guardLimit)
    (hnulls : NullsLawful b.seq.slots.length e.chan.nulls) (haccum : e.chan.accum = none) :
    (e.settledAt now).planLawful := by
  obtain ⟨hlaw, hderives, -, -⟩ := planLawful_iff.mp h
  obtain ⟨hperiods, hslots, hduration⟩ := htables
  refine settledAt_planLawful (hplan ▸ hlaw) ?_ (hslots ▸ hnulls) haccum
  unfold PortBlocks.derives
  rw [hplan, hperiods, hslots, hduration, hspeeds.1, hspeeds.2]
  exact hderives

theorem rested_speeds (new : PortMode) (cause : Cause) (b : PortBlocks) :
    (b.rested new cause).travel.limitSpeed = b.travel.limitSpeed ∧
    (b.rested new cause).travel.guardLimit = b.travel.guardLimit := by
  unfold PortBlocks.rested
  dsimp only
  split <;> exact ⟨rfl, rfl⟩

/-- An accumulation that no act of a port can have touched. -/
theorem accumulates_of_none (h : b.chan.accum = none) : b.accumulates := fun a ha => by rw [h] at ha; cases ha

theorem startZero_tables (now : Nat) (x : Int) (q : Sequencer) : (q.startZero now x).periods = q.periods ∧
    (q.startZero now x).slots = q.slots ∧ (q.startZero now x).duration = q.duration := by
  rw [startZero_eq]
  split <;> exact ⟨rfl, rfl, rfl⟩

theorem BlockStep.planLawful (h : BlockStep bare b b') (hlaw : b.planLawful) : b'.planLawful := by
  obtain ⟨hplans, hderives, hnulls, haccum⟩ := planLawful_iff.mp hlaw
  obtain ⟨hworking, hstaged, hcommitted, hpending⟩ := id hplans
  cases h with
  | powerOn => exact powerOn_planLawful rfl rfl ⟨rfl, rfl⟩ rfl
  | quiet h =>
    refine planLawful_congr hlaw h.plan (by rw [h.seq]; exact ⟨rfl, rfl, rfl⟩) ⟨h.limitSpeed, h.guardLimit⟩ h.nulls
      fun a' ha' => ?_
    obtain ⟨a, ha, hle⟩ := h.accum a' ha'
    rw [h.ctl, h.seq]
    exact ⟨(haccum a ha).1, hle.trans (haccum a ha).2⟩
  | sequenced h =>
    refine planLawful_congr hlaw rfl h.tables ⟨rfl, rfl⟩ rfl fun a ha => ⟨(haccum a ha).1, ?_⟩
    dsimp only
    rw [h.tables.2.1]
    exact (haccum a ha).2
  | edit hnone hrange =>
    exact planLawful_iff.mpr ⟨⟨hworking, hrange _ hstaged, hcommitted, fun h => by rw [hnone] at h; cases h⟩, hderives, hnulls,
      haccum⟩
  | discard =>
    exact planLawful_iff.mpr ⟨⟨hworking, hworking, hcommitted, fun h => absurd h Bool.false_ne_true⟩, hderives, hnulls, haccum⟩
  | commitRest hrest hvalid =>
    refine promotedAt_planLawful ⟨hworking, inRange_commitClamped hstaged, hcommitted, fun _ => committed_commitClamped hvalid⟩
      (committed_commitClamped hvalid) ?_ (no_accum (b := b) hlaw fun h => by rw [h] at hrest; cases hrest)
    rw [← slotTable_length, ← hderives.2.1]
    exact hnulls
  | commitPending _ hvalid =>
    exact planLawful_iff.mpr ⟨⟨hworking, inRange_commitClamped hstaged, hcommitted, fun _ => committed_commitClamped hvalid⟩,
      hderives, hnulls, haccum⟩
  | idles h =>
    refine settles_planLawful hlaw rfl ⟨rfl, rfl, rfl⟩ (rested_speeds ..) hnulls (no_accum (b := b) hlaw fun hmode => ?_)
    rw [hmode] at h
    rcases h with h | h | h
    · cases h
    · cases h
    · cases h.1
  | arms hidle =>
    exact planLawful_congr hlaw rfl ⟨rfl, rfl, rfl⟩ ⟨rfl, rfl⟩ rfl
      (accumulates_of_none (no_accum (b := b) hlaw fun h => by rw [hidle] at h; cases h))
  | @enters now harmed _ =>
    exact planLawful_congr hlaw rfl (startZero_tables now b.travel.raw (b.enterAcquiring now).seq) ⟨rfl, rfl⟩ rfl
      (accumulates_of_none (no_accum (b := b) hlaw fun h => by rw [harmed] at h; cases h))
  | takes _ _ hspeeds => exact planLawful_congr hlaw rfl ⟨rfl, rfl, rfl⟩ hspeeds rfl haccum
  | misses _ hspeeds => exact planLawful_congr hlaw rfl ⟨rfl, rfl, rfl⟩ hspeeds rfl haccum
  | closes hmode =>
    exact settles_planLawful hlaw rfl ⟨rfl, rfl, rfl⟩ ⟨rfl, rfl⟩ hnulls
      (no_accum (b := b) hlaw fun h => by rw [h] at hmode; cases hmode)
  | nulled hmode hsums =>
    obtain ⟨a, ha, hle⟩ := hsums
    exact settles_planLawful hlaw rfl ⟨rfl, rfl, rfl⟩ (rested_speeds ..)
      (nulledTable_lawful hnulls (hle.trans (haccum a ha).2)) rfl
  | @faults runs d e now h =>
    obtain ⟨hplan, htables, hspeeds, hnulls', hnulling, hother⟩ := h.plans
    have rested := rested_speeds .fault .coilFault { e with drive := e.drive.halt }
    refine settles_planLawful hlaw hplan htables ⟨rested.1.trans hspeeds.1, rested.2.trans hspeeds.2⟩ (hnulls' ▸ hnulls) ?_
    by_cases hmode : b.ctl.mode = .nulling
    · exact hnulling hmode
    · exact (hother hmode).trans (no_accum hlaw hmode)
  | disables h =>
    obtain ⟨hplan, htables, hspeeds, hnulls', -, -⟩ := h.plans
    exact settles_planLawful hlaw hplan htables hspeeds (hnulls' ▸ hnulls) rfl
  | nulls _ =>
    refine planLawful_congr hlaw rfl ⟨rfl, rfl, rfl⟩ ⟨rfl, rfl⟩ rfl fun a ha => ⟨rfl, ?_⟩
    cases ha
    exact (List.length_replicate).le
  | completes _ =>
    refine planLawful_congr hlaw rfl ⟨rfl, rfl, rfl⟩ ?_ rfl haccum
    unfold PortBlocks.completed
    dsimp only
    split <;> exact ⟨rfl, rfl⟩
  | resets => exact settles_planLawful hlaw rfl ⟨rfl, rfl, rfl⟩ ⟨rfl, rfl⟩ hnulls rfl
  | _ => exact hlaw

/-- Settles O59: every act keeps the plans, the tables and speeds derived from them, and the null table. -/
theorem planLawKept : Obligations.PlanLawKept := fun _ _ hlaw hstep =>
  step_keeps_blocks (fun _ _ _ h => h.planLawful) hlaw hstep

end Sys2Proof.Machine

/-! PROOFS. What the acts of a command make of the link controller, and its law (R175, R180, R181). -/

namespace Sys2Proof.Machine

variable {p q : PortId} {s t : State} {b b' : PortBlocks} {l l' : LinkController} {n : Nat} {h : HeldRequest}

/-! ### Moves of the link controller -/

/-- What one part of an act makes of the link controller, the taking of a request apart. -/
inductive LinkMove : LinkController → LinkController → Prop
  | reported {l : LinkController} (r : Report) : LinkMove l (l.reported r)
  | replied {l : LinkController} (place : Nat) (body : ReplyBody) : LinkMove l (l.replied place body)
  | refused {l : LinkController} {r : Reply} (hplace : r.place = none) (hroom : refusalsWaiting l < Config.refusalPlaces) :
    LinkMove l { l with replies := l.replies ++ [r] }
  | deframed {l : LinkController} {state : DeframerState} {content : List Byte}
    (h : l.deframer.content.length ≤ Config.contentMax → content.length ≤ Config.contentMax) :
    LinkMove l { l with deframer := { state := state, content := content } }
  | counted {l : LinkController} (f : LinkCounters → LinkCounters) : LinkMove l { l with counters := f l.counters }
  | sends {l : LinkController} (sending : Option TxFrame) (last : PortId) :
    LinkMove l { l with sending := sending, lastServed := last }
  | takesReply {l : LinkController} {r : Reply} {rest : List Reply} (h : l.replies = r :: rest) :
    LinkMove l { l with replies := rest, sending := some (.reply r), buffer := freeBuffer r.place l.buffer }
  | takesReport {l : LinkController} {r : Report} {rest : List Report} (h : l.reports = r :: rest) :
    LinkMove l { l with reports := rest, sending := some (.report r) }
  | resets {l : LinkController} : LinkMove l l.afterReset
  | powerOn {l : LinkController} : LinkMove l .powerOn

/-- Moves one after the other. -/
abbrev LinkMoves : LinkController → LinkController → Prop := Relation.ReflTransGen LinkMove

theorem LinkMove.moves (h : LinkMove l l') : LinkMoves l l' := .single h

theorem moves_report (r : Report) : LinkMoves s.link (report r s).link := by
  rw [report_onLink]
  exact (LinkMove.reported r).moves

theorem moves_reply (place : Nat) (body : ReplyBody) : LinkMoves s.link (reply place body s).link := by
  rw [reply_onLink]
  exact (LinkMove.replied place body).moves

theorem moves_tell (rs : List Report) : LinkMoves s.link (tell rs s).link := by
  induction rs generalizing s with
  | nil => exact .refl
  | cons r rest ih => exact (moves_report r).trans ih

theorem moves_answerHeld (k : RequestKind) (body : ReplyBody) : LinkMoves s.link (answerHeld k p body s).link := by
  unfold answerHeld
  split
  · exact moves_reply ..
  · exact .refl

theorem moves_refuseAtOnce (code : RefusalCode) (kind tag port : Byte) :
    LinkMoves s.link (refuseAtOnce code kind tag port s).link := by
  unfold refuseAtOnce
  split
  next hroom => exact (LinkMove.refused rfl hroom).moves
  next => exact (LinkMove.counted _).moves

theorem moves_arbitrate : LinkMoves s.link (arbitrate s).link := by
  unfold arbitrate
  split
  · exact .refl
  split
  next hreplies => exact (LinkMove.takesReply hreplies).moves
  split
  next hreports => exact (LinkMove.takesReport hreports).moves
  split
  · exact (LinkMove.sends _ _).moves
  · exact .refl

theorem Ending.moves {reason : CloseReason} {ans : State → State} {rs : List Report} {c : RecordStore → RecordStore}
    (h : Ending p reason s ans rs c b) (u : State) : LinkMoves u.link (ans u).link := by
  cases h with
  | record => exact moves_answerHeld ..
  | nulling => exact moves_answerHeld ..
  | bare => exact .refl
  | rest => exact .refl

theorem moves_said {ans : State → State} {rs : List Report} {c : RecordStore → RecordStore}
    (hans : ∀ u : State, LinkMoves u.link (ans u).link) : LinkMoves s.link (said ans rs c p b s).link :=
  Relation.ReflTransGen.trans (moves_tell (s := onStore c (s.setPort p b)) rs) (hans _)

theorem Op.moves (h : Op s t) : LinkMoves s.link t.link := by
  cases h with
  | report => exact moves_report _
  | reply => exact moves_reply ..
  | refuse => exact moves_refuseAtOnce ..
  | deframe _ _ h => exact (LinkMove.deframed h).moves
  | count f => exact (LinkMove.counted f).moves
  | sent => exact (LinkMove.sends none s.link.lastServed).moves
  | arbitrate => exact moves_arbitrate
  | powerUp => exact LinkMove.powerOn.moves
  | closes => exact moves_said fun _ => moves_answerHeld ..
  | nulled => exact moves_said fun _ => moves_answerHeld ..
  | faults h => exact moves_said h.moves
  | disables h => exact moves_said h.moves
  | _ => exact .refl

theorem moves_resetPart : LinkMoves s.link (resetPart s).link := by
  rw [resetPart_eq]
  refine Relation.ReflTransGen.trans (Relation.ReflTransGen.single ?_) (moves_tell _)
  rw [resetPorts_eq]
  exact .resets

/-! ### The law of the link controller -/

/-- The law of the link controller, on its registers (R175, R180, R181). -/
structure LinkController.lawful (l : LinkController) : Prop where
  places : l.buffer.length ≤ Config.requestPlaces
  distinct : (l.buffer.map HeldRequest.place).Nodup
  once : (l.replies.filterMap Reply.place).Nodup
  answered : ∀ n ∈ l.replies.filterMap Reply.place, ∃ h ∈ l.buffer, h.place = n ∧ h.answered = true
  refusals : refusalsWaiting l ≤ Config.refusalPlaces
  reports : l.reports.length ≤ Config.reportPlaces
  content : l.deframer.content.length ≤ Config.contentMax

theorem linkLaw_iff : LinkLaw s ↔ s.link.lawful :=
  ⟨fun ⟨places, distinct, once, answered, refusals, reports, content⟩ =>
    ⟨places, distinct, once, answered, refusals, reports, content⟩,
   fun h => ⟨h.places, h.distinct, h.once, h.answered, h.refusals, h.reports, h.content⟩⟩

theorem LinkController.powerOn_lawful : LinkController.powerOn.lawful :=
  ⟨Nat.zero_le _, List.nodup_nil, List.nodup_nil, fun _ hn => absurd hn List.not_mem_nil, Nat.zero_le _, Nat.zero_le _,
    Nat.zero_le _⟩

/-- Two held requests at one place are one. -/
theorem LinkController.lawful.place_inj (hlaw : l.lawful) {h' : HeldRequest} (hh : h ∈ l.buffer) (hh' : h' ∈ l.buffer)
    (hplace : h.place = h'.place) : h = h' := List.inj_on_of_nodup_map hlaw.distinct hh hh' hplace

/-- A held request not yet answered is found at its place. -/
theorem LinkController.lawful.find_place (hlaw : l.lawful) (hh : h ∈ l.buffer) :
    l.buffer.find? (fun x => x.place = h.place) = some h := by
  cases hfind : l.buffer.find? (fun x => x.place = h.place) with
  | none => exact absurd (List.find?_eq_none.mp hfind h hh) (by simp)
  | some x =>
    rw [hlaw.place_inj (List.mem_of_find?_eq_some hfind) hh (by simpa using List.find?_some hfind)]

theorem markAnswered_place (n : Nat) (h : HeldRequest) : (h.markAnswered n).place = h.place := by
  unfold HeldRequest.markAnswered
  split <;> rfl

theorem reported_frame (r : Report) (l : LinkController) : ∃ rs c, l.reported r = { l with reports := rs, counters := c } ∧
    (l.reports.length ≤ Config.reportPlaces → rs.length ≤ Config.reportPlaces) := by
  unfold LinkController.reported
  split
  next hroom => exact ⟨_, _, rfl, fun _ => by rw [List.length_append, List.length_singleton]; exact hroom⟩
  next => exact ⟨_, _, rfl, id⟩

/-- What a reply leaves of the link controller, by whether the place holds a request not yet answered. -/
theorem replied_cases (place : Nat) (body : ReplyBody) (l : LinkController) : l.replied place body = l ∨
    ∃ x ∈ l.buffer, x.place = place ∧ x.answered = false ∧ l.replied place body = { l with
      replies := l.replies ++ [{ place := some place, kind := x.kind.code, tag := x.tag, port := x.port, body := body }]
      buffer := l.buffer.map (HeldRequest.markAnswered place) } := by
  unfold LinkController.replied
  split
  next => exact .inl rfl
  next x hfind =>
    cases hanswered : x.answered with
    | true => exact .inl (if_pos rfl)
    | false =>
      exact .inr ⟨x, List.mem_of_find?_eq_some hfind, by simpa using List.find?_some hfind, hanswered, if_neg (by simp)⟩

theorem LinkController.lawful.replied (hlaw : l.lawful) (place : Nat) (body : ReplyBody) :
    (l.replied place body).lawful := by
  rcases replied_cases place body l with heq | ⟨x, hx, hplace, hwaits, heq⟩
  · rwa [heq]
  rw [heq]
  have places : ((l.buffer.map (HeldRequest.markAnswered place)).map HeldRequest.place) = l.buffer.map HeldRequest.place := by
    rw [List.map_map]
    exact List.map_congr_left fun h _ => markAnswered_place place h
  have fresh : place ∉ l.replies.filterMap Reply.place := fun hmem => by
    obtain ⟨y, hy, hyplace, hyanswered⟩ := hlaw.answered place hmem
    rw [hlaw.place_inj hy hx (hyplace.trans hplace.symm), hwaits] at hyanswered
    cases hyanswered
  have stays : ∀ h ∈ l.buffer, h.answered = true → ∃ y ∈ l.buffer.map (HeldRequest.markAnswered place),
      y.place = h.place ∧ y.answered = true := fun h hh hanswered =>
    ⟨_, List.mem_map_of_mem hh, markAnswered_place place h, by
      unfold HeldRequest.markAnswered
      split
      · rfl
      · exact hanswered⟩
  refine ⟨by rw [List.length_map]; exact hlaw.places, by rw [places]; exact hlaw.distinct, ?_, fun n hn => ?_, ?_,
    hlaw.reports, hlaw.content⟩
  · rw [List.filterMap_append]
    exact List.nodup_append.mpr ⟨hlaw.once, List.nodup_singleton _, fun n hn m hm => by
      rintro rfl
      rw [List.mem_singleton.mp hm] at hn
      exact fresh hn⟩
  · rw [List.filterMap_append, List.mem_append] at hn
    rcases hn with hn | hn
    · obtain ⟨y, hy, hyplace, hyanswered⟩ := hlaw.answered n hn
      obtain ⟨z, hz, hzplace, hzanswered⟩ := stays y hy hyanswered
      exact ⟨z, hz, hzplace.trans hyplace, hzanswered⟩
    · obtain rfl : n = place := List.mem_singleton.mp hn
      exact ⟨_, List.mem_map_of_mem hx, (markAnswered_place n x).trans hplace, by
        rw [HeldRequest.markAnswered, if_pos hplace]⟩
  · have same : refusalsWaiting { l with
        replies := l.replies ++ [{ place := some place, kind := x.kind.code, tag := x.tag, port := x.port, body := body }]
        buffer := l.buffer.map (HeldRequest.markAnswered place) } = refusalsWaiting l := by
      simp [refusalsWaiting, List.filter_append]
    rw [same]
    exact hlaw.refusals

/-- The reply the transmitter takes frees its place and no other. -/
theorem LinkController.lawful.takesReply {r : Reply} {rest : List Reply} (hlaw : l.lawful) (hreplies : l.replies = r :: rest) :
    LinkController.lawful { l with replies := rest, sending := some (.reply r), buffer := freeBuffer r.place l.buffer } := by
  obtain ⟨hplaces, hdistinct, honce, hanswered, hrefusals, hreports, hcontent⟩ := hlaw
  rw [hreplies] at honce hanswered
  have fewer : refusalsWaiting { l with
      replies := rest, sending := some (.reply r), buffer := freeBuffer r.place l.buffer } ≤ refusalsWaiting l := by
    unfold refusalsWaiting
    rw [hreplies]
    exact ((List.sublist_cons_self r rest).filter _).length_le
  refine ⟨?_, ?_, ?_, fun n hn => ?_, fewer.trans hrefusals, hreports, hcontent⟩
  · exact (show (freeBuffer r.place l.buffer).length ≤ l.buffer.length by
      unfold freeBuffer
      split
      · exact le_rfl
      · exact List.length_filter_le _ _).trans hplaces
  · refine List.Nodup.sublist (List.Sublist.map _ ?_) hdistinct
    unfold freeBuffer
    split
    · exact List.Sublist.refl _
    · exact List.filter_sublist
  · exact honce.sublist ((List.sublist_cons_self r rest).filterMap _)
  · obtain ⟨h, hh, hplace, hdone⟩ := hanswered n (((List.sublist_cons_self r rest).filterMap _).subset hn)
    refine ⟨h, ?_, hplace, hdone⟩
    unfold freeBuffer
    split
    next => exact hh
    next m hm =>
      refine List.mem_filter.mpr ⟨hh, ?_⟩
      rw [List.filterMap_cons_some hm] at honce
      have other : n ≠ m := fun hnm => (List.nodup_cons.mp honce).1 (hnm ▸ hn)
      simpa [hplace] using other

theorem LinkMove.lawful (hmove : LinkMove l l') (hlaw : l.lawful) : l'.lawful := by
  obtain ⟨hplaces, hdistinct, honce, hanswered, hrefusals, hreports, hcontent⟩ := id hlaw
  cases hmove with
  | reported r =>
    obtain ⟨rs, c, heq, hrs⟩ := reported_frame r l
    rw [heq]
    exact ⟨hplaces, hdistinct, honce, hanswered, hrefusals, hrs hreports, hcontent⟩
  | replied place body => exact hlaw.replied place body
  | @refused r hplace hroom =>
    have none' : [r].filterMap Reply.place = [] := by simp [hplace]
    refine ⟨hplaces, hdistinct, ?_, ?_, ?_, hreports, hcontent⟩
    · rw [List.filterMap_append, none', List.append_nil]; exact honce
    · rw [List.filterMap_append, none', List.append_nil]; exact hanswered
    · have one : refusalsWaiting { l with replies := l.replies ++ [r] } = refusalsWaiting l + 1 := by
        simp [refusalsWaiting, List.filter_append, hplace]
      rw [one]
      exact hroom
  | deframed h => exact ⟨hplaces, hdistinct, honce, hanswered, hrefusals, hreports, h hcontent⟩
  | counted f => exact ⟨hplaces, hdistinct, honce, hanswered, hrefusals, hreports, hcontent⟩
  | sends sending last => exact ⟨hplaces, hdistinct, honce, hanswered, hrefusals, hreports, hcontent⟩
  | takesReply h => exact hlaw.takesReply h
  | takesReport h =>
    rw [h] at hreports
    exact ⟨hplaces, hdistinct, honce, hanswered, hrefusals, (Nat.le_succ _).trans hreports, hcontent⟩
  | resets => exact ⟨hplaces, hdistinct, honce, hanswered, hrefusals, Nat.zero_le _, hcontent⟩
  | powerOn => exact LinkController.powerOn_lawful

theorem LinkMoves.lawful (h : LinkMoves l l') (hlaw : l.lawful) : l'.lawful := by
  induction h with
  | refl => exact hlaw
  | tail _ hmove ih => exact hmove.lawful ih

/-- A request taken finds a place that no other has. -/
theorem hold_lawful {k : RequestKind} {tag port : Byte} (hlaw : s.link.lawful)
    (hroom : s.link.buffer.length < Config.requestPlaces) : (hold k tag port s).link.lawful := by
  obtain ⟨hplaces, hdistinct, honce, hanswered, hrefusals, hreports, hcontent⟩ := hlaw
  refine ⟨?_, ?_, honce, fun n hn => ?_, hrefusals, hreports, hcontent⟩
  · exact (List.length_append).trans_le hroom
  · refine (congrArg List.Nodup (List.map_append)).mpr
      (List.nodup_append.mpr ⟨hdistinct, List.nodup_singleton _, fun m hm x hx => ?_⟩)
    obtain ⟨h, hh, rfl⟩ := List.mem_map.mp hm
    rw [List.mem_singleton.mp hx]
    exact freePlace_fresh hroom h hh
  · obtain ⟨h, hh, hdone⟩ := hanswered n hn
    exact ⟨h, List.mem_append_left _ hh, hdone⟩

theorem Act.linkLaw (h : Act s t) (hlaw : LinkLaw s) : LinkLaw t := by
  rw [linkLaw_iff] at hlaw ⊢
  cases h with
  | op h => exact h.moves.lawful hlaw
  | holds hroom => exact hold_lawful hlaw hroom
  | nulls => exact hlaw
  | holdsClose => exact hlaw
  | completes => exact hlaw
  | resets => exact moves_resetPart.lawful hlaw

/-- Settles O51: every act keeps the link controller's law. -/
theorem linkLawKept : Obligations.LinkLawKept := fun _ _ hlaw hstep =>
  step_keeps (fun _ _ h => h) (fun _ _ h => h.linkLaw) hlaw hstep

/-! ### The state after power-on -/

/-- Settles O60, law by law: every block at its power-on value, the pool and the link controller empty. -/
theorem lawsAtReset : Obligations.LawsAtReset := by
  have blocks : ∀ p, State.reset.port p = .powerOn := fun p => by cases p <;> rfl
  have off : ∀ p, State.reset.mode p = .off := fun p => congrArg (fun b => b.ctl.mode) (blocks p)
  refine ⟨linkLaw_iff.mpr LinkController.powerOn_lawful, ⟨?_, ?_⟩, poolLaw_empty rfl fun q => ?_, ?_, fun p => ?_, fun p => ?_,
    fun p => ?_, fun p => ⟨?_, ?_⟩, fun p => ⟨?_, fun _ => ?_⟩, fun p => ?_⟩
  · exact fun _ hh => absurd hh List.not_mem_nil
  · exact fun _ hh => absurd hh List.not_mem_nil
  · rw [blocks]; rfl
  · exact fun r hr => absurd hr List.not_mem_nil
  · rw [blocks]; exact Nat.zero_le _
  · rw [blocks]
    exact lawful_of_still ⟨rfl, rfl, rfl, rfl, rfl⟩ rfl ⟨nofun, nofun⟩ rfl
  · rw [blocks]; exact DriveChannel.powerOn_lawful
  · rw [off]; exact nofun
  · rw [off]; exact nofun
  · rw [blocks]; exact Nat.zero_le _
  · rw [blocks]; exact ⟨rfl, rfl⟩
  · rw [blocks]; exact powerOn_planLawful rfl rfl ⟨rfl, rfl⟩ rfl

end Sys2Proof.Machine

/-! PROOFS. Every step leaves a request unanswered only where its port still works on it (R85, R142, R181). -/

namespace Sys2Proof.Machine

variable {p q : PortId} {s t u : State} {b b' : PortBlocks} {l l' : LinkController} {n : Nat} {h : HeldRequest}
  {k : RequestKind} {tag port : Byte}

theorem PortId.byte_inj (h : p.byte = q.byte) : p = q := Option.some.inj (by rw [← ofByte?_byte p, h, ofByte?_byte q])

/-! ### The requests not yet answered -/

/-- No two requests that wait for an answer are of one kind on one port. -/
def LinkController.alone (l : LinkController) : Prop :=
  ∀ h ∈ l.buffer, ∀ h' ∈ l.buffer, h.inProgress → h'.inProgress → h.kind = h'.kind → h.port = h'.port → h = h'

/-- The port a request waits for still works on it (R85, R142). -/
def State.waits (s : State) (h : HeldRequest) : Prop :=
  ∃ p : PortId, h.port = p.byte ∧
    ((h.kind = .nullChannels ∧ s.mode p = .nulling) ∨ (h.kind = .closeTube ∧ (s.port p).seq.closeHold = true))

/-- A request that waits after a move waited before it. -/
theorem LinkMove.shrinks (hmove : LinkMove l l') (hh : h ∈ l'.buffer) (hwaits : h.inProgress) : h ∈ l.buffer := by
  cases hmove with
  | reported r =>
    obtain ⟨rs, c, heq, -⟩ := reported_frame r l
    rwa [heq] at hh
  | replied place body =>
    rcases replied_cases place body l with heq | ⟨x, -, -, -, heq⟩
    · rwa [heq] at hh
    · rw [heq] at hh
      obtain ⟨y, hy, rfl⟩ := List.mem_map.mp hh
      unfold HeldRequest.markAnswered at hwaits ⊢
      split
      next hplace => rw [if_pos hplace] at hwaits; cases hwaits
      next => exact hy
  | takesReply =>
    unfold freeBuffer at hh
    split at hh
    · exact hh
    · exact (List.mem_filter.mp hh).1
  | powerOn => exact absurd hh List.not_mem_nil
  | _ => exact hh

theorem LinkMoves.shrinks (hmoves : LinkMoves l l') (hh : h ∈ l'.buffer) (hwaits : h.inProgress) : h ∈ l.buffer := by
  induction hmoves with
  | refl => exact hh
  | tail _ hmove ih => exact ih (hmove.shrinks hh hwaits)

theorem LinkMoves.alone (hmoves : LinkMoves l l') (halone : l.alone) : l'.alone := fun h hh h' hh' hwaits hwaits' =>
  halone h (hmoves.shrinks hh hwaits) h' (hmoves.shrinks hh' hwaits') hwaits hwaits'

/-- After a reply no request waits at its place. -/
theorem replied_place (hlaw : l.lawful) (body : ReplyBody) (hh : h ∈ (l.replied n body).buffer) (hwaits : h.inProgress) :
    h.place ≠ n := by
  rintro rfl
  have before := (LinkMove.replied h.place body).shrinks hh hwaits
  have answered : l.replied h.place body = { l with
      replies := l.replies ++ [{ place := some h.place, kind := h.kind.code, tag := h.tag, port := h.port, body := body }]
      buffer := l.buffer.map (HeldRequest.markAnswered h.place) } := by
    have hfalse : h.answered = false := hwaits
    unfold LinkController.replied
    simp only [hlaw.find_place before, hfalse]
    rfl
  rw [answered] at hh
  obtain ⟨y, -, hy⟩ := List.mem_map.mp hh
  have place : y.place = h.place := by rw [← markAnswered_place h.place y, hy]
  rw [HeldRequest.markAnswered, if_pos place] at hy
  rw [← hy] at hwaits
  cases hwaits

/-- After an answer to a kind of request on a port no request of that kind waits for that port. -/
theorem answerHeld_gone (hlaw : u.link.lawful) (halone : u.link.alone) {body : ReplyBody}
    (hh : h ∈ (answerHeld k p body u).link.buffer) (hwaits : h.inProgress) : ¬ (h.kind = k ∧ h.port = p.byte) := by
  rintro ⟨hkind, hport⟩
  have before := (moves_answerHeld k body).shrinks hh hwaits
  cases hfind : heldOn u k p with
  | none => exact List.find?_eq_none.mp hfind h before (by simpa using ⟨hkind, hport, hwaits⟩)
  | some x =>
    obtain ⟨xkind, xport, xwaits⟩ : x.kind = k ∧ x.port = p.byte ∧ x.answered = false := by
      simpa using List.find?_some hfind
    obtain rfl := halone h before x (List.mem_of_find?_eq_some hfind) hwaits xwaits (hkind.trans xkind.symm)
      (hport.trans xport.symm)
    have answered : answerHeld k p body u = onLink (LinkController.replied h.place body) u := by
      unfold answerHeld
      simp only [hfind, reply_onLink]
    rw [answered] at hh
    exact replied_place hlaw body hh hwaits rfl

/-- The requests a request taken joins. -/
theorem mem_hold (hh : h ∈ (hold k tag port s).link.buffer) : h ∈ s.link.buffer ∨
    h = { place := freePlace s.link.buffer, kind := k, tag := tag, port := port, answered := false } := by
  rcases List.mem_append.mp hh with hh | hh
  · exact .inl hh
  · exact .inr (List.mem_singleton.mp hh)

/-! ### Waiting through one act -/

/-- The states the acts run through: every law that says where a request can wait, with the request being taken left out. -/
structure Tended (s : State) : Prop where
  link : s.link.lawful
  alone : s.link.alone
  pool : PoolLaw s
  ports : PortLaw s

theorem Op.tended (hop : Op s t) (h : Tended s) : Tended t :=
  ⟨hop.moves.lawful h.link, hop.moves.alone h.alone, hop.poolLaw h.pool, fun p => (hop.blocks p).lawful (h.ports p)⟩

/-- A request goes on waiting where the port it waits for stays in NULLING and under its close hold. -/
theorem State.waits.kept (h : s.waits x) (hmode : ∀ q, (s.port q).ctl.mode = .nulling → (t.port q).ctl.mode = .nulling)
    (hclose : ∀ q, (s.port q).seq.closeHold = true → (t.port q).seq.closeHold = true) : t.waits x := by
  obtain ⟨q, hport, h⟩ := h
  exact ⟨q, hport, h.imp (And.imp_right (hmode q)) (And.imp_right (hclose q))⟩

theorem State.waits.kept_port (h : s.waits x) (hne : ∀ q, q ≠ p → t.port q = s.port q)
    (hmode : (s.port p).ctl.mode = .nulling → (t.port p).ctl.mode = .nulling)
    (hclose : (s.port p).seq.closeHold = true → (t.port p).seq.closeHold = true) : t.waits x := by
  refine h.kept (fun q hq => ?_) fun q hq => ?_
  · by_cases hqp : q = p
    · subst hqp; exact hmode hq
    · rw [hne q hqp]; exact hq
  · by_cases hqp : q = p
    · subst hqp; exact hclose hq
    · rw [hne q hqp]; exact hq

/-- A request that does not wait for port `p` goes on waiting, whatever becomes of that port. -/
theorem State.waits.kept_away (h : s.waits x) (hne : ∀ q, q ≠ p → t.port q = s.port q)
    (hnull : (s.port p).ctl.mode = .nulling → ¬ (x.kind = .nullChannels ∧ x.port = p.byte))
    (hclose : (s.port p).seq.closeHold = true → ¬ (x.kind = .closeTube ∧ x.port = p.byte)) : t.waits x := by
  obtain ⟨q, hport, h⟩ := h
  by_cases hqp : q = p
  · subst hqp
    rcases h with ⟨hkind, hmode⟩ | ⟨hkind, hhold⟩
    · exact absurd ⟨hkind, hport⟩ (hnull hmode)
    · exact absurd ⟨hkind, hport⟩ (hclose hhold)
  · refine ⟨q, hport, ?_⟩
    rw [mode_eq, hne q hqp]
    exact h

theorem hasRecord_not_nulling {m : PortMode} (h : m.hasRecord = true) : m ≠ .nulling := by rintro rfl; cases h

theorem not_closeHold (hlaw : b.lawful) (h : b.ctl.mode.hasRecord = false) : b.seq.closeHold ≠ true := fun hclose => by
  obtain ⟨-, -, -, hhold, -⟩ := hlaw
  rw [hhold hclose] at h
  cases h

/-- The state an answer is given in, its reports told. -/
theorem told_tended {rs : List Report} {c : RecordStore → RecordStore} (h : Tended s) :
    (tell rs (onStore c (s.setPort p b))).link.lawful ∧ (tell rs (onStore c (s.setPort p b))).link.alone := by
  have moves := moves_tell (s := onStore c (s.setPort p b)) rs
  exact ⟨moves.lawful h.link, moves.alone h.alone⟩

/-- What ends on a port is answered: no request goes on waiting for it. -/
theorem Ending.waits {reason : CloseReason} {ans : State → State} {rs rs' : List Report} {c : RecordStore → RecordStore}
    {s' : State} (hend : Ending p reason s' ans rs' c b) (hctl : (s'.port p).ctl.mode = (s.port p).ctl.mode)
    (hrecord : s'.openNumber p = s.openNumber p) (h : Tended s) {x : HeldRequest}
    (hx : x ∈ (said ans rs c p b' s).link.buffer) (hprogress : x.inProgress) (hwaits : s.waits x) :
    (said ans rs c p b' s).waits x := by
  obtain ⟨hlink, halone⟩ := told_tended (p := p) (b := b') (rs := rs) (c := c) h
  refine hwaits.kept_away (p := p) (fun q hq => said_port_ne hend.answers hq) ?_ ?_
  all_goals intro hport
  · cases hend with
    | record hmode _ => rw [hctl, hport] at hmode; cases hmode
    | nulling _ => exact answerHeld_gone hlink halone hx hprogress
    | bare hmode _ => rw [hctl, hport] at hmode; cases hmode
    | rest hmode => rw [hctl, hport] at hmode; cases hmode
  · cases hend with
    | record _ _ => exact answerHeld_gone hlink halone hx hprogress
    | nulling hmode => exact absurd hport (not_closeHold (h.ports p) (by rw [← hctl, hmode]; rfl))
    | bare hmode hnumber => exact absurd ⟨p, hctl ▸ hmode, hrecord ▸ hnumber⟩ h.pool.not_bare
    | rest hmode =>
      refine absurd hport (not_closeHold (h.ports p) ?_)
      rw [hctl] at hmode
      revert hmode
      cases (s.port p).ctl.mode <;> simp [PortMode.scanning, PortMode.hasRecord]

/-- A request that waits after an act waits for a port that still works on it, where it did so before. -/
theorem Op.waits (hop : Op s t) (h : Tended s) {x : HeldRequest} (hx : x ∈ t.link.buffer) (hprogress : x.inProgress)
    (hwaits : s.waits x) : t.waits x := by
  have plain : ∀ {p : PortId} {b : PortBlocks}, ((s.port p).ctl.mode = .nulling → b.ctl.mode = .nulling) →
      ((s.port p).seq.closeHold = true → b.seq.closeHold = true) → (s.setPort p b).waits x := fun hmode hclose =>
    hwaits.kept_port (fun q hq => setPort_port_ne _ hq) (by rwa [setPort_port_same]) (by rwa [setPort_port_same])
  have acted : ∀ {p : PortId} {b : PortBlocks} {f : Record → Record}, ((s.port p).ctl.mode = .nulling → b.ctl.mode = .nulling) →
      ((s.port p).seq.closeHold = true → b.seq.closeHold = true) → (act p b f s).waits x := fun hmode hclose =>
    hwaits.kept_port (fun q hq => act_port_ne hq) (by rwa [act_port_same]) (by rwa [act_port_same])
  have stands : ∀ {u : State}, (∀ q, u.port q = s.port q) → u.waits x := fun hu =>
    hwaits.kept (fun q hq => by rwa [hu]) (fun q hq => by rwa [hu])
  cases hop with
  | report r => exact stands fun q => report_port r
  | reply place body => exact stands fun q => reply_port place body
  | refuse => unfold refuseAtOnce; split <;> exact hwaits
  | arbitrate =>
    refine hwaits.kept (fun q hq => by rwa [arbitrate_ctl]) fun q hq => ?_
    have seq := congrArg PortBlocks.seq (arbitrate_sansRing (s := s) (q := q))
    exact (congrArg Sequencer.closeHold seq).trans hq
  | powerUp => exact absurd hx List.not_mem_nil
  | drive => exact plain id id
  | quiet hquiet => exact acted (by rw [hquiet.ctl]; exact id) (by rw [hquiet.seq]; exact id)
  | sequenced hseq => exact plain id (by dsimp only; rw [hseq.closeHold]; exact id)
  | counted => exact plain id id
  | edit => exact plain id id
  | discard => exact plain id id
  | @commitRest p hrest hvalid =>
    obtain ⟨_, _, _, _, _, hpromoted⟩ := promotedAt_frame s.now { s.port p with
      plan := { (s.port p).plan with staged := (s.port p).plan.staged.commitClamped } }
    exact plain (by rw [hpromoted]; exact id) (by rw [hpromoted]; exact id)
  | commitPending => exact acted id id
  | @idles p cause hmode =>
    refine hwaits.kept_away (p := p) (fun q hq => setPort_port_ne _ hq) (fun hnull => ?_) fun hclose => ?_
    · rcases hmode with hmode | hmode | ⟨hmode, -⟩ <;> rw [hnull] at hmode <;> cases hmode
    · rcases hmode with hmode | hmode | ⟨hmode, hnumber⟩
      · exact absurd hclose (not_closeHold (h.ports p) (by rw [hmode]; rfl))
      · exact absurd hclose (not_closeHold (h.ports p) (by rw [hmode]; rfl))
      · exact absurd ⟨p, hmode, hnumber⟩ h.pool.not_bare
  | @opens p row column sec p0 r hidle hfree hr =>
    refine hwaits.kept_away (p := p) (fun q hq => setPort_port_ne _ hq) (fun hnull => ?_) fun hclose => ?_
    · rw [hidle] at hnull; cases hnull
    · exact absurd hclose (not_closeHold (h.ports p) (by rw [hidle]; rfl))
  | enters harmed hclose =>
    exact acted (fun hnull => by rw [harmed] at hnull; cases hnull) fun hhold => by rw [hclose] at hhold; cases hhold
  | takes => exact acted id id
  | misses => exact acted id id
  | startsHeld => exact plain id id
  | @closes p n rs reason cause hmode _ =>
    obtain ⟨hlink, halone⟩ := told_tended (p := p) (rs := rs) h
    refine hwaits.kept_away (p := p) (fun q hq => said_port_ne (answers_answerHeld ..) hq)
      (fun hnull => absurd hnull (hasRecord_not_nulling hmode)) fun _ => ?_
    exact answerHeld_gone hlink halone hx hprogress
  | @nulled p rs body sums hmode _ =>
    obtain ⟨hlink, halone⟩ := told_tended (p := p) (rs := rs) h
    refine hwaits.kept_away (p := p) (fun q hq => said_port_ne (answers_answerHeld ..) hq) (fun _ => ?_)
      fun hclose => absurd hclose (not_closeHold (h.ports p) (by rw [hmode]; rfl))
    exact answerHeld_gone hlink halone hx hprogress
  | faults hend =>
    exact Ending.waits (s := s) hend (by rw [setPort_port_same]) rfl h hx hprogress hwaits
  | disables hend => exact hend.waits rfl rfl h hx hprogress hwaits
  | _ => exact hwaits

theorem Ops.tended (hops : Ops s t) (h : Tended s) : Tended t := by
  induction hops with
  | refl => exact h
  | tail _ hop ih => exact hop.tended ih

theorem Ops.moves (hops : Ops s t) : LinkMoves s.link t.link := by
  induction hops with
  | refl => exact .refl
  | tail _ hop ih => exact ih.trans hop.moves

theorem Ops.waits (hops : Ops s t) (h : Tended s) {x : HeldRequest} (hx : x ∈ t.link.buffer) (hprogress : x.inProgress)
    (hwaits : s.waits x) : t.waits x := by
  induction hops with
  | refl => exact hwaits
  | tail hops hop ih => exact hop.waits (Ops.tended hops h) hx hprogress (ih (hop.moves.shrinks hx hprogress))

/-! ### The law through a command -/

/-- What is left of a command keeps the law. -/
theorem Ops.heldLaw (hops : Ops s t) (h : Tended s) (hheld : HeldLaw s) : HeldLaw t :=
  ⟨fun x hx hprogress => hops.waits h hx hprogress (hheld.1 x (hops.moves.shrinks hx hprogress) hprogress),
    hops.moves.alone hheld.2⟩

/-- A request taken that no request of its kind and port waits beside. -/
theorem hold_tended (h : Tended s) (hroom : s.link.buffer.length < Config.requestPlaces)
    (hfirst : ∀ x ∈ s.link.buffer, x.inProgress → ¬ (x.kind = k ∧ x.port = port)) : Tended (hold k tag port s) := by
  refine ⟨hold_lawful h.link hroom, fun x hx y hy hxp hyp hkind hport => ?_, h.pool, h.ports⟩
  rcases mem_hold hx with hx | rfl
  · rcases mem_hold hy with hy | rfl
    · exact h.alone x hx y hy hxp hyp hkind hport
    · exact absurd ⟨hkind, hport⟩ (hfirst x hx hxp)
  · rcases mem_hold hy with hy | rfl
    · exact absurd ⟨hkind.symm, hport.symm⟩ (hfirst y hy hyp)
    · rfl

/-- A request answered in a state that has the laws but for it leaves the laws. -/
theorem reply_heldLaw (h : Tended s) {body : ReplyBody}
    (hheld : ∀ x ∈ s.link.buffer, x.inProgress → x.place ≠ n → s.waits x) : HeldLaw (reply n body s) := by
  have moves := moves_reply (s := s) n body
  refine ⟨fun x hx hprogress => ?_, moves.alone h.alone⟩
  have place : x.place ≠ n := by
    rw [reply_onLink] at hx
    exact replied_place h.link body hx hprogress
  exact State.waits.kept (hheld x (moves.shrinks hx hprogress) hprogress place) (fun q hq => by rwa [reply_port])
    fun q hq => by rwa [reply_port]

theorem reply_tended (h : Tended s) {body : ReplyBody} : Tended (reply n body s) := (Op.reply n body).tended h

/-- Before its hold or its close no CLOSE_TUBE waits for a port. -/
theorem no_close_waits (hheld : HeldLaw s) (hclose : (s.port p).seq.closeHold = false) :
    ∀ x ∈ s.link.buffer, x.inProgress → ¬ (x.kind = .closeTube ∧ x.port = p.byte) := by
  rintro x hx hprogress ⟨hkind, hport⟩
  obtain ⟨q, hq, ⟨hnull, -⟩ | ⟨-, hhold⟩⟩ := hheld.1 x hx hprogress
  · rw [hkind] at hnull; cases hnull
  · rw [← PortId.byte_inj (hport.symm.trans hq), hclose] at hhold; cases hhold

/-- A request joins those that wait for their ports. -/
theorem hold_waits (hheld : HeldLaw s) {x : HeldRequest} (hx : x ∈ (hold k tag port s).link.buffer)
    (hprogress : x.inProgress) :
    (hold k tag port s).waits x ∨ (x.kind = k ∧ x.port = port ∧ x.place = freePlace s.link.buffer) := by
  rcases mem_hold hx with hx | rfl
  · exact .inl (hheld.1 x hx hprogress)
  · exact .inr ⟨rfl, rfl, rfl⟩

/-- A request taken that a block works on from now on. -/
theorem starts_heldLaw (h : Tended s) (hheld : HeldLaw s) (hroom : s.link.buffer.length < Config.requestPlaces)
    (hfirst : ∀ x ∈ s.link.buffer, x.inProgress → ¬ (x.kind = k ∧ x.port = p.byte))
    (hmode : (s.port p).ctl.mode = .nulling → b.ctl.mode = .nulling)
    (hclose : (s.port p).seq.closeHold = true → b.seq.closeHold = true)
    (hstarts : (k = .nullChannels ∧ b.ctl.mode = .nulling) ∨ (k = .closeTube ∧ b.seq.closeHold = true)) :
    HeldLaw ((hold k tag p.byte s).setPort p b) := by
  refine ⟨fun x hx hprogress => ?_, (hold_tended h hroom hfirst).alone⟩
  rcases hold_waits hheld hx hprogress with hwaits | ⟨hkind, hport, -⟩
  · exact hwaits.kept_port (fun q hq => setPort_port_ne _ hq) (by rw [setPort_port_same]; exact hmode)
      (by rw [setPort_port_same]; exact hclose)
  · refine ⟨p, hport, ?_⟩
    rw [mode_eq, setPort_port_same, hkind]
    exact hstarts

/-- The blocks of one port changed as an act changes them, in a state that has the laws. -/
theorem Act.tended (hact : Act s t) (hmoves : LinkMoves s.link t.link) (h : Tended s) : Tended t :=
  ⟨hmoves.lawful h.link, hmoves.alone h.alone, hact.poolLaw h.pool, fun p => (hact.blocks p).lawful (h.ports p)⟩

theorem abortHeld_none_waits (hlaw : s.link.lawful) {x : HeldRequest}
    (hx : x ∈ (abortHeld n s).link.buffer) (hprogress : x.inProgress) : x.place = n := by
  have all : ∀ (rest : List HeldRequest) (v : State), v.link.lawful →
      x ∈ (rest.foldl (fun s h => replyRefused h.place .resetAborted s) v).link.buffer →
      x ∈ v.link.buffer ∧ ∀ h ∈ rest, x.place ≠ h.place := by
    intro rest
    induction rest with
    | nil => exact fun v _ hx => ⟨hx, nofun⟩
    | cons h rest ih =>
      intro v hv hx
      have moves := moves_reply (s := v) h.place (.refused .resetAborted none)
      obtain ⟨hmem, hrest⟩ := ih _ (moves.lawful hv) hx
      refine ⟨moves.shrinks hmem hprogress, fun y hy => ?_⟩
      rcases List.mem_cons.mp hy with rfl | hy
      · rw [reply_onLink] at hmem
        exact replied_place hv _ hmem hprogress
      · exact hrest y hy
  obtain ⟨hmem, hrest⟩ := all _ s hlaw hx
  by_contra hne
  exact hrest x (List.mem_filter.mpr ⟨hmem, by simpa using hne⟩) rfl

/-- The command that waits longest keeps the law, by what it has to do with the requests that take time. -/
theorem Run.heldLaw (hrun : Run s t) (h : Tended s) (hheld : HeldLaw s) : HeldLaw t := by
  cases hrun with
  | ops hops => exact hops.heldLaw h hheld
  | @completes u _ p sc pos hscan hconsumed hnext =>
    have completed : Tended (act p ((s.port p).completed sc pos) sc.noted s) := Act.tended (.completes hscan) .refl h
    have waits : HeldLaw (act p ((s.port p).completed sc pos) sc.noted s) :=
      ⟨fun x hx hprogress => State.waits.kept_port (hheld.1 x hx hprogress) (fun q hq => act_port_ne hq)
        (by rw [act_port_same]; exact id) (by rw [act_port_same]; exact id), hheld.2⟩
    have rest := Relation.ReflTransGen.trans hconsumed (Relation.ReflTransGen.trans ops_nextStart hnext)
    exact Ops.heldLaw rest completed waits
  | @served u _ k tag port body hroom hkind hserved hanswered =>
    have fresh : ∀ x ∈ s.link.buffer, x.inProgress → ¬ (x.kind = k ∧ x.port = port) := fun x hx hprogress hx' => by
      obtain ⟨-, -, ⟨hnull, -⟩ | ⟨hclose, -⟩⟩ := hheld.1 x hx hprogress
      · exact hkind.1 (hx'.1.symm.trans hnull)
      · exact hkind.2 (hx'.1.symm.trans hclose)
    have taken : Tended (hold k tag port s) := hold_tended h hroom fresh
    refine Ops.heldLaw hanswered (reply_tended (hserved.tended taken)) (reply_heldLaw (hserved.tended taken) ?_)
    intro x hx hprogress hplace
    refine hserved.waits taken hx hprogress ?_
    rcases hold_waits hheld (hserved.moves.shrinks hx hprogress) hprogress with hwaits | ⟨-, -, hnew⟩
    · exact hwaits
    · exact absurd hnew hplace
  | @turnedAway _ k tag port body hroom hanswered =>
    have lawful := hold_lawful (k := k) (tag := tag) (port := port) h.link hroom
    have moves := moves_reply (s := hold k tag port s) (freePlace s.link.buffer) body
    have before : ∀ x ∈ (reply (freePlace s.link.buffer) body (hold k tag port s)).link.buffer, x.inProgress →
        x ∈ s.link.buffer := fun x hx hprogress => by
      have place : x.place ≠ freePlace s.link.buffer := by
        rw [reply_onLink] at hx
        exact replied_place lawful body hx hprogress
      rcases mem_hold (moves.shrinks hx hprogress) with hx | rfl
      · exact hx
      · exact absurd rfl place
    have alone : (reply (freePlace s.link.buffer) body (hold k tag port s)).link.alone := fun x hx y hy hxp hyp =>
      h.alone x (before x hx hxp) y (before y hy hyp) hxp hyp
    refine Ops.heldLaw hanswered ⟨moves.lawful lawful, alone,
      (Op.reply (freePlace s.link.buffer) body).poolLaw (s := hold k tag port s) h.pool,
      fun p => by rw [reply_port]; exact h.ports p⟩ ⟨fun x hx hprogress => ?_, alone⟩
    exact State.waits.kept (hheld.1 x (before x hx hprogress) hprogress) (fun q hq => by rw [reply_port]; exact hq)
      fun q hq => by rw [reply_port]; exact hq
  | @nulls _ p tag hroom hidle hrest =>
    have fresh : ∀ x ∈ s.link.buffer, x.inProgress → ¬ (x.kind = .nullChannels ∧ x.port = p.byte) := by
      rintro x hx hprogress ⟨hkind, hport⟩
      obtain ⟨q, hq, ⟨-, hnull⟩ | ⟨hclose, -⟩⟩ := hheld.1 x hx hprogress
      · rw [mode_eq, ← PortId.byte_inj (hport.symm.trans hq), hidle] at hnull; cases hnull
      · rw [hkind] at hclose; cases hclose
    have taken : Tended (hold .nullChannels tag p.byte s) := hold_tended h hroom fresh
    have starts : Tended ((hold .nullChannels tag p.byte s).setPort p ((s.port p).nullingAt s.now)) :=
      Act.tended (.nulls (s := hold .nullChannels tag p.byte s) hidle) .refl taken
    refine Ops.heldLaw hrest starts (starts_heldLaw h hheld hroom fresh (fun _ => rfl) (fun hclose => ?_) (.inl ⟨rfl, rfl⟩))
    exact absurd hclose (not_closeHold (h.ports p) (by rw [hidle]; rfl))
  | @holdsClose _ p tag hroom hmode hclose hscan hrest =>
    have fresh := no_close_waits hheld hclose
    have taken : Tended (hold .closeTube tag p.byte s) := hold_tended h hroom fresh
    have holds : Tended ((hold .closeTube tag p.byte s).setPort p (s.port p).closeHeld) :=
      Act.tended (.holdsClose (s := hold .closeTube tag p.byte s) hmode hscan) .refl taken
    exact Ops.heldLaw hrest holds (starts_heldLaw h hheld hroom fresh id (fun _ => rfl) (.inr ⟨rfl, rfl⟩))
  | @closes u _ p tag hroom hmode hclose hcloses hrest =>
    have fresh := no_close_waits hheld hclose
    have taken : Tended (hold .closeTube tag p.byte s) := hold_tended h hroom fresh
    have record : ((hold .closeTube tag p.byte s).port p).ctl.mode.hasRecord = true := hmode
    obtain ⟨r, hopen⟩ := taken.pool.exists_open record
    have ops : Ops (hold .closeTube tag p.byte s) u := by rw [hcloses]; exact ops_closeToIdle record
    have answered := closeToIdle_some .host .closeHost (openNumber_of_openRecords hopen) record
    obtain ⟨hlink, halone⟩ := told_tended (p := p)
      (rs := closeReports p (s.port p) r.number .host .closeHost) (b := ((s.port p).closedToIdle .closeHost).settledAt s.now)
      (c := RecordStore.readied p (Record.closedWith (s.port p) (s.port p).waitingPoint .host) r.number) taken
    refine Ops.heldLaw hrest (ops.tended taken) ⟨fun x hx hprogress => ?_, ops.moves.alone taken.alone⟩
    rcases hold_waits hheld (ops.moves.shrinks hx hprogress) hprogress with hwaits | ⟨hkind, hport, -⟩
    · exact ops.waits taken hx hprogress hwaits
    · rw [hcloses, answered] at hx
      exact absurd ⟨hkind, hport⟩ (answerHeld_gone hlink halone hx hprogress)
  | @resets _ tag port hroom hrest =>
    have lawful : (hold .reset tag port s).link.lawful := hold_lawful h.link hroom
    have aborted := (Ops.moves (ops_abortHeld (freePlace s.link.buffer))).lawful lawful
    have none_waits : ∀ x ∈ t.link.buffer, ¬ x.inProgress := fun x hx hprogress => by
      have before := moves_resetPart.shrinks (hrest.moves.shrinks hx hprogress) hprogress
      have place : x.place ≠ freePlace s.link.buffer := by
        rw [replyDone, reply_onLink] at before
        exact replied_place aborted _ before hprogress
      exact place (abortHeld_none_waits lawful ((moves_reply ..).shrinks before hprogress) hprogress)
    exact ⟨fun x hx hprogress => absurd hprogress (none_waits x hx), fun x hx _ _ hprogress => absurd hprogress (none_waits x hx)⟩

/-- Settles O52: a request waits on only where its port still works on it. -/
theorem heldLawKept : Obligations.HeldLawKept := by
  intro s t hlink hpool hports hheld hstep
  have exec : ∀ {c : Instr} {u v : State}, Tended u → HeldLaw u → exec c u = .next v → HeldLaw v := fun hu hheld hnext => by
    obtain ⟨w, hops, hrun⟩ := exec_run hnext
    exact hrun.heldLaw (hops.tended hu) (hops.heldLaw hu hheld)
  have tended : Tended s := ⟨linkLaw_iff.mp hlink, hheld.2, hpool, hports⟩
  unfold step at hstep
  split at hstep
  next c rest _ => exact exec (u := { s with pending := rest }) ⟨tended.link, tended.alone, hpool, hports⟩ hheld hstep
  next => cases hstep; exact hheld

end Sys2Proof.Machine

/-! PROOFS. Every step keeps the tally of trigger points (R67, R138). -/

namespace Sys2Proof.Machine

variable {p q : PortId} {s t u : State} {b b' : PortBlocks} {f : Record → Record} {P : PortId → Prop}
  {rs rs' : List Report}

/-! ### The tally of one port -/

/-- The tally of trigger points on a port with blocks `b` and open records `rs` (R67, R138). That a start is held behind a
scan is the part `strict`, which step 4 of a completion restores (R50). -/
structure PortBlocks.tallied (strict : Prop) (b : PortBlocks) (rs : List Record) : Prop where
  armed : b.ctl.mode = .armed → b.seq.inDistance = false ∧ ∀ r ∈ rs, r.counters.scansTaken = 0 ∧ r.counters.missed = 0
  acquiring : b.ctl.mode = .acquiring → ∃ g, b.travel.grid = some g ∧ (b.seq.held.isSome = true → b.seq.inDistance = false) ∧
    ∀ r ∈ rs, r.counters.scansTaken + r.counters.missed + b.seq.openPoints = g.next
  behind : strict → b.seq.held.isSome = true → b.seq.scan.isSome = true

/-- The tally of every port, strict for the ports of `P`. -/
def State.tallied (P : PortId → Prop) (s : State) : Prop := ∀ p, (s.port p).tallied (P p) (s.openRecords p)

theorem tallyLaw_iff (hports : PortLaw s) : TallyLaw s ↔ s.tallied fun _ => True := by
  constructor
  · intro h p
    obtain ⟨harmed, hacquiring⟩ := h p
    have mode : (s.port p).seq.held.isSome = true → (s.port p).ctl.mode = .acquiring := (hports p).2.2.1
    refine ⟨harmed, fun hmode => ?_, fun _ hheld => ?_⟩
    · obtain ⟨g, hgrid, hbehind, hsum⟩ := hacquiring hmode
      exact ⟨g, hgrid, fun hheld => (hbehind hheld).2, hsum⟩
    · obtain ⟨g, hgrid, hbehind, hsum⟩ := hacquiring (mode hheld)
      exact (hbehind hheld).1
  · intro h p
    obtain ⟨harmed, hacquiring, hbehind⟩ := h p
    refine ⟨harmed, fun hmode => ?_⟩
    obtain ⟨g, hgrid, hdistance, hsum⟩ := hacquiring hmode
    exact ⟨g, hgrid, fun hheld => ⟨hbehind trivial hheld, hdistance hheld⟩, hsum⟩

theorem State.tallied.mono {P' : PortId → Prop} (h : s.tallied P) (hle : ∀ p, P' p → P p) : s.tallied P' := fun p =>
  ⟨(h p).armed, (h p).acquiring, fun hp => (h p).behind (hle p hp)⟩

/-- A port without a record has no tally to keep. -/
theorem tallied_of_rest {strict : Prop} {l : List Record} (hmode : b.ctl.mode.hasRecord = false)
    (hheld : b.seq.held = none) : b.tallied strict l :=
  ⟨fun h => by rw [h] at hmode; (cases hmode), fun h => by rw [h] at hmode; (cases hmode),
    fun _ h => by rw [hheld] at h; (cases h)⟩

/-- A write that leaves the counts of a record. -/
theorem tallied_congr {strict : Prop} {l : List Record} (h : b.tallied strict l) (hmode : b'.ctl.mode = b.ctl.mode)
    (hseq : b'.seq = b.seq) (hgrid : b'.travel.grid = b.travel.grid) (hf : Mild f) : b'.tallied strict (l.map f) := by
  obtain ⟨harmed, hacquiring, hbehind⟩ := h
  have counts : ∀ r ∈ l.map f, ∃ x ∈ l, r.counters.scansTaken = x.counters.scansTaken ∧
      r.counters.missed = x.counters.missed := fun r hr => by
    obtain ⟨x, hx, rfl⟩ := List.mem_map.mp hr
    exact ⟨x, hx, hf.tally x⟩
  refine ⟨fun hm => ?_, fun hm => ?_, by rw [hseq]; exact hbehind⟩
  · rw [hseq]
    obtain ⟨hdistance, hzero⟩ := harmed (hmode ▸ hm)
    refine ⟨hdistance, fun r hr => ?_⟩
    obtain ⟨x, hx, hscans, hmissed⟩ := counts r hr
    rw [hscans, hmissed]
    exact hzero x hx
  · rw [hgrid, hseq]
    obtain ⟨g, hg, hheld, hsum⟩ := hacquiring (hmode ▸ hm)
    refine ⟨g, hg, hheld, fun r hr => ?_⟩
    obtain ⟨x, hx, hscans, hmissed⟩ := counts r hr
    rw [hscans, hmissed]
    exact hsum x hx

theorem inDistance_of_none {q : Sequencer} (h : q.scan = none) : q.inDistance = false := by
  unfold Sequencer.inDistance
  rw [h]

theorem openPoints_congr {q q' : Sequencer} (hheld : q'.held = q.held) (hdistance : q'.inDistance = q.inDistance) :
    q'.openPoints = q.openPoints := by
  unfold Sequencer.openPoints
  rw [hheld, hdistance]

/-! ### The tally through one act -/

theorem tallied_act (h : s.tallied P) (hf : Keeps f) (hb : b.tallied (P p) ((s.openRecords p).map f)) :
    (act p b f s).tallied P := fun q => by
  by_cases hq : q = p
  · subst hq
    rw [act_port_same, act_openRecords hf]
    exact hb
  · rw [act_port_ne hq, act, onOpen_openRecords_ne hf.port hq]
    exact h q

theorem tallied_setPort (h : s.tallied P) (hb : b.tallied (P p) (s.openRecords p)) : (s.setPort p b).tallied P := by
  rw [← act_id]
  exact tallied_act h Keeps.id (by rwa [List.map_id])

theorem tallied_stands (h : s.tallied P) (hport : ∀ q, (t.port q).ctl = (s.port q).ctl ∧ (t.port q).seq = (s.port q).seq ∧
    (t.port q).travel = (s.port q).travel) (hstore : t.store = s.store) : t.tallied P := fun q => by
  obtain ⟨hctl, hseq, htravel⟩ := hport q
  have same : t.openRecords q = (s.openRecords q).map id := by rw [List.map_id]; unfold State.openRecords; rw [hstore]
  rw [same]
  exact tallied_congr (h q) (by rw [hctl]) hseq (by rw [htravel]) Mild.id

/-- What brings a port to rest, its open record made READY or not, leaves the tally of the others. -/
theorem tallied_said {ans : State → State} {c : RecordStore → RecordStore} (h : s.tallied P) (hans : Answers ans)
    (hopen : ∀ q, q ≠ p → (onStore c s).openRecords q = s.openRecords q)
    (hb : ∀ l, b.tallied (P p) l) : (said ans rs c p b s).tallied P := fun q => by
  by_cases hq : q = p
  · subst hq
    rw [said_port hans]
    exact hb _
  · have same : (said ans rs c p b s).openRecords q = s.openRecords q := by
      rw [← hopen q hq]
      unfold State.openRecords
      rw [said_store hans]
      rfl
    rw [said_port_ne hans hq, same]
    exact h q

theorem readied_openRecords_ne {n : Nat} (hf : Keeps f) (hq : q ≠ p) :
    (onStore (RecordStore.readied p f n) s).openRecords q = s.openRecords q := by
  show ((s.store.slots.map fun x => (x.onOpen p f).makeReady p).filterMap (RecordSlot.openFor q)) = _
  rw [List.filterMap_map]
  exact List.filterMap_congr fun x _ => openFor_readied_ne hf hq x

theorem released_openRecords (n : Nat) : (releaseRecord n s).openRecords q = s.openRecords q := by
  unfold State.openRecords
  rw [releaseRecord_spec, List.filterMap_map]
  exact List.filterMap_congr fun x _ => openFor_released n x

/-- A port brought to rest with its pending plan promoted has no tally to keep. -/
theorem tallied_settledAt {strict : Prop} {l : List Record} {now : Nat} (hmode : b.ctl.mode.hasRecord = false)
    (hseq : b.seq.still) : (b.settledAt now).tallied strict l := by
  obtain ⟨hctl, -, hstill, -⟩ := settledAt_frame now b
  exact tallied_of_rest (by rw [hctl]; exact hmode) (hstill hseq).2.2.2.1

theorem Ending.openRecords_ne {reason : CloseReason} {ans : State → State} {c : RecordStore → RecordStore} {s' : State}
    (h : Ending p reason s' ans rs c b) (hq : q ≠ p) : (onStore c s).openRecords q = s.openRecords q := by
  cases h with
  | record => exact readied_openRecords_ne (keeps_closedWith _ _ _) hq
  | _ => rfl

theorem takes_iff {q : Sequencer} (h : q.takes = true) : q.scan = none ∧ q.held = none := by
  unfold Sequencer.takes at h
  simp only [Bool.and_eq_true, Option.isNone_iff_eq_none] at h
  exact h.1

/-- A sequencer whose change begins no DISTANCE scan and in ACQUIRING ends none keeps the tally. -/
theorem Sequenced.tallied {strict : Prop} {l : List Record} {x : Sequencer} (hseq : Sequenced b x) (hlaw : b.lawful)
    (h : b.tallied strict l) : PortBlocks.tallied strict { b with seq := x } l := by
  refine ⟨fun hm => ⟨?_, (h.armed hm).2⟩, fun hm => ?_, fun hstrict hheld => ?_⟩
  · cases hdistance : x.inDistance with
    | false => rfl
    | true => exact absurd (hseq.armed hm hdistance) (by rw [(h.armed hm).1]; decide)
  · obtain ⟨hheld, -, hdistance⟩ := hseq.acquiring hm
    obtain ⟨g, hg, hbehind, hsum⟩ := h.acquiring hm
    dsimp only
    rw [hheld, hdistance, openPoints_congr hheld hdistance]
    exact ⟨g, hg, hbehind, hsum⟩
  · have before := hseq.held hheld
    exact (hseq.acquiring (hlaw.2.2.1 before)).2.1 (h.behind hstrict before)

/-- The entry to ACQUIRING fires point 0: its DISTANCE scan begins, or its start is held behind the TIME scan (R50). -/
theorem entered_tallied {strict : Prop} {l : List Record} {now : Nat} {g : Int} (harmed : b.ctl.mode = .armed) (hlaw : b.lawful)
    (h : b.tallied strict l) : (b.entered now).tallied strict (l.map (Record.setGridOrigin g)) := by
  obtain ⟨hdistance, hzero⟩ := h.armed harmed
  have noStart : b.seq.held = none := by
    cases hheld : b.seq.held with
    | none => rfl
    | some pos => exact absurd (hlaw.2.2.1 (by rw [hheld]; rfl)) (by rw [harmed]; decide)
  have started : (b.entered now).seq = (b.enterAcquiring now).seq.startZero now b.travel.raw := rfl
  have point : ((b.entered now).seq.held.isSome = true → (b.entered now).seq.scan.isSome = true ∧
      (b.entered now).seq.inDistance = false) ∧ (b.entered now).seq.openPoints = 1 := by
    rw [started, startZero_eq]
    cases hscan : b.seq.scan with
    | none =>
      have none' : (b.enterAcquiring now).seq.scan.isSome = false := by rw [show (b.enterAcquiring now).seq.scan = _ from hscan]; rfl
      have held : (b.enterAcquiring now).seq.held = none := noStart
      rw [none', if_neg Bool.false_ne_true]
      exact ⟨fun h => by rw [show _ = (none : Option Int) from held] at h; (cases h), rfl⟩
    | some sc =>
      have some' : (b.enterAcquiring now).seq.scan.isSome = true := by rw [show (b.enterAcquiring now).seq.scan = _ from hscan]; rfl
      rw [some', if_pos rfl]
      exact ⟨fun _ => ⟨some', hdistance⟩, by simp [Sequencer.openPoints]⟩
  refine ⟨fun hm => (by cases hm), fun _ => ⟨{ origin := b.travel.raw, next := 1 }, rfl, fun hheld => (point.1 hheld).2, ?_⟩,
    fun _ hheld => (point.1 hheld).1⟩
  intro r hr
  obtain ⟨x, hx, rfl⟩ := List.mem_map.mp hr
  obtain ⟨hscans, hmissed⟩ := (mild_setGridOrigin g).tally x
  rw [hscans, hmissed, (hzero x hx).1, (hzero x hx).2, point.2]

/-- A point fired and TAKEN: its DISTANCE scan begins. -/
theorem taken_tallied {strict : Prop} {l : List Record} {v : TravelUnit} {g : Grid} {now : Nat} {pos : Int}
    (hmode : b.ctl.mode = .acquiring) (htakes : b.seq.takes = true) (hgrid : b.travel.grid = some g)
    (hfired : v.grid = some g.fired) (hf : Mild f) (h : b.tallied strict l) :
    PortBlocks.tallied strict { b with seq := b.seq.beginScan now .distance pos, travel := v } (l.map f) := by
  obtain ⟨hscan, hheld⟩ := takes_iff htakes
  obtain ⟨g', hg', -, hsum⟩ := h.acquiring hmode
  obtain rfl : g = g' := Option.some.inj (hgrid.symm.trans hg')
  have none' : b.seq.openPoints = 0 := by
    unfold Sequencer.openPoints
    rw [inDistance_of_none hscan, hheld]
    rfl
  refine ⟨fun hm => absurd (hmode.symm.trans hm) (by decide), fun _ => ⟨g.fired, hfired, ?_, fun r hr => ?_⟩, fun _ _ => rfl⟩
  · intro hsome
    have some' : b.seq.held.isSome = true := hsome
    rw [hheld] at some'
    cases some'
  · obtain ⟨x, hx, rfl⟩ := List.mem_map.mp hr
    rw [(hf.tally x).1, (hf.tally x).2]
    have sum := hsum x hx
    rw [none'] at sum
    exact congrArg (· + 1) sum

/-- A point fired and MISSED is counted. -/
theorem missed_tallied {strict : Prop} {l : List Record} {v : TravelUnit} {g : Grid} (hmode : b.ctl.mode = .acquiring)
    (hgrid : b.travel.grid = some g) (hfired : v.grid = some g.fired) (h : b.tallied strict l) :
    PortBlocks.tallied strict { b with travel := v } (l.map Record.countMissed) := by
  obtain ⟨g', hg', hheld, hsum⟩ := h.acquiring hmode
  obtain rfl : g = g' := Option.some.inj (hgrid.symm.trans hg')
  refine ⟨fun hm => absurd (hmode.symm.trans hm) (by decide), fun _ => ⟨g.fired, hfired, hheld, fun r hr => ?_⟩, h.behind⟩
  obtain ⟨x, hx, rfl⟩ := List.mem_map.mp hr
  have sum := hsum x hx
  show x.counters.scansTaken + (x.counters.missed + 1) + b.seq.openPoints = g.next + 1
  omega

/-- The start held for point 0 is acted on: its DISTANCE scan begins. -/
theorem startsHeld_tallied {strict : Prop} {l : List Record} {now : Nat} {pos pos' : Int} (hmode : b.ctl.mode = .acquiring)
    (hheld : b.seq.held = some pos) (h : b.tallied strict l) : PortBlocks.tallied strict
      { b with seq := Sequencer.beginScan now .distance pos' { b.seq with held := none } } l := by
  obtain ⟨g, hg, hbehind, hsum⟩ := h.acquiring hmode
  have one : b.seq.openPoints = 1 := by simp [Sequencer.openPoints, hheld]
  refine ⟨fun hm => absurd (hmode.symm.trans hm) (by decide), fun _ => ⟨g, hg, fun h => (by cases h), fun r hr => ?_⟩,
    fun _ h => (by cases h)⟩
  have sum := hsum r hr
  rw [one] at sum
  exact sum

/-- A DISTANCE scan completed is a scan taken (R60, R138). -/
theorem completed_tallied {strict : Prop} {l : List Record} {sc : Scan} {pos : Int} (hscan : b.seq.scan = some sc)
    (h : b.tallied strict l) : (b.completed sc pos).tallied False (l.map sc.noted) := by
  have distance : b.seq.inDistance = decide (sc.kind = .distance) := by
    unfold Sequencer.inDistance
    rw [hscan]
  have done : (b.completed sc pos).seq.inDistance = false := rfl
  have held : (b.completed sc pos).seq.held = b.seq.held := rfl
  refine ⟨fun hm => ⟨done, fun r hr => ?_⟩, fun hm => ?_, False.elim⟩
  · obtain ⟨hnone, hzero⟩ := h.armed hm
    obtain ⟨x, hx, rfl⟩ := List.mem_map.mp hr
    have time : sc.kind = .time := by
      rw [distance] at hnone
      revert hnone
      cases sc.kind <;> decide
    rw [Scan.noted, time]
    exact hzero x hx
  · obtain ⟨g, hg, hbehind, hsum⟩ := h.acquiring hm
    have grid : (b.completed sc pos).travel.grid = b.travel.grid := by
      unfold PortBlocks.completed
      cases sc.kind <;> rfl
    refine ⟨g, grid.trans hg, fun _ => done, fun r hr => ?_⟩
    obtain ⟨x, hx, rfl⟩ := List.mem_map.mp hr
    have sum := hsum x hx
    unfold Sequencer.openPoints at sum ⊢
    rw [distance] at sum hbehind
    rw [done, held]
    cases hkind : sc.kind with
    | time =>
      rw [hkind] at sum
      rw [Scan.noted, hkind]
      exact sum
    | distance =>
      rw [hkind] at sum hbehind
      have noStart : b.seq.held.isSome = false := by
        cases hheld : b.seq.held.isSome with
        | false => rfl
        | true => exact absurd (hbehind hheld) (by decide)
      rw [Scan.noted, hkind, noStart]
      show x.counters.scansTaken + 1 + x.counters.missed + 0 = g.next
      rw [show (decide (ScanKind.distance = ScanKind.distance) || b.seq.held.isSome) = true from rfl, if_pos rfl] at sum
      omega

theorem Op.tallied (hop : Op s t) (hpool : PoolLaw s) (hports : PortLaw s) (h : s.tallied P) : t.tallied P := by
  cases hop with
  | report r => exact tallied_stands h (fun q => by rw [report_port]; exact ⟨rfl, rfl, rfl⟩) (report_store r)
  | reply place body => exact tallied_stands h (fun q => by rw [reply_port]; exact ⟨rfl, rfl, rfl⟩) (reply_store place body)
  | refuse => unfold refuseAtOnce; split <;> exact h
  | arbitrate =>
    refine tallied_stands h (fun q => ⟨arbitrate_ctl q, ?_, ?_⟩) arbitrate_store
    · exact (congrArg PortBlocks.seq (arbitrate_sansRing (s := s) (q := q)) :)
    · exact (congrArg PortBlocks.travel (arbitrate_sansRing (s := s) (q := q)) :)
  | powerUp => exact fun q => tallied_of_rest (by rw [powerUp_mode]; rfl) (by cases q <;> rfl)
  | release n =>
    intro q
    rw [released_openRecords]
    exact h q
  | drive => exact tallied_setPort h ⟨(h _).armed, (h _).acquiring, (h _).behind⟩
  | quiet hquiet =>
    exact tallied_act h hquiet.mild.keeps (tallied_congr (h _) (by rw [hquiet.ctl]) hquiet.seq hquiet.grid hquiet.mild)
  | sequenced hseq => exact tallied_setPort h (hseq.tallied (hports _) (h _))
  | counted => exact tallied_setPort h ⟨(h _).armed, (h _).acquiring, (h _).behind⟩
  | edit => exact tallied_setPort h ⟨(h _).armed, (h _).acquiring, (h _).behind⟩
  | discard => exact tallied_setPort h ⟨(h _).armed, (h _).acquiring, (h _).behind⟩
  | @commitRest p hrest hvalid =>
    obtain ⟨_, _, _, _, _, hpromoted⟩ := promotedAt_frame s.now { s.port p with
      plan := { (s.port p).plan with staged := (s.port p).plan.staged.commitClamped } }
    rw [hpromoted]
    have rest : (s.port p).ctl.mode.hasRecord = false := by
      revert hrest
      cases (s.port p).ctl.mode <;> simp [PortMode.atRest, PortMode.hasRecord]
    refine tallied_setPort h (tallied_of_rest rest ?_)
    cases hheld : (s.port p).seq.held with
    | none => exact hheld
    | some pos =>
      have mode : (s.port p).ctl.mode = .acquiring := (hports p).2.2.1 (by rw [hheld]; rfl)
      rw [mode] at rest
      cases rest
  | commitPending =>
    exact tallied_act h (mild_onFlags _).keeps (tallied_congr (h _) rfl rfl rfl (mild_onFlags _))
  | idles => exact tallied_setPort h (tallied_settledAt rfl (Sequencer.stop_still _))
  | @opens p row column sec p0 r hidle hfree hr =>
    have port : r.port = p := by rw [hr]; rfl
    have none' := hpool.openRecords_nil_of (p := r.port) (by rw [port, hidle]; rfl)
    obtain ⟨hsame, hother, -⟩ :=
      openWith_records (t := onPort p (PortBlocks.armed s.now r.p0) (onStore (RecordStore.openWith r) s)) rfl hfree none'
    rw [port] at hsame hother
    intro q
    by_cases hq : q = p
    · subst hq
      rw [hsame, onPort_port_same]
      refine ⟨fun _ => ⟨rfl, fun x hx => ?_⟩, fun hm => (by cases hm), fun _ hheld => (by cases hheld)⟩
      rw [List.mem_singleton.mp hx, hr]
      exact ⟨rfl, rfl⟩
    · rw [hother q hq, onPort_port_ne _ hq]
      exact h q
  | enters harmed _ =>
    exact tallied_act h (mild_setGridOrigin _).keeps (entered_tallied harmed (hports _) (h _))
  | takes hmode htakes hgrid hfired _ hf => exact tallied_act h hf.keeps (taken_tallied hmode htakes hgrid hfired hf (h _))
  | misses hmode hgrid hfired _ => exact tallied_act h sound_countMissed.keeps (missed_tallied hmode hgrid hfired (h _))
  | startsHeld hmode hheld => exact tallied_setPort h (startsHeld_tallied hmode hheld (h _))
  | closes _ _ =>
    exact tallied_said h (answers_answerHeld ..) (fun q hq => readied_openRecords_ne (keeps_closedWith _ _ _) hq)
      fun l => tallied_settledAt rfl ⟨rfl, rfl, rfl, rfl, rfl⟩
  | nulled _ _ =>
    exact tallied_said h (answers_answerHeld ..) (fun _ _ => rfl) fun l => tallied_settledAt rfl (Sequencer.stop_still _)
  | faults hend =>
    exact tallied_said h hend.answers (fun q hq => hend.openRecords_ne hq) fun l =>
      tallied_settledAt rfl (Sequencer.stop_still _)
  | disables hend =>
    exact tallied_said h hend.answers (fun q hq => hend.openRecords_ne hq) fun l =>
      tallied_settledAt rfl ⟨rfl, rfl, rfl, rfl, rfl⟩
  | _ => exact h

/-! ### The tally through a command -/

theorem Act.kept (hact : Act s t) (hpool : PoolLaw s) (hports : PortLaw s) : PoolLaw t ∧ PortLaw t :=
  ⟨hact.poolLaw hpool, fun p => (hact.blocks p).lawful (hports p)⟩

theorem Ops.kept (hops : Ops s t) (hpool : PoolLaw s) (hports : PortLaw s) : PoolLaw t ∧ PortLaw t := by
  induction hops with
  | refl => exact ⟨hpool, hports⟩
  | tail _ hop ih => exact Act.kept (.op hop) ih.1 ih.2

theorem Ops.tallied (hops : Ops s t) (hpool : PoolLaw s) (hports : PortLaw s) (h : s.tallied P) : t.tallied P := by
  induction hops with
  | refl => exact h
  | tail hops hop ih => exact hop.tallied (Ops.kept hops hpool hports).1 (Ops.kept hops hpool hports).2 ih

/-- The completion of a scan leaves the part of the tally that step 4 restores. -/
theorem completes_tallied {sc : Scan} {pos : Int} (hscan : (s.port p).seq.scan = some sc) (h : s.tallied fun _ => True) :
    (act p ((s.port p).completed sc pos) sc.noted s).tallied (· ≠ p) :=
  tallied_act (h.mono fun _ _ => trivial) (sound_noted sc).keeps <|
    have done := completed_tallied (pos := pos) hscan (h p)
    ⟨done.armed, done.acquiring, fun hp => absurd rfl hp⟩

/-- Step 4 of a completion holds no start back. -/
theorem nextStart_held (hports : PortLaw s) : ((nextStart p s).port p).seq.held = none := by
  have other : (s.port p).ctl.mode ≠ .acquiring → (s.port p).seq.held = none := fun hne => by
    cases hheld : (s.port p).seq.held with
    | none => rfl
    | some pos => exact absurd ((hports p).2.2.1 (by rw [hheld]; rfl)) hne
  unfold nextStart
  rw [mode_eq]
  cases hmode : (s.port p).ctl.mode with
  | acquiring =>
    dsimp only
    cases hheld : (s.port p).seq.held with
    | none => exact hheld
    | some pos => simp [onSeq, onPort, Sequencer.beginScan, startDistanceScan]
  | nulling | armed =>
    have none' := other (by rw [hmode]; decide)
    dsimp only
    split
    · simp [startTimeScan, onSeq, onPort, Sequencer.beginScan, none']
    · exact none'
  | off | idle | fault => simp [onSeq, onPort]

/-- The laws the tally is kept beside, and the tally. -/
structure Telling (s : State) : Prop where
  pool : PoolLaw s
  ports : PortLaw s
  tally : s.tallied fun _ => True

theorem Ops.telling (hops : Ops s t) (h : Telling s) : Telling t :=
  ⟨(Ops.kept hops h.pool h.ports).1, (Ops.kept hops h.pool h.ports).2, Ops.tallied hops h.pool h.ports h.tally⟩

theorem hold_telling (k : RequestKind) (tag port : Byte) (h : Telling s) : Telling (hold k tag port s) :=
  ⟨h.pool, h.ports, h.tally⟩

/-- An act on a port that leaves its counts. -/
theorem setPort_telling (h : Telling s) (hact : Act s (s.setPort p b)) (hb : b.tallied True (s.openRecords p)) :
    Telling (s.setPort p b) :=
  ⟨(hact.kept h.pool h.ports).1, (hact.kept h.pool h.ports).2, tallied_setPort h.tally hb⟩

theorem resetPart_telling (h : Telling s) : Telling (resetPart s) := by
  obtain ⟨hpool, hports⟩ := Act.kept (.resets (s := s)) h.pool h.ports
  refine ⟨hpool, hports, fun q => ?_⟩
  rw [resetPart_eq, tell_port, onLink_port, onStore_port, resetPorts_port]
  exact tallied_settledAt rfl ⟨rfl, rfl, rfl, rfl, rfl⟩

/-- A scan completed, its consumers served and the next start acted on. -/
theorem completes_telling {sc : Scan} {pos : Int} (hscan : (s.port p).seq.scan = some sc)
    (hconsumed : Ops (act p ((s.port p).completed sc pos) sc.noted s) u) (h : Telling s) : Telling (nextStart p u) := by
  obtain ⟨hpool, hports⟩ := Act.kept (.completes (pos := pos) hscan) h.pool h.ports
  obtain ⟨hpool', hports'⟩ := Ops.kept hconsumed hpool hports
  have others := Ops.tallied (ops_nextStart (p := p)) hpool' hports'
    (Ops.tallied hconsumed hpool hports (completes_tallied (pos := pos) hscan h.tally))
  obtain ⟨hpool'', hports''⟩ := Ops.kept (ops_nextStart (p := p)) hpool' hports'
  refine ⟨hpool'', hports'', fun q => ⟨(others q).armed, (others q).acquiring, fun _ hheld => ?_⟩⟩
  by_cases hq : q = p
  · subst hq
    rw [nextStart_held hports'] at hheld
    cases hheld
  · exact (others q).behind hq hheld

/-- The command that waits longest keeps the tally. -/
theorem Run.telling (hrun : Run s t) (h : Telling s) : Telling t := by
  cases hrun with
  | ops hops => exact hops.telling h
  | completes hscan hconsumed hnext => exact Ops.telling hnext (completes_telling hscan hconsumed h)
  | served _ _ hserved hanswered =>
    exact Ops.telling hanswered (Op.ops (.reply ..) |>.telling (Ops.telling hserved (hold_telling _ _ _ h)))
  | turnedAway _ hanswered =>
    exact Ops.telling hanswered (Op.ops (.reply ..) |>.telling (hold_telling _ _ _ h))
  | nulls _ hidle hrest =>
    refine Ops.telling hrest (setPort_telling (hold_telling _ _ _ h) (.nulls hidle) ?_)
    exact ⟨fun hm => (by cases hm), fun hm => (by cases hm), fun _ _ => rfl⟩
  | @holdsClose _ p _ _ hmode _ hscan hrest =>
    refine Ops.telling hrest (setPort_telling (hold_telling _ _ _ h) (.holdsClose hmode hscan) ?_)
    exact ⟨(h.tally p).armed, (h.tally p).acquiring, (h.tally p).behind⟩
  | @closes u _ p tag _ hmode _ hcloses hrest =>
    have closes : Ops (hold .closeTube tag p.byte s) u := by rw [hcloses]; exact ops_closeToIdle hmode
    exact Ops.telling hrest (closes.telling (hold_telling _ _ _ h))
  | resets _ hrest =>
    exact Ops.telling hrest (resetPart_telling
      (Op.ops (.reply ..) |>.telling (Ops.telling (ops_abortHeld _) (hold_telling _ _ _ h))))

/-! ### The tally at a close -/

/-- The point a close gives up is the one still open (R67). -/
theorem waitingPoint_openPoints (hmode : b.ctl.mode = .acquiring) :
    (if b.waitingPoint.isSome then 1 else 0) = b.seq.openPoints := by
  unfold PortBlocks.waitingPoint Sequencer.openPoints Sequencer.inDistance
  rw [if_pos hmode]
  cases b.seq.scan with
  | none => simp
  | some sc => by_cases hkind : sc.kind = .distance <;> simp [hkind]

/-- At a close the scans taken and the missed triggers are the points fired. -/
theorem closed_tally {r : Record} {g : Grid} (reason : CloseReason) (htally : PortTally s p) (hmode : s.mode p = .acquiring)
    (hopen : s.openRecords p = [r]) (hgrid : (s.port p).travel.grid = some g) :
    ∃ r' ∈ (closeRecord p reason (lostPoint s p) s).readyRecords, r'.number = r.number ∧ r'.closeReason = some reason ∧
      r'.counters.scansTaken + r'.counters.missed = g.next := by
  have keeps := keeps_closedWith (s.port p) (lostPoint s p) reason
  obtain ⟨hscans, hmissed, hreason⟩ := closedWith_tally (s.port p) (lostPoint s p) reason r
  obtain ⟨g', hg', -, hsum⟩ := htally.2 hmode
  obtain rfl : g = g' := Option.some.inj (hgrid.symm.trans hg')
  have sum := hsum r (by rw [hopen]; exact List.mem_singleton_self r)
  refine ⟨r.closedWith (s.port p) (lostPoint s p) reason, ?_, keeps.number r, hreason, ?_⟩
  · rw [closeRecord_some reason _ (openNumber_of_openRecords hopen)]
    unfold State.readyRecords
    rw [(speaks_answerHeld ..).store, tell_store]
    refine (readyRecords_readied keeps s.store.slots).symm.subset (List.mem_append_right _ ?_)
    have mem : r ∈ s.openRecords p := by rw [hopen]; exact List.mem_singleton_self r
    exact List.mem_map_of_mem mem
  · rw [hscans, hmissed, lostPoint_eq, waitingPoint_openPoints hmode]
    omega

/-- Settles O57: the tally of every port through every act, and that of a record at its close. -/
theorem tallyLawKept : Obligations.TallyLawKept := by
  refine ⟨fun s t hpool hports htally hstep => ?_, fun s p reason r g _ _ htally hmode hopen hgrid =>
    closed_tally reason htally hmode hopen hgrid⟩
  have exec : ∀ {c : Instr} {u v : State}, Telling u → exec c u = .next v → Telling v := fun hu hnext => by
    obtain ⟨w, hops, hrun⟩ := exec_run hnext
    exact hrun.telling (hops.telling hu)
  have telling : Telling s := ⟨hpool, hports, (tallyLaw_iff hports).mp htally⟩
  have done : Telling t := by
    unfold step at hstep
    split at hstep
    next c rest _ => exact exec (u := { s with pending := rest }) ⟨hpool, hports, telling.tally⟩ hstep
    next => cases hstep; exact telling
  exact (tallyLaw_iff done.ports).mpr done.tally

end Sys2Proof.Machine

/-! PROOFS. The queue, POWER_ON, the requests turned away and the requests that read (R6, R8, R11, R17, R18, R21, R25, R34,
R126, R134, R142, R146, R147, R153, R163, R184). -/

namespace Sys2Proof.Machine

variable {p q : PortId} {s t u : State} {k : RequestKind} {tag port : Byte} {c : Instr} {body : ReplyBody}

/-! ### Steps and commands -/

/-- Settles O1, by whether the queue holds a command. -/
theorem stepRunsFrontCommand : Obligations.StepRunsFrontCommand := by
  refine ⟨fun c rest s hqueue => ?_, fun s hqueue => ?_⟩
  · unfold step
    rw [hqueue]
  · unfold step
    rw [hqueue]

theorem Speaks.clock {op : State → State} (h : Speaks op) : (op s).pending = s.pending ∧ s.now ≤ (op s).now :=
  ⟨h.pending, h.now.ge⟩

theorem Op.clock (h : Op s t) : t.pending = s.pending ∧ s.now ≤ t.now := by
  cases h with
  | advance time => exact ⟨rfl, Nat.le_max_left ..⟩
  | report r => exact (speaks_report r).clock
  | reply place body => exact (speaks_reply place body).clock
  | refuse => unfold refuseAtOnce; split <;> exact ⟨rfl, le_rfl⟩
  | arbitrate => exact ⟨arbitrate_pending, arbitrate_now.ge⟩
  | closes => exact ⟨said_pending (answers_answerHeld ..), (said_now (answers_answerHeld ..)).ge⟩
  | nulled => exact ⟨said_pending (answers_answerHeld ..), (said_now (answers_answerHeld ..)).ge⟩
  | faults h => exact ⟨said_pending h.answers, (said_now h.answers).ge⟩
  | disables h => exact ⟨said_pending h.answers, (said_now h.answers).ge⟩
  | _ => exact ⟨rfl, le_rfl⟩

theorem Act.clock (h : Act s t) : t.pending = s.pending ∧ s.now ≤ t.now := by
  cases h with
  | op h => exact h.clock
  | resets => rw [resetPart_eq, resetPorts_eq]; exact (speaks_tell _).clock
  | _ => exact ⟨rfl, le_rfl⟩

theorem Acts.clock (h : Acts s t) : t.pending = s.pending ∧ s.now ≤ t.now := by
  induction h with
  | refl => exact ⟨rfl, le_rfl⟩
  | tail _ h ih => exact ⟨h.clock.1.trans ih.1, ih.2.trans h.clock.2⟩

/-- Every command has an outcome: a request by its tests, a byte by the frame it may end, any other event by its work. -/
theorem exists_next (c : Instr) (s : State) : ∃ t, exec c s = .next t := by
  have frame : ∀ content u, ∃ t, endFrame content u = .next t := fun content u => by
    obtain ⟨t, h, -⟩ := endFrame_nextWithDeframer (s := u) (content := content)
    exact ⟨t, h⟩
  have byte : ∀ b u, ∃ t, lineByte b u = .next t := fun b u => by
    unfold lineByte
    split
    · exact ⟨_, rfl⟩
    · exact frame _ _
  cases hrequest : c.request? with
  | some kind =>
    obtain ⟨t, h, -⟩ := runRequest_nextWithDeframer (s := s) (c := c)
    exact ⟨t, by rw [← runRequest_eq_exec (by rw [hrequest]; rfl), h]⟩
  | none =>
    cases c with
    | hostFrameReceived time => exact byte _ _
    | hostLinkByteReceived time b => exact byte _ _
    | _ => first | exact ⟨_, rfl⟩ | cases hrequest

/-- Settles O2: every command has an outcome, and the acts it is made of leave the queue and never turn the clock back. -/
theorem everyCommandCompletes : Obligations.EveryCommandCompletes := by
  intro c s
  obtain ⟨t, hnext⟩ := exists_next c s
  exact ⟨t, hnext, Acts.clock (exec_acts hnext)⟩

/-- Settles O3, block by block: each port is at power-on with its pins as they stood. -/
theorem powerOnBringsUp : Obligations.PowerOnBringsUp := by
  intro s
  have blocks : ∀ p, (powerUp s).port p = (s.port p).powerOnAt := fun p => by cases p <;> rfl
  obtain ⟨hperiods, hslots⟩ := defaultPlan_tables
  refine ⟨_, rfl, fun p => ?_, rfl, rfl, rfl, rfl, rfl, rfl, rfl, rfl, rfl, rfl⟩
  rw [blocks, hperiods, hslots]
  exact ⟨rfl, rfl, rfl, rfl, rfl, rfl, rfl, rfl, rfl⟩

/-! ### A request that is taken -/

/-- What becomes of a request that the link takes. -/
theorem serve_taken {serveRequest : Nat → State → State} (ha : Accepts s c k port) :
    serve c k tag port serveRequest s =
      .next (arbitrate (serveRequest (freePlace s.link.buffer) (hold k tag port s))) := by
  unfold serve claim
  rw [show testRequest k port (Instr.lengthAllowed c) s = none from ha]

theorem serveOnPort_taken {serveRequest : PortId → Nat → State → State} (ha : Accepts s c k p.byte) :
    serveOnPort c k tag p.byte serveRequest s =
      .next (arbitrate (serveRequest p (freePlace s.link.buffer) (hold k tag p.byte s))) := by
  unfold serveOnPort
  rw [serve_taken ha, ofByte?_byte]

/-- The state a request that is taken is served in. -/
theorem taken_readied (ha : Accepts s c k port) :
    Readied s (hold k tag port s) k tag port (freePlace s.link.buffer) := hold_readied (testRequest_room ha)

/-- A request that is answered with nothing else done. -/
theorem onlyAnswers_of_reply (ha : Accepts s c k port)
    (hexec : exec c s = .next (arbitrate (reply (freePlace s.link.buffer) body (hold k tag port s)))) :
    OnlyAnswers s c k tag port body := by
  obtain ⟨l, harb, hanswered, hreports⟩ := (taken_readied (tag := tag) ha).answer body rfl
  refine ⟨_, hexec, ?_, hanswered, hreports, by rw [arbitrate_deframer, reply_deframer]; rfl,
    by rw [arbitrate_counters, reply_counters]; rfl⟩
  rw [harb]
  exact ⟨rfl, rfl, rfl, rfl⟩

/-- A request to no port that only answers. -/
theorem serve_onlyAnswers_taken {serveRequest : Nat → State → State} (ha : Accepts s c k port)
    (hexec : exec c s = serve c k tag port serveRequest s)
    (hserve : serveRequest (freePlace s.link.buffer) (hold k tag port s) =
      reply (freePlace s.link.buffer) body (hold k tag port s)) : OnlyAnswers s c k tag port body :=
  onlyAnswers_of_reply ha (by rw [hexec, serve_taken ha, hserve])

/-- A request to a port that only answers. -/
theorem serveOnPort_onlyAnswers {serveRequest : PortId → Nat → State → State} (ha : Accepts s c k p.byte)
    (hexec : exec c s = serveOnPort c k tag p.byte serveRequest s)
    (hserve : serveRequest p (freePlace s.link.buffer) (hold k tag p.byte s) =
      reply (freePlace s.link.buffer) body (hold k tag p.byte s)) : OnlyAnswers s c k tag p.byte body :=
  onlyAnswers_of_reply ha (by rw [hexec, serveOnPort_taken ha, hserve])

/-! ### Requests turned away -/

theorem not_hasRecord_of {m : PortMode} (h : m ≠ .armed ∧ m ≠ .acquiring) : m.hasRecord = false := by
  obtain ⟨harmed, hacquiring⟩ := h
  cases m <;> first | rfl | contradiction

theorem no_free_slot (h : ∀ slot ∈ s.store.slots, slot ≠ .free) : s.store.slots.any RecordSlot.isFree = false := by
  refine List.any_eq_false.mpr fun slot hslot => ?_
  have taken := h slot hslot
  cases slot with
  | free => exact absurd rfl taken
  | _ => exact Bool.false_ne_true

theorem fetchRequest_absent {number sec first place : Nat} (h : ∀ r ∈ s.records, r.number ≠ number) :
    fetchRequest number sec first place s = reply place (.refused .noSuchRecord none) s := by
  unfold fetchRequest
  rw [slotOf_none h]
  rfl

/-- Settles O9: each request meets the test that turns it away. -/
theorem requestsRefused : Obligations.RequestsRefused := by
  intro s p tag port _
  refine ⟨fun ha hmode => ?_, fun ha hmode => ?_, fun ha hmode => ?_, fun row column sec p0 ha hmode => ?_, fun ha hclose => ?_,
    fun ha hmark => ?_, fun entries ha hmode => ?_, fun row column sec p0 ha hmode hfull => ?_,
    fun number sec first ha habsent => ?_, fun entries ha hmode hlost => ?_, fun entries ha hmode hlost hfull => ?_,
    fun f ha hpending hinvalid => ?_⟩
  · exact serveOnPort_onlyAnswers (serveRequest := enableRequest) ha rfl (if_neg hmode)
  · exact serveOnPort_onlyAnswers (serveRequest := clearRequest) ha rfl (if_neg hmode)
  · exact serveOnPort_onlyAnswers (serveRequest := nullRequest) ha rfl (if_neg hmode)
  · exact serveOnPort_onlyAnswers (serveRequest := openRequest row column sec p0) ha rfl (if_pos hmode)
  · refine serveOnPort_onlyAnswers (serveRequest := closeRequest) ha rfl (if_neg fun h => ?_)
    obtain ⟨hrecord, hhold⟩ := Bool.and_eq_true_iff.mp h
    rcases hclose with hmode | hheld
    · exact Bool.false_ne_true ((not_hasRecord_of hmode).symm.trans hrecord)
    · have open' : (s.port p).seq.closeHold = false := (Bool.not_eq_true' _).mp hhold
      exact Bool.false_ne_true (open'.symm.trans hheld)
  · refine serveOnPort_onlyAnswers (serveRequest := markRequest) ha rfl (if_neg fun h => ?_)
    obtain ⟨hmode, hhold⟩ := h
    rcases hmark with hmode' | hheld
    · exact hmode' hmode
    · exact Bool.false_ne_true (hhold.symm.trans hheld)
  · exact serveOnPort_onlyAnswers (serveRequest := queueRequest entries) ha rfl (if_pos hmode)
  · refine serveOnPort_onlyAnswers (serveRequest := openRequest row column sec p0) ha rfl ?_
    have full : ((hold .openTube tag p.byte s).store.slots.any RecordSlot.isFree) = false := no_free_slot hfull
    exact (if_neg (not_not.mpr hmode)).trans (if_pos (by rw [full, Bool.not_false]))
  · exact serve_onlyAnswers_taken (serveRequest := fetchRequest number sec first) ha rfl (fetchRequest_absent habsent)
  · exact serveOnPort_onlyAnswers (serveRequest := queueRequest entries) ha rfl ((if_neg hmode).trans (if_pos hlost))
  · exact serveOnPort_onlyAnswers (serveRequest := queueRequest entries) ha rfl
      ((if_neg hmode).trans ((if_neg hlost).trans (if_pos hfull)))
  · refine serveOnPort_onlyAnswers (serveRequest := commitRequest) ha rfl ?_
    unfold commitRequest
    rw [if_neg (show ¬ ((hold .planCommit tag p.byte s).port p).plan.pending = true by rw [hold_port, hpending]; decide),
      hold_port, hinvalid]

/-- Settles O10: every section request meets the pending flag first, and so does a second commit. -/
theorem pendingPlanIsLocked : Obligations.PendingPlanIsLocked := by
  intro s p tag _ hpending
  have locked : ∀ {c : Instr} {k : RequestKind} {edit : Plan → Plan} {items : List ClampItem},
      exec c s = serveOnPort c k tag p.byte (editSection edit items) s → Accepts s c k p.byte →
      OnlyAnswers s c k tag p.byte (.refused .planPending none) := fun hexec ha =>
    serveOnPort_onlyAnswers ha hexec (if_pos hpending)
  refine ⟨fun e => locked rfl, fun e => locked rfl, fun e => locked rfl, fun e => locked rfl, fun e => locked rfl,
    fun e => locked rfl, fun e => locked rfl, fun e => locked rfl, fun e => locked rfl, fun e => locked rfl, fun ha => ?_⟩
  exact serveOnPort_onlyAnswers (serveRequest := commitRequest) ha rfl (if_pos hpending)

/-! ### Requests that read -/

theorem shownRuns_eq (n : Nat) (runs : List Nat) :
    shownRuns n runs = runs.mapIdx fun k m => if k < n then m else 0 := by
  unfold shownRuns
  rw [List.mapIdx_eq_zipIdx_map]

theorem take_eq_filterMap {α : Type} (l : List α) (n : Nat) : l.take n = (List.range n).filterMap fun j => l[j]? := by
  induction n with
  | zero => rfl
  | succ n ih =>
    rw [List.take_add_one, ih, List.range_succ, List.filterMap_append]
    exact congrArg (_ ++ ·) (by cases h : l[n]? <;> simp [h])

theorem fetchWindow_eq {α : Type} (first : Nat) (l : List α) : fetchWindow first l = sixteenFrom first l := by
  unfold fetchWindow sixteenFrom
  rw [take_eq_filterMap]
  refine List.filterMap_congr fun j _ => ?_
  rw [List.getElem?_drop, List.getElem?_map, List.getElem?_zipIdx]
  cases l[first + j]? <;> simp

/-- A port has at most one open record (R130). -/
theorem PoolLaw.openRecords_head (hpool : PoolLaw s) (q : PortId) :
    ((s.openNumber q).map fun n => (n, q)).toList = (s.openRecords q).map fun r => (r.number, q) := by
  rw [openNumber_eq]
  cases hmode : (s.port q).ctl.mode.hasRecord with
  | false => rw [hpool.openRecords_nil_of hmode]; rfl
  | true =>
    obtain ⟨r, hopen⟩ := hpool.exists_open hmode
    rw [hopen]
    rfl

theorem openList_eq (hpool : PoolLaw s) :
    openList s = [PortId.a, .b, .c, .d].flatMap fun q => (s.openRecords q).map fun r => (r.number, q) := by
  unfold openList allPorts
  rw [List.filterMap_eq_flatMap_toList]
  exact congrArg (fun f => [PortId.a, .b, .c, .d].flatMap f) (funext hpool.openRecords_head)

/-- The ready order with the port of each record: every number of it names a READY record (R146). -/
theorem readyList_spec (hpool : PoolLaw s) : (readyList s).map Prod.fst = s.store.ready ∧
    ∀ e ∈ readyList s, ∃ r ∈ s.readyRecords, r.number = e.1 ∧ r.port = e.2 := by
  have listed : ∀ n ∈ s.store.ready, ∃ r ∈ s.readyRecords, r.number = n ∧
      ((slotOf s n).bind fun slot => slot.readyRecord.map fun r => (n, r.port)) = some (n, r.port) := fun n hn => by
    obtain ⟨-, -, -, -, -, -, hready⟩ := id hpool
    obtain ⟨r, hr, rfl⟩ := List.mem_map.mp (hready.subset hn)
    exact ⟨r, hr, rfl, by rw [hpool.slotOf_eq (mem_readyRecords_iff.mp hr) rfl]; rfl⟩
  unfold readyList
  constructor
  · rw [List.map_filterMap]
    refine (List.filterMap_congr fun n hn => ?_).trans List.filterMap_some
    obtain ⟨r, -, -, heq⟩ := listed n hn
    rw [heq]
    rfl
  · intro e he
    obtain ⟨n, hn, hen⟩ := List.mem_filterMap.mp he
    obtain ⟨r, hr, hnumber, heq⟩ := listed n hn
    rw [heq] at hen
    cases hen
    exact ⟨r, hr, hnumber, rfl⟩

theorem readSection_eq (b : PortBlocks) (sec copy : Nat) : b.readSection sec copy =
    let w := if copy = 0 then b.plan.staged else b.plan.working
    if sec = 0 then .freq w.freq
      (if copy = 0 then w.freq.map (fun _ => none) else b.seq.periods.map (Option.map fun n => 40000000 / n))
    else if sec = 1 then .slots w.slots
    else if sec = 2 then .cal w.cal
    else if sec = 3 then .mix w.mix
    else if sec = 4 then .detect w.detect
    else if sec = 5 then .landmark w.landmark
    else if sec = 6 then .supports w.supports
    else if sec = 7 then .curve w.curve
    else if sec = 8 then .travel w.travel
    else .stream w.stream := by
  have planPart : ∀ (w : Plan) (periods : Option (List (Option Nat))), sectionContent w periods sec =
      if sec = 0 then .freq w.freq (match periods with
        | some ps => ps.map (Option.map actualFrequency)
        | none => w.freq.map fun _ => none)
      else if sec = 1 then .slots w.slots
      else if sec = 2 then .cal w.cal
      else if sec = 3 then .mix w.mix
      else if sec = 4 then .detect w.detect
      else if sec = 5 then .landmark w.landmark
      else if sec = 6 then .supports w.supports
      else if sec = 7 then .curve w.curve
      else if sec = 8 then .travel w.travel
      else .stream w.stream := fun w periods => by
    match sec with
    | 0 | 1 | 2 | 3 | 4 | 5 | 6 | 7 | 8 => rfl
    | n + 9 => simp [sectionContent]
  unfold PortBlocks.readSection
  split
  · exact planPart ..
  next hcopy =>
    have working : copy ≠ 0 := fun h => hcopy h
    rw [planPart]
    simp only [if_neg working]
    rfl

/-- A fetch of a record of the pool, shown as its slot shows it (R147). -/
theorem fetchRequest_found {slot : RecordSlot} {r shown : Record} {number sec first place : Nat} (hpool : PoolLaw s)
    (hslot : slot ∈ s.store.slots) (hr : slot.record = some r) (hnumber : r.number = number)
    (hshown : slot.fetched = some shown) : fetchRequest number sec first place s =
    reply place (.done (.fetched number (storedFetchSection sec) first (fetchContent shown (storedFetchSection sec) first).2
      (fetchContent shown (storedFetchSection sec) first).1)) s := by
  unfold fetchRequest
  rw [← hnumber, hpool.slotOf_eq hslot hr, Option.bind_some, hshown]
  rfl

/-- While a record is open a fetch shows its lists as they stand. -/
theorem fetched_lists {slot : RecordSlot} {r : Record} (hr : slot.record = some r) : ∃ shown, slot.fetched = some shown ∧
    shown.landmarks = r.landmarks ∧ shown.indications = r.indications ∧ shown.gaps = r.gaps := by
  cases slot with
  | free => cases hr
  | opened _ => cases hr; exact ⟨_, rfl, rfl, rfl, rfl⟩
  | ready _ => cases hr; exact ⟨_, rfl, rfl, rfl, rfl⟩

theorem statusView_eq : statusView s p = {
    mode := (s.port p).ctl.mode, previous := (s.port p).ctl.previous, lastCause := (s.port p).ctl.lastCause,
    fault := (s.port p).ctl.fault,
    runs := (s.port p).ctl.runs.mapIdx (fun k n => if k < (s.port p).seq.slots.length then n else 0),
    closePending := (s.port p).seq.closeHold,
    nullProgress := if s.mode p = .nulling then (s.port p).chan.accum.map NullAccumulation.count else none,
    openRecord := (s.openRecords p).head?.map Record.number, seqNo := (s.port p).seq.seqNo,
    rawTenths := min 300000 ((s.port p).travel.raw / 100).toNat,
    corrected := if s.mode p = .acquiring then (s.port p).travel.lastScan.map (fun l => min 300000 l.corrected.toNat) else none,
    generation := (s.port p).plan.generation, pending := (s.port p).plan.pending, drive := (s.port p).drive.state } := by
  rw [statusView, shownRuns_eq, openNumber_eq]
  rfl

/-- Settles O11: each request answers what its block shows. -/
theorem readsChangeNothing : Obligations.ReadsChangeNothing := by
  intro s p tag port _
  refine ⟨fun ha => ?_, fun ha hoff => ?_, fun sec copy ha => ?_, fun ha => ?_, fun hpool ha => ?_,
    fun number sec first r hpool hr hnumber ha => ?_, fun ha => ?_⟩
  · refine serveOnPort_onlyAnswers (serveRequest := statusRequest) ha rfl ?_
    rw [statusRequest, statusView_eq]
    rfl
  · exact serveOnPort_onlyAnswers (serveRequest := disableRequest) ha rfl (if_pos hoff)
  · refine serveOnPort_onlyAnswers (serveRequest := readRequest sec copy) ha rfl ?_
    rw [readRequest, readSection_eq]
    rfl
  · exact serveOnPort_onlyAnswers (serveRequest := driveStatusRequest) ha rfl rfl
  · obtain ⟨hfst, hports⟩ := readyList_spec hpool
    refine ⟨readyList s, ?_, hfst, hports⟩
    rw [← openList_eq hpool]
    exact serve_onlyAnswers_taken (serveRequest := listRequest) ha rfl rfl
  · obtain ⟨slot, hslot, hrecord⟩ := mem_records_iff.mp hr
    have held : PoolLaw (hold .recordFetch tag port s) := hpool
    have found : ∀ {slot : RecordSlot} {shown : Record}, slot ∈ s.store.slots → slot.record = some r →
        slot.fetched = some shown → OnlyAnswers s (.recordFetch tag port number sec first) .recordFetch tag port
          (.done (.fetched number (storedFetchSection sec) first (fetchContent shown (storedFetchSection sec) first).2
            (fetchContent shown (storedFetchSection sec) first).1)) := fun hslot hrecord hshown =>
      serve_onlyAnswers_taken (serveRequest := fetchRequest number sec first) ha rfl
        (fetchRequest_found held hslot hrecord hnumber hshown)
    obtain ⟨shown, hshown, hlandmarks, hindications, hgaps⟩ := fetched_lists hrecord
    refine ⟨fun hsec hready => ?_, fun hsec hopen => ?_, fun hsec => ?_, fun hsec => ?_, fun hsec => ?_⟩
    · subst hsec
      exact found hready rfl rfl
    · subst hsec
      exact found hopen rfl rfl
    · subst hsec
      rw [← hlandmarks, ← fetchWindow_eq]
      exact found hslot hrecord hshown
    · subst hsec
      rw [← hindications, ← fetchWindow_eq]
      exact found hslot hrecord hshown
    · have stored : storedFetchSection sec = 3 := Nat.min_eq_left hsec
      have answered := found hslot hrecord hshown
      rw [stored] at answered
      rw [← hgaps, ← fetchWindow_eq]
      exact answered
  · refine serve_onlyAnswers_taken (serveRequest := linkStatusRequest) ha rfl ?_
    have length : (hold .linkStatus tag port s).link.buffer.length = s.link.buffer.length + 1 := List.length_append
    rw [linkStatusRequest, linkView, length]
    rfl

end Sys2Proof.Machine

/-! PROOFS. Requests read back from their bytes, the intact frame of a request, and the immediate refusals (R176, R178 to
R180, R188, R189). -/

namespace Sys2Proof.Machine

open Sys2Proof.Wire

variable {s t : State} {c : Instr} {k : RequestKind} {tag port : Byte} {α : Type}

/-! ### Fields read back (R188) -/

section Fields

variable {b : Byte} {bs : List Byte} {i n : Nat} {v : Int}

theorem u8_succ : u8 (b :: bs) (i + 1) = u8 bs i := rfl

theorem u16_succ : u16 (b :: bs) (i + 1) = u16 bs i := rfl

theorem u32_succ : u32 (b :: bs) (i + 1) = u32 bs i := rfl

theorem s16_succ : s16 (b :: bs) (i + 1) = s16 bs i := rfl

theorem u8_field (h : n < 256) : u8 (BitVec.ofNat 8 n :: bs) 0 = n := (BitVec.toNat_ofNat n 8).trans (Nat.mod_eq_of_lt h)

theorem u16_field (h : n < 65536) : u16 (BitVec.ofNat 8 (n / 256) :: BitVec.ofNat 8 n :: bs) 0 = n := by
  show (BitVec.ofNat 8 (n / 256)).toNat * 256 + (BitVec.ofNat 8 n).toNat = n
  rw [BitVec.toNat_ofNat, BitVec.toNat_ofNat]
  omega

theorem u32_field (h : n < 4294967296) : u32 (BitVec.ofNat 8 (n / 65536 / 256) :: BitVec.ofNat 8 (n / 65536) ::
    BitVec.ofNat 8 (n / 256) :: BitVec.ofNat 8 n :: bs) 0 = n := by
  show ((BitVec.ofNat 8 (n / 65536 / 256)).toNat * 256 + (BitVec.ofNat 8 (n / 65536)).toNat) * 65536 +
    ((BitVec.ofNat 8 (n / 256)).toNat * 256 + (BitVec.ofNat 8 n).toNat) = n
  rw [BitVec.toNat_ofNat, BitVec.toNat_ofNat, BitVec.toNat_ofNat, BitVec.toNat_ofNat]
  omega

theorem s16_field (hlow : -32768 ≤ v) (hhigh : v ≤ 32767) :
    s16 (BitVec.ofNat 8 ((v % 65536).toNat / 256) :: BitVec.ofNat 8 (v % 65536).toNat :: bs) 0 = v := by
  unfold s16
  rw [u16_field (by omega)]
  split <;> omega

end Fields

/-! ### Entries and counts -/

/-- Entries of one size, each read back from the bytes that spell it, are read back one after the other. -/
theorem entries_flatMap {size : Nat} {read : List Byte → α} {write : α → List Byte} {l : List α}
    (hwrite : ∀ e ∈ l, (write e).length = size ∧ read (write e) = e) :
    entries size read l.length (l.flatMap write) = some l := by
  induction l with
  | nil => rfl
  | cons e rest ih =>
    obtain ⟨hlength, hread⟩ := hwrite e List.mem_cons_self
    rw [List.flatMap_cons, List.length_cons, entries, if_neg (by rw [List.length_append]; omega), ← hlength, List.drop_left,
      List.take_left, hlength, ih fun x hx => hwrite x (List.mem_cons_of_mem e hx), hread]
    rfl

theorem counted_flatMap {lo hi size : Nat} {read : List Byte → α} {write : α → List Byte} {l : List α}
    (hwrite : ∀ e ∈ l, (write e).length = size ∧ read (write e) = e) (hlo : lo ≤ l.length) (hhi : l.length ≤ hi)
    (hbyte : hi < 256) : counted lo hi size read (w8 l.length ++ l.flatMap write) = some l := by
  have length : (BitVec.ofNat 8 l.length).toNat = l.length := by
    rw [BitVec.toNat_ofNat]
    omega
  show (if lo ≤ (BitVec.ofNat 8 l.length).toNat ∧ (BitVec.ofNat 8 l.length).toNat ≤ hi then
    entries size read (BitVec.ofNat 8 l.length).toNat (l.flatMap write) else none) = _
  rw [length, if_pos ⟨hlo, hhi⟩, entries_flatMap hwrite]

/-! ### Entries and sections read back (R189) -/

theorem readFreq_writeFreq {e : Option Nat} (h : optionWellFormed (fits16 ·) e = true) :
    (writeFreq e).length = 3 ∧ readFreq (writeFreq e) = e := by
  cases e with
  | none => exact ⟨rfl, rfl⟩
  | some v =>
    have fits : v < 65536 := of_decide_eq_true h
    exact ⟨rfl, congrArg some ((u16_succ ..).trans (u16_field fits))⟩

theorem readSlot_writeSlot {e : SlotFields} (h : e.wellFormed = true) :
    (writeSlot e).length = 4 ∧ readSlot (writeSlot e) = e := by
  simp only [SlotFields.wellFormed, Bool.and_eq_true, decide_eq_true_eq] at h
  obtain ⟨⟨⟨hfreq, hmode⟩, hsettle⟩, hintegrate⟩ := h
  refine ⟨rfl, ?_⟩
  simp only [readSlot, writeSlot, w8, List.cons_append, List.nil_append, u8_succ, u8_field, hfreq, hmode, hsettle, hintegrate]

theorem readCal_writeCal {e : CalFields} (h : e.wellFormed = true) : (writeCal e).length = 4 ∧ readCal (writeCal e) = e := by
  simp only [CalFields.wellFormed, Bool.and_eq_true, decide_eq_true_eq] at h
  obtain ⟨hrotation, hgain⟩ := h
  refine ⟨rfl, ?_⟩
  simp only [readCal, writeCal, w16, List.cons_append, List.nil_append, u16_succ, u16_field, hrotation, hgain]

theorem readMix_writeMix {e : Option MixFields} (h : optionWellFormed MixFields.wellFormed e = true) :
    (writeMix e).length = 15 ∧ readMix (writeMix e) = e := by
  cases e with
  | none => exact ⟨rfl, rfl⟩
  | some m =>
    simp only [optionWellFormed, MixFields.wellFormed, fitsSigned, Bool.and_eq_true, decide_eq_true_eq] at h
    obtain ⟨⟨⟨⟨⟨⟨⟨hprimary, hsecondary⟩, hxxLow, hxxHigh⟩, hxyLow, hxyHigh⟩, hyxLow, hyxHigh⟩, hyyLow, hyyHigh⟩, hrotation⟩,
      hgain⟩ := h
    refine ⟨rfl, (if_neg (show ¬ u8 (writeMix (some m)) 0 = 0 by exact Nat.one_ne_zero)).trans (congrArg some ?_)⟩
    simp only [writeMix, wOption, writeMixFields, w8, ws16, w16, List.cons_append, List.nil_append, u8_succ, s16_succ,
      u16_succ, u8_field, s16_field, u16_field, hprimary, hsecondary, hxxLow, hxxHigh, hxyLow, hxyHigh, hyxLow, hyxHigh,
      hyyLow, hyyHigh, hrotation, hgain]

theorem readDetect_writeDetect {f : DetectFields} (h : f.wellFormed = true) :
    (writeDetect f).length = 18 ∧ readDetect (writeDetect f) = f := by
  simp only [DetectFields.wellFormed, Bool.and_eq_true, decide_eq_true_eq] at h
  obtain ⟨⟨⟨⟨⟨⟨⟨hchannel, hopen⟩, hclose⟩, hquiet⟩, hlong⟩, hsmall⟩, hlow⟩, hhigh⟩ := h
  refine ⟨rfl, ?_⟩
  simp only [readDetect, writeDetect, w8, w16, w32, List.cons_append, List.nil_append, u8_succ, u16_succ, u32_succ, u8_field,
    u16_field, u32_field, hchannel, hopen, hclose, hquiet, hlong, hsmall, hlow, hhigh]

theorem readLandmark_writeLandmark {f : LandmarkFields} (h : f.wellFormed = true) :
    (writeLandmark f).length = 13 ∧ readLandmark (writeLandmark f) = f := by
  simp only [LandmarkFields.wellFormed, Bool.and_eq_true, decide_eq_true_eq] at h
  obtain ⟨⟨⟨⟨⟨⟨hchannel, hopen⟩, hclose⟩, hquiet⟩, hauto⟩, htolerance⟩, hexit⟩ := h
  refine ⟨rfl, ?_⟩
  simp only [readLandmark, writeLandmark, w8, w16, w32, List.cons_append, List.nil_append, u8_succ, u16_succ, u32_succ,
    u8_field, u16_field, u32_field, hchannel, hopen, hclose, hquiet, hauto, htolerance, hexit]

theorem readPoint_writePoint {e : CurvePoint} (h : e.wellFormed = true) :
    (writePoint e).length = 3 ∧ readPoint (writePoint e) = e := by
  simp only [CurvePoint.wellFormed, Bool.and_eq_true, decide_eq_true_eq] at h
  obtain ⟨hphase, hdepth⟩ := h
  refine ⟨rfl, ?_⟩
  simp only [readPoint, writePoint, w8, w16, List.cons_append, List.nil_append, u8_succ, u8_field, u16_field, hphase,
    hdepth]

theorem readTravel_writeTravel {f : TravelFields} (h : f.wellFormed = true) :
    (writeTravel f).length = 13 ∧ readTravel (writeTravel f) = f := by
  simp only [TravelFields.wellFormed, Bool.and_eq_true, decide_eq_true_eq] at h
  obtain ⟨⟨⟨⟨⟨⟨hstep, hscale⟩, hsense⟩, hstart⟩, hperiod⟩, hdeglitch⟩, hguard⟩ := h
  refine ⟨rfl, ?_⟩
  simp only [readTravel, writeTravel, w8, w16, w32, List.cons_append, List.nil_append, u8_succ, u16_succ, u32_succ, u8_field,
    u16_field, u32_field, hstep, hscale, hsense, hstart, hperiod, hdeglitch, hguard]

theorem readMove_writeMove {e : MoveFields} (h : e.wellFormed = true) :
    (writeMove e).length = 8 ∧ readMove (writeMove e) = e := by
  simp only [MoveFields.wellFormed, Bool.and_eq_true, decide_eq_true_eq] at h
  obtain ⟨⟨⟨hdirection, hend⟩, hspeed⟩, hdistance⟩ := h
  refine ⟨rfl, ?_⟩
  simp only [readMove, writeMove, w8, w16, w32, List.cons_append, List.nil_append, u8_succ, u16_succ, u32_succ, u8_field,
    u16_field, u32_field, hdirection, hend, hspeed, hdistance]

theorem u32_w32 {n : Nat} (h : fits32 n = true) : (w32 n).length = 4 ∧ u32 (w32 n) 0 = n :=
  ⟨rfl, u32_field (of_decide_eq_true h)⟩

theorem flatMap_w8 (l : List Nat) : l.flatMap w8 = l.map (BitVec.ofNat 8) := by
  induction l with
  | nil => rfl
  | cons n rest ih => rw [List.flatMap_cons, ih]; rfl

theorem u8_append {as bs : List Byte} {i : Nat} : u8 (as ++ bs) (as.length + i) = u8 bs i := by
  unfold u8
  rw [List.getD_append_right _ _ _ _ (Nat.le_add_right _ _), Nat.add_sub_cancel_left]

theorem readStream_writeStream {f : StreamFields} (h : f.wellFormed = true) : readStream (writeStream f) = some f := by
  simp only [StreamFields.wellFormed, Bool.and_eq_true, decide_eq_true_eq, List.all_eq_true] at h
  obtain ⟨⟨⟨hlength, hchannels⟩, hdecimation⟩, hwidth⟩ := h
  have count : (BitVec.ofNat 8 f.channels.length).toNat = f.channels.length := by
    rw [BitVec.toNat_ofNat]
    omega
  have channels : (f.channels.map (BitVec.ofNat 8)).map BitVec.toNat = f.channels := by
    rw [List.map_map]
    refine List.map_congr_left (fun n hn => ?_) |>.trans (List.map_id _)
    exact (BitVec.toNat_ofNat n 8).trans (Nat.mod_eq_of_lt (hchannels n hn))
  have written : writeStream f = BitVec.ofNat 8 f.channels.length ::
      (f.channels.map (BitVec.ofNat 8) ++ (w8 f.decimation ++ w8 f.width)) := by
    rw [writeStream, flatMap_w8]
    simp [w8]
  have bytes : (f.channels.map (BitVec.ofNat 8)).length = f.channels.length := List.length_map _
  have decimation := u8_append (as := f.channels.map (BitVec.ofNat 8)) (bs := w8 f.decimation ++ w8 f.width) (i := 0)
  have width := u8_append (as := f.channels.map (BitVec.ofNat 8)) (bs := w8 f.decimation ++ w8 f.width) (i := 1)
  rw [bytes] at decimation width
  rw [written, readStream, count, if_pos ⟨hlength, by simp [w8]⟩, ← bytes, List.take_left, channels, bytes]
  rw [Nat.add_zero] at decimation
  rw [decimation, width, show u8 (w8 f.decimation ++ w8 f.width) 0 = _ from u8_field hdecimation,
    show u8 (w8 f.decimation ++ w8 f.width) 1 = _ from (u8_succ ..).trans (u8_field hwidth)]

/-! ### Requests read back -/

theorem whenLength_eq {n : Nat} {b : List Byte} (h : b.length = n) (i : Instr) : whenLength n i b = some i := if_pos h

/-- A well-formed request is read back from its payload, by its kind. -/
theorem parsePayload_encodePayload (h : c.wellFormed = true) (hrequest : c.request? = some (k, tag, port)) :
    parsePayload k tag port (encodePayload c) = some c := by
  cases c with
  | planFreq t p e =>
    cases hrequest
    simp only [Instr.wellFormed, Bool.and_eq_true, decide_eq_true_eq, List.all_eq_true] at h
    obtain ⟨hlength, hall⟩ := h
    exact congrArg (Option.map _) (hlength ▸ entries_flatMap fun e he => readFreq_writeFreq (hall e he))
  | planSlots t p e =>
    cases hrequest
    simp only [Instr.wellFormed, Bool.and_eq_true, decide_eq_true_eq, List.all_eq_true] at h
    obtain ⟨⟨hlo, hhi⟩, hall⟩ := h
    exact congrArg (Option.map _) (counted_flatMap (fun e he => readSlot_writeSlot (hall e he)) hlo hhi (by decide))
  | planCal t p e =>
    cases hrequest
    simp only [Instr.wellFormed, Bool.and_eq_true, decide_eq_true_eq, List.all_eq_true] at h
    obtain ⟨hlength, hall⟩ := h
    exact congrArg (Option.map _) (hlength ▸ entries_flatMap fun e he => readCal_writeCal (hall e he))
  | planMix t p e =>
    cases hrequest
    simp only [Instr.wellFormed, Bool.and_eq_true, decide_eq_true_eq, List.all_eq_true] at h
    obtain ⟨hlength, hall⟩ := h
    exact congrArg (Option.map _) (hlength ▸ entries_flatMap fun e he => readMix_writeMix (hall e he))
  | planDetect t p f =>
    cases hrequest
    obtain ⟨hlength, hread⟩ := readDetect_writeDetect h
    exact (whenLength_eq hlength _).trans (by rw [encodePayload, hread])
  | planLandmark t p f =>
    cases hrequest
    obtain ⟨hlength, hread⟩ := readLandmark_writeLandmark h
    exact (whenLength_eq hlength _).trans (by rw [encodePayload, hread])
  | planSupports t p e =>
    cases hrequest
    simp only [Instr.wellFormed, Bool.and_eq_true, decide_eq_true_eq, List.all_eq_true] at h
    obtain ⟨hhi, hall⟩ := h
    exact congrArg (Option.map _)
      (counted_flatMap (fun e he => u32_w32 (decide_eq_true (hall e he))) (Nat.zero_le _) hhi (by decide))
  | planCurve t p e =>
    cases hrequest
    simp only [Instr.wellFormed, Bool.and_eq_true, decide_eq_true_eq, List.all_eq_true] at h
    obtain ⟨hhi, hall⟩ := h
    exact congrArg (Option.map _)
      (counted_flatMap (fun e he => readPoint_writePoint (hall e he)) (Nat.zero_le _) hhi (by decide))
  | planTravel t p f =>
    cases hrequest
    obtain ⟨hlength, hread⟩ := readTravel_writeTravel h
    exact (whenLength_eq hlength _).trans (by rw [encodePayload, hread])
  | planStream t p f =>
    cases hrequest
    exact congrArg (Option.map _) (readStream_writeStream h)
  | planRead t p sec copy =>
    cases hrequest
    simp only [Instr.wellFormed, Bool.and_eq_true, decide_eq_true_eq] at h
    obtain ⟨hsec, hcopy⟩ := h
    refine (whenLength_eq rfl _).trans ?_
    simp only [encodePayload, w8, List.cons_append, List.nil_append, u8_succ, u8_field, hsec, hcopy]
  | openTube t p row column sec p0 =>
    cases hrequest
    simp only [Instr.wellFormed, Bool.and_eq_true, decide_eq_true_eq] at h
    obtain ⟨⟨⟨hrow, hcolumn⟩, hsec⟩, hp0⟩ := h
    refine (whenLength_eq rfl _).trans ?_
    simp only [encodePayload, w8, w16, w32, List.cons_append, List.nil_append, u8_succ, u16_succ, u32_succ, u8_field,
      u16_field, u32_field, hrow, hcolumn, hsec, hp0]
  | recordFetch t p number sec first =>
    cases hrequest
    simp only [Instr.wellFormed, Bool.and_eq_true, decide_eq_true_eq] at h
    obtain ⟨⟨hnumber, hsec⟩, hfirst⟩ := h
    refine (whenLength_eq rfl _).trans ?_
    simp only [encodePayload, w8, w16, List.cons_append, List.nil_append, u8_succ, u8_field, u16_field, hnumber, hsec, hfirst]
  | recordRelease t p number =>
    cases hrequest
    refine (whenLength_eq rfl _).trans (congrArg (fun n => some (Instr.recordRelease _ _ n)) ?_)
    exact u16_field (of_decide_eq_true h)
  | driveQueue t p e =>
    cases hrequest
    simp only [Instr.wellFormed, Bool.and_eq_true, decide_eq_true_eq, List.all_eq_true] at h
    obtain ⟨⟨hlo, hhi⟩, hall⟩ := h
    exact congrArg (Option.map _) (counted_flatMap (fun e he => readMove_writeMove (hall e he)) hlo hhi (by decide))
  | _ => cases hrequest <;> rfl

/-! ### Escaped content read back (R176) -/

theorem unescaped_cons {b : Byte} (hescape : b ≠ escapeByte) (hdelimiter : b ≠ delimiter) (rest : List LineByte) :
    unescaped (.byte b :: rest) = (unescaped rest).map (b :: ·) := by
  cases rest with
  | nil => simp [unescaped, hescape, hdelimiter]
  | cons c rest => simp [unescaped, hescape, hdelimiter]

theorem unescaped_escaped (content : List Byte) : unescaped ((escaped content).map .byte) = some content := by
  induction content with
  | nil => rfl
  | cons b rest ih =>
    have cons : escaped (b :: rest) = (if b = delimiter then [escapeByte, 0x5E#8] else if b = escapeByte then
      [escapeByte, 0x5D#8] else [b]) ++ escaped rest := List.flatMap_cons
    rw [cons]
    by_cases hdelimiter : b = delimiter
    · subst hdelimiter
      have ended : unescaped (.byte escapeByte :: .byte 0x5E#8 :: (escaped rest).map .byte) =
          (unescaped ((escaped rest).map .byte)).map (delimiter :: ·) := rfl
      exact ended.trans (by rw [ih]; rfl)
    · by_cases hescape : b = escapeByte
      · subst hescape
        have ended : unescaped (.byte escapeByte :: .byte 0x5D#8 :: (escaped rest).map .byte) =
            (unescaped ((escaped rest).map .byte)).map (escapeByte :: ·) := rfl
        exact ended.trans (by rw [ih]; rfl)
      · rw [if_neg hdelimiter, if_neg hescape]
        exact (unescaped_cons hescape hdelimiter _).trans (congrArg (Option.map (b :: ·)) ih)

theorem delimiter_not_escaped (content : List Byte) : delimiter ∉ escaped content := by
  intro h
  obtain ⟨b, -, hb⟩ := List.mem_flatMap.mp h
  split at hb
  · exact absurd hb (by decide)
  · split at hb
    · exact absurd hb (by decide)
    · exact absurd (List.mem_singleton.mp hb).symm ‹_›

/-- Settles O4, by the kind of the request and byte by byte. -/
theorem requestsReadBack : Obligations.RequestsReadBack :=
  ⟨fun _ k _ _ h hrequest => ⟨Laws.Codes.ofCode_code k, parsePayload_encodePayload h hrequest⟩, fun content =>
    ⟨unescaped_escaped content, delimiter_not_escaped content⟩⟩

end Sys2Proof.Machine

/-! PROOFS. The intact frame of a request and the immediate refusals (R176, R178 to R180). -/

namespace Sys2Proof.Machine

open Sys2Proof.Wire

variable {s t u : State} {c : Instr} {k : RequestKind} {kind tag port : Byte} {payload b : List Byte} {α : Type}

/-! ### The content of a frame (R176, R178) -/

theorem length_w16 (n : Nat) : (w16 n).length = 2 := rfl

theorem u16_append {as bs : List Byte} {i : Nat} : u16 (as ++ bs) (as.length + i) = u16 bs i := by
  unfold u16
  rw [u8_append, Nat.add_assoc, u8_append]

/-- The content of a frame ahead of its CRC. -/
def frameBody (kind tag port : Byte) (payload : List Byte) : List Byte := [kind, tag, port] ++ w16 payload.length ++ payload

theorem frameBody_length : (frameBody kind tag port payload).length = payload.length + 5 := by
  rw [frameBody, List.length_append, List.length_append, length_w16]
  exact Nat.add_comm ..

theorem frameContent_length : (frameContent kind tag port payload).length = payload.length + 7 := by
  show (frameBody kind tag port payload ++ w16 _).length = _
  rw [List.length_append, length_w16, frameBody_length]

/-- The content that spells a kind, a tag, a port byte and a payload passes the checks as just these. -/
theorem checkFrame_frameContent (hlength : payload.length < 65536) :
    checkFrame (frameContent kind tag port payload) = .intact kind tag port payload := by
  have content : frameContent kind tag port payload =
      frameBody kind tag port payload ++ w16 (crc16 (frameBody kind tag port payload)).toNat := rfl
  have behind : (frameContent kind tag port payload).length - 2 = (frameBody kind tag port payload).length := by
    rw [frameContent_length, frameBody_length]
    omega
  have crc : (crc16 ((frameContent kind tag port payload).take ((frameContent kind tag port payload).length - 2))).toNat =
      u16 (frameContent kind tag port payload) ((frameContent kind tag port payload).length - 2) := by
    have field := u16_append (as := frameBody kind tag port payload)
      (bs := w16 (crc16 (frameBody kind tag port payload)).toNat) (i := 0)
    rw [behind, content, List.take_left]
    exact (field.trans (u16_field (crc16 (frameBody kind tag port payload)).isLt)).symm
  have count : u16 (frameContent kind tag port payload) 3 = (frameContent kind tag port payload).length - 7 := by
    rw [frameContent_length, Nat.add_sub_cancel]
    exact u16_field (bs := payload ++ w16 (crc16 (frameBody kind tag port payload)).toNat) hlength
  have carried : ((frameContent kind tag port payload).drop 5).take ((frameContent kind tag port payload).length - 7) =
      payload := by
    rw [frameContent_length, Nat.add_sub_cancel]
    exact List.take_left
  rw [checkFrame_intact (by rw [frameContent_length]; omega) crc count, carried]
  rfl

theorem length_flatMap_le {write : α → List Byte} {n : Nat} {l : List α} (h : ∀ e ∈ l, (write e).length ≤ n) :
    (l.flatMap write).length ≤ l.length * n := by
  induction l with
  | nil => exact Nat.zero_le _
  | cons e rest ih =>
    have head := h e List.mem_cons_self
    have tail := ih fun x hx => h x (List.mem_cons_of_mem e hx)
    rw [List.flatMap_cons, List.length_append, List.length_cons, Nat.succ_mul]
    omega

/-- No well-formed request has a payload beyond the two bytes of its length. -/
theorem encodePayload_length (h : c.wellFormed = true) : (encodePayload c).length < 65536 := by
  have list : ∀ {α : Type} {write : α → List Byte} {n : Nat} {l : List α}, (∀ e ∈ l, (write e).length ≤ n) → n ≤ 15 →
      l.length ≤ 24 → (l.flatMap write).length ≤ 24 * 15 := fun hwrite hn hl =>
    (length_flatMap_le hwrite).trans (Nat.mul_le_mul hl hn)
  have counted' : ∀ {α : Type} {write : α → List Byte} {n m : Nat} {l : List α}, (∀ e ∈ l, (write e).length ≤ n) → n ≤ 15 →
      l.length ≤ 24 → (w8 m ++ l.flatMap write).length < 65536 := fun hwrite hn hl => by
    have length := list hwrite hn hl
    rw [List.length_append]
    exact lt_of_le_of_lt (Nat.add_le_add_left length 1) (by decide)
  have listed : ∀ {α : Type} {write : α → List Byte} {n : Nat} {l : List α}, (∀ e ∈ l, (write e).length ≤ n) → n ≤ 15 →
      l.length ≤ 24 → (l.flatMap write).length < 65536 := fun hwrite hn hl => lt_of_le_of_lt (list hwrite hn hl) (by decide)
  have optional : ∀ {α : Type} {write : α → List Byte} {n : Nat}, (∀ v, (write v).length = n) → ∀ e : Option α,
      (wOption n write e).length ≤ n + 1 := fun hwrite e => by
    cases e with
    | none => simp [wOption, w8]
    | some v => rw [wOption, List.length_append, hwrite v]; exact (Nat.add_comm 1 _).le
  cases c with
  | planFreq t p e =>
    simp only [Instr.wellFormed, Bool.and_eq_true, decide_eq_true_eq] at h
    exact listed (write := writeFreq) (n := 3) (fun e _ => optional (write := w16) (fun _ => rfl) e) (by decide) (by omega)
  | planSlots t p e =>
    simp only [Instr.wellFormed, Bool.and_eq_true, decide_eq_true_eq] at h
    exact counted' (fun e _ => le_refl 4) (by decide) (by omega)
  | planCal t p e =>
    simp only [Instr.wellFormed, Bool.and_eq_true, decide_eq_true_eq] at h
    exact listed (fun e _ => le_refl 4) (by decide) (by omega)
  | planMix t p e =>
    simp only [Instr.wellFormed, Bool.and_eq_true, decide_eq_true_eq] at h
    exact listed (write := writeMix) (n := 15) (fun e _ => optional (write := writeMixFields) (fun _ => rfl) e) (by decide)
      (by omega)
  | planSupports t p e =>
    simp only [Instr.wellFormed, Bool.and_eq_true, decide_eq_true_eq] at h
    exact counted' (fun e _ => le_refl 4) (by decide) (by omega)
  | planCurve t p e =>
    simp only [Instr.wellFormed, Bool.and_eq_true, decide_eq_true_eq] at h
    exact counted' (fun e _ => le_refl 3) (by decide) (by omega)
  | planStream t p f =>
    simp only [Instr.wellFormed, StreamFields.wellFormed, Bool.and_eq_true, decide_eq_true_eq] at h
    have length : (encodePayload (.planStream t p f)).length = f.channels.length + 3 := by
      show (w8 _ ++ f.channels.flatMap w8 ++ w8 _ ++ w8 _).length = _
      rw [flatMap_w8]
      simp [w8]
    omega
  | driveQueue t p e =>
    simp only [Instr.wellFormed, Bool.and_eq_true, decide_eq_true_eq] at h
    exact counted' (fun e _ => le_refl 8) (by decide) (by omega)
  | planDetect | planLandmark | planTravel | planRead | openTube | recordFetch | recordRelease =>
    exact of_decide_eq_true rfl
  | _ => exact Nat.zero_lt_succ _

/-! ### The intact frame of a request (R178 to R180) -/

/-- The delimiter behind the content of a frame hands on what the frame carries. -/
theorem lineByte_frameContent (hlength : payload.length < 65536)
    (hd : s.link.deframer = { state := .inFrame, content := frameContent kind tag port payload }) :
    lineByte (.byte 0x7E) s = takeFrame kind tag port payload (setDeframer .inFrame [] s) := by
  have filled : frameContent kind tag port payload ≠ [] := fun h => by
    have length := frameContent_length (kind := kind) (tag := tag) (port := port) (payload := payload)
    rw [h] at length
    cases length
  rw [lineByte_endsFrame filled hd, endFrame_intact (checkFrame_frameContent hlength)]

/-- Settles O5: the frame passes its checks, its payload is read back, and what it spells is carried out. -/
theorem intactFrameIsHandedOn : Obligations.IntactFrameIsHandedOn := by
  intro s time c content hformed hcontent hd received
  obtain ⟨⟨k, tag, port⟩, hrequest, rfl⟩ := Option.map_eq_some_iff.mp hcontent
  have frame : lineByte (.byte 0x7E) (advance time s) = exec c received := by
    rw [lineByte_frameContent (s := advance time s) (encodePayload_length hformed) hd]
    exact takeFrame_eq_exec (Laws.Codes.ofCode_code k) (parsePayload_encodePayload hformed hrequest) (by rw [hrequest]; rfl)
  exact ⟨frame, frame⟩

/-! ### What a payload spells (R179, R189) -/

theorem entries_length {size : Nat} {read : List Byte → α} {n : Nat} {l : List α} (h : entries size read n b = some l) :
    l.length = n := by
  induction n generalizing b l with
  | zero =>
    unfold entries at h
    split at h
    · cases h; rfl
    · cases h
  | succ n ih =>
    unfold entries at h
    split at h
    · cases h
    · obtain ⟨rest, hrest, rfl⟩ := Option.map_eq_some_iff.mp h
      exact congrArg (· + 1) (ih hrest)

theorem counted_length {lo hi size : Nat} {read : List Byte → α} {l : List α} (h : counted lo hi size read b = some l) :
    lo ≤ l.length ∧ l.length ≤ hi := by
  cases b with
  | nil => cases h
  | cons n rest =>
    by_cases hn : lo ≤ n.toNat ∧ n.toNat ≤ hi
    · rw [counted, if_pos hn] at h
      rw [entries_length h]
      exact hn
    · rw [counted, if_neg hn] at h
      cases h

theorem readStream_length {f : StreamFields} (h : readStream b = some f) : f.channels.length ≤ 8 := by
  cases b with
  | nil => cases h
  | cons n rest =>
    by_cases hn : n.toNat ≤ 8 ∧ rest.length = n.toNat + 2
    · rw [readStream, if_pos hn] at h
      cases h
      rw [List.length_map, List.length_take]
      exact (Nat.min_le_left ..).trans hn.1
    · rw [readStream, if_neg hn] at h
      cases h

theorem whenEmpty_some {i : Instr} (h : whenEmpty i b = some c) : c = i := by
  unfold whenEmpty at h
  split at h <;> cases h
  rfl

theorem whenLength_some {n : Nat} {i : Instr} (h : whenLength n i b = some c) : c = i := by
  unfold whenLength at h
  split at h <;> cases h
  rfl

/-- What a payload spells is a request of its kind, tag and port byte, with counts that R179 allows. -/
theorem parsePayload_some (h : parsePayload k tag port b = some c) :
    c.request? = some (k, tag, port) ∧ Instr.lengthAllowed c = true := by
  cases k with
  | planFreq | planCal | planMix =>
    obtain ⟨l, hl, rfl⟩ := Option.map_eq_some_iff.mp h
    exact ⟨rfl, decide_eq_true (entries_length hl)⟩
  | planSlots | driveQueue =>
    obtain ⟨l, hl, rfl⟩ := Option.map_eq_some_iff.mp h
    obtain ⟨hlo, hhi⟩ := counted_length hl
    exact ⟨rfl, Bool.and_eq_true_iff.mpr ⟨decide_eq_true hlo, decide_eq_true hhi⟩⟩
  | planSupports | planCurve =>
    obtain ⟨l, hl, rfl⟩ := Option.map_eq_some_iff.mp h
    exact ⟨rfl, decide_eq_true (counted_length hl).2⟩
  | planStream =>
    obtain ⟨f, hf, rfl⟩ := Option.map_eq_some_iff.mp h
    exact ⟨rfl, decide_eq_true (readStream_length hf)⟩
  | planDetect | planLandmark | planTravel | planRead | openTube | recordFetch | recordRelease =>
    rw [whenLength_some h]
    exact ⟨rfl, rfl⟩
  | _ =>
    rw [whenEmpty_some h]
    exact ⟨rfl, rfl⟩

theorem code_of_ofCode (h : RequestKind.ofCode kind = some k) : k.code = kind := by
  unfold RequestKind.ofCode at h
  split at h
  case h_30 => cases h
  all_goals
    cases h
    exact BitVec.eq_of_toNat_eq (Eq.symm ‹_›)

/-! ### Immediate refusals (R179) -/

/-- Every request is served as its kind, its tag and its port byte say. -/
theorem exists_serve (h : c.request? = some (k, tag, port)) : ∃ body, exec c s = serve c k tag port body s := by
  cases c <;> cases h <;> exact ⟨_, rfl⟩

theorem serve_refused {body : Nat → State → State} {code : RefusalCode}
    (h : testRequest k port (Instr.lengthAllowed c) s = some code) :
    serve c k tag port body s = .next (arbitrate (refuseAtOnce code k.code tag port s)) := by
  unfold serve claim
  rw [h]

theorem testRequest_eq (k : RequestKind) (port : Byte) (ok : Bool) (s : State) : testRequest k port ok s =
    if k.actsOnPort = true ∧ 3 < port.toNat then some .badPort
    else if ok = false then some .badLength
    else if 8 ≤ s.link.buffer.length then some .busy else none := by
  unfold testRequest
  simp only [Bool.and_eq_true, decide_eq_true_eq, Bool.not_eq_true']
  rfl

/-- What an immediate refusal leaves: one reply, or at eight of them the count of those not sent. -/
theorem refuseAtOnce_spec (code : RefusalCode) :
    let t := arbitrate (refuseAtOnce code kind tag port s)
    (t.ports = s.ports ∧ t.store = s.store ∧ t.pending = s.pending ∧ t.unsentReports = s.unsentReports ∧
      (refusalsWaiting s.link < 8 → t.link.counters = s.link.counters ∧
        t.unsentReplies = s.unsentReplies ++
          [{ place := none, kind := kind, tag := tag, port := port, body := .refused code none }]) ∧
      (8 ≤ refusalsWaiting s.link → t.unsentReplies = s.unsentReplies ∧
        t.link.counters = { s.link.counters with refusalsNotSent := satInc s.link.counters.refusalsNotSent })) ∧
    t.now = s.now ∧ t.link.deframer = s.link.deframer := by
  by_cases hroom : refusalsWaiting s.link < 8
  · have refused : refuseAtOnce code kind tag port s = onLink (fun l => { l with replies := l.replies ++
        [{ place := none, kind := kind, tag := tag, port := port, body := .refused code none }] }) s := if_pos hroom
    have waiting : (refuseAtOnce code kind tag port s).link.replies ≠ [] := by rw [refused]; simp
    obtain ⟨l, harb, hdeframer, hcounters⟩ := arbitrate_link_only (.inr (.inl waiting))
    dsimp only
    refine ⟨⟨?_, ?_, ?_, ?_, fun _ => ⟨?_, ?_⟩, fun hfull => absurd hroom hfull.not_gt⟩, ?_, ?_⟩
    · rw [harb, refused]; rfl
    · rw [harb, refused]; rfl
    · rw [harb, refused]; rfl
    · rw [arbitrate_unsentReports, refused]; rfl
    · rw [arbitrate_counters, refused]; rfl
    · rw [arbitrate_unsentReplies, refused]
      exact (List.append_assoc ..).symm
    · rw [harb, refused]; rfl
    · rw [arbitrate_deframer, refused]; rfl
  · have refused : refuseAtOnce code kind tag port s = onCounters LinkCounters.countNotSent s := if_neg hroom
    have waiting : (refuseAtOnce code kind tag port s).link.replies ≠ [] := fun hnone => by
      have replies : s.link.replies = [] := by rw [refused] at hnone; exact hnone
      rw [refusalsWaiting, replies] at hroom
      exact hroom (by decide)
    obtain ⟨l, harb, hdeframer, hcounters⟩ := arbitrate_link_only (.inr (.inl waiting))
    dsimp only
    refine ⟨⟨?_, ?_, ?_, ?_, fun h => absurd h hroom, fun _ => ⟨?_, ?_⟩⟩, ?_, ?_⟩
    · rw [harb, refused]; rfl
    · rw [harb, refused]; rfl
    · rw [harb, refused]; rfl
    · rw [arbitrate_unsentReports, refused]; rfl
    · rw [arbitrate_unsentReplies, refused]; rfl
    · rw [arbitrate_counters, refused]; rfl
    · rw [harb, refused]; rfl
    · rw [arbitrate_deframer, refused]; rfl

/-- An intact frame whose kind, port byte, payload or moment does not pass the tests is refused at once. -/
theorem takeFrame_refused {code : RefusalCode}
    (h : (match RequestKind.ofCode kind with
      | none => some RefusalCode.unknownRequest
      | some k =>
        if k.actsOnPort = true ∧ 3 < port.toNat then some .badPort
        else if parsePayload k tag port payload = none then some .badLength
        else if 8 ≤ s.link.buffer.length then some .busy else none) = some code) :
    takeFrame kind tag port payload s = .next (arbitrate (refuseAtOnce code kind tag port s)) := by
  unfold takeFrame
  cases hkind : RequestKind.ofCode kind with
  | none =>
    rw [hkind] at h
    cases h
    rfl
  | some k =>
    rw [hkind] at h
    dsimp only at h ⊢
    cases hparse : parsePayload k tag port payload with
    | none =>
      rw [if_pos hparse] at h
      have test : testRequest k port false s = some code := by rw [testRequest_eq, if_pos rfl]; exact h
      simp only [refuseUnread, test, code_of_ofCode hkind]
    | some c =>
      obtain ⟨hrequest, hallowed⟩ := parsePayload_some hparse
      rw [hparse, if_neg (show ¬ (some c = none) from nofun)] at h
      have test : testRequest k port (Instr.lengthAllowed c) s = some code := by
        rw [testRequest_eq, hallowed, if_neg (show ¬ (true = false) from nofun)]
        exact h
      obtain ⟨body, hserve⟩ := exists_serve (s := s) hrequest
      dsimp only
      rw [runRequest_eq_exec (by rw [hrequest]; rfl), hserve, serve_refused test, code_of_ofCode hkind]

/-- Settles O8, for a command by its tests and for a frame by what it spells. -/
theorem refusedAtOnce : Obligations.RefusedAtOnce := by
  refine ⟨fun s c k tag port code hrequest hcode => ?_, fun s time kind tag port payload code hlength hd hcode => ?_⟩
  · rw [← testRequest_eq] at hcode
    obtain ⟨body, hserve⟩ := exists_serve (s := s) hrequest
    exact ⟨_, hserve.trans (serve_refused hcode), refuseAtOnce_spec code⟩
  · have frame : exec (.hostFrameReceived time) s =
        .next (arbitrate (refuseAtOnce code kind tag port (setDeframer .inFrame [] (advance time s)))) :=
      (lineByte_frameContent (s := advance time s) (by omega) hd).trans (takeFrame_refused hcode)
    exact ⟨_, frame, refuseAtOnce_spec (s := setDeframer .inFrame [] (advance time s)) code⟩

end Sys2Proof.Machine

/-! PROOFS. Requests that act on one port and are answered at once: PORT_ENABLE and CLEAR_FAULT, the section requests,
PLAN_COMMIT, MARK, DRIVE_QUEUE and DRIVE_ABORT; and NULL_CHANNELS, which stays held (R5, R12, R21, R24, R29, R85, R126, R153,
R154, R161). -/

namespace Sys2Proof.Machine

variable {p q : PortId} {s t v : State} {b : PortBlocks} {k : RequestKind} {tag : Byte} {c : Instr} {body : ReplyBody}
  {rs : List Report} {serveRequest : PortId → Nat → State → State}

/-! ### A request taken, served and answered -/

/-- A request on a port that is answered behind work which leaves the link controller, but for the reports it raises. -/
theorem request_answered (ha : Accepts s c k p.byte) (hexec : exec c s = serveOnPort c k tag p.byte serveRequest s)
    (hlink : v.link = (hold k tag p.byte s).link)
    (hserve : serveRequest p (freePlace s.link.buffer) (hold k tag p.byte s) =
      reply (freePlace s.link.buffer) body (tell rs v)) :
    ∃ l, exec c s = .next { v with link := l } ∧ Answered s { v with link := l } k tag p.byte body ∧
      Raised s { v with link := l } rs ∧ (rs = [] → { v with link := l }.unsentReports = s.unsentReports) := by
  have hr := taken_readied (tag := tag) ha
  obtain ⟨l, harb, answered, reports⟩ := hr.answer_after (u := tell rs v) body (by rw [tell_buffer, hlink])
    (by rw [tell_unsentReplies, State.unsentReplies, hlink]; rfl)
  have next : arbitrate (reply (freePlace s.link.buffer) body (tell rs v)) = { v with link := l } := by
    obtain ⟨l', hl'⟩ := speaks_tell rs
    rw [harb, hl']
    rfl
  have raised : Raised s (tell rs v) rs := hr.raised ((tell_raised (s := v) rs).of_link hlink)
  rw [next] at answered reports
  refine ⟨l, by rw [hexec, serveOnPort_taken ha, hserve, next], answered, fun hroom => reports.trans (raised hroom), ?_⟩
  rintro rfl
  exact reports.trans (by rw [tell_nil, State.unsentReports, hlink]; rfl)

/-- A request that acts on the blocks of its port alone. -/
theorem request_onPort (ha : Accepts s c k p.byte) (hexec : exec c s = serveOnPort c k tag p.byte serveRequest s)
    (hserve : serveRequest p (freePlace s.link.buffer) (hold k tag p.byte s) =
      reply (freePlace s.link.buffer) body (tell rs ((hold k tag p.byte s).setPort p b))) :
    ∃ t, exec c s = .next t ∧ t.port p = b ∧ RequestOn p s t ∧ Answered s t k tag p.byte body ∧ Raised s t rs ∧
      (rs = [] → t.unsentReports = s.unsentReports) := by
  obtain ⟨l, hnext, answered, raised, quiet⟩ := request_answered (v := (hold k tag p.byte s).setPort p b) ha hexec rfl hserve
  exact ⟨_, hnext, setPort_port_same _, ⟨fun q hq => setPort_port_ne _ hq, rfl, rfl, rfl⟩, answered, raised, quiet⟩

/-! ### Entry to IDLE from OFF and from FAULT (R5, R12) -/

/-- In OFF, IDLE and FAULT nothing runs, no run count stands and no plan is pending. -/
theorem lawful_stopped (hlaw : b.lawful) (hrest : b.ctl.mode.scanning = false) :
    b.seq.stop = b.seq ∧ b.plan.pending = false := by
  obtain ⟨scans, starts, holds, closes, -, -, -, -, pends⟩ := hlaw
  have hmodes : b.ctl.mode.hasRecord = false ∧ b.ctl.mode ≠ .nulling ∧ b.ctl.mode ≠ .armed ∧ b.ctl.mode ≠ .acquiring := by
    revert hrest
    cases b.ctl.mode <;> decide
  obtain ⟨hrecord, hnulling, harmed, hacquiring⟩ := hmodes
  have hscan : b.seq.scan = none := Option.not_isSome_iff_eq_none.mp fun h => by simp [scans h] at hrest
  have hstarts : ¬ (b.seq.timer.isSome = true ∨ b.seq.owed = true) := fun h => (starts h).elim hnulling harmed
  have hheld : b.seq.held = none := Option.not_isSome_iff_eq_none.mp fun h => hacquiring (holds h)
  have hclose : b.seq.closeHold = false := Bool.eq_false_iff.mpr fun h => by simp [closes h] at hrecord
  obtain ⟨htimer, howed⟩ := not_or.mp hstarts
  refine ⟨?_, Bool.eq_false_iff.mpr fun h => by simp [pends h] at hrest⟩
  have htimer' := Option.not_isSome_iff_eq_none.mp htimer
  have howed' := Bool.eq_false_iff.mpr howed
  cases hq : b.seq
  simp_all [Sequencer.stop]

theorem settledAt_of_not_pending {now : Nat} (h : b.plan.pending = false) : b.settledAt now = b := by
  rw [PortBlocks.settledAt, if_neg (by simp [h])]

theorem pendingReport_of_not_pending (h : b.plan.pending = false) : pendingReport p b = [] := by
  rw [pendingReport, if_neg (by simp [h])]

/-- A port at rest brought to IDLE: its controller alone changes. -/
theorem rested_idle (hlaw : b.lawful) (hrest : b.ctl.mode.scanning = false) (cause : Cause) :
    b.rested .idle cause = { b with
      ctl := { mode := .idle, previous := b.ctl.mode, lastCause := cause, runs := List.replicate 12 0, fault := none } } := by
  have hrecord : b.ctl.mode.hasRecord = false := by revert hrest; cases b.ctl.mode <;> decide
  obtain ⟨hstop, -⟩ := lawful_stopped hlaw hrest
  rw [PortBlocks.rested, hstop, hrecord, hrest]
  rfl

/-- Entry to IDLE from OFF or FAULT. -/
theorem enterIdle_fromRest (hlaw : (s.port p).lawful) (hrest : (s.port p).ctl.mode.scanning = false) (cause : Cause) :
    enterIdle p cause none s = tell [stateReport p .idle (s.mode p) cause none] (s.setPort p { s.port p with
      ctl := {
        mode := .idle, previous := (s.port p).ctl.mode, lastCause := cause, runs := List.replicate 12 0, fault := none } }) := by
  have hpending : ((s.port p).rested .idle cause).plan.pending = false := (lawful_stopped hlaw hrest).2
  rw [enterIdle_eq, settledAt_of_not_pending hpending, pendingReport_of_not_pending hpending, rested_idle hlaw hrest]

/-- PORT_ENABLE in OFF. -/
theorem enableRequest_off (hlaw : (s.port p).lawful) (hoff : (s.port p).ctl.mode = .off) (place : Nat) :
    enableRequest p place s = reply place (.done (.entered .idle)) (tell [stateReport p .idle .off .enable none]
      (s.setPort p { s.port p with
        ctl := { mode := .idle, previous := .off, lastCause := .enable, runs := List.replicate 12 0, fault := none }
        travel := (s.port p).travel.loadQuad })) := by
  have hload : (onTravel p TravelUnit.loadQuad s).port p = { s.port p with travel := (s.port p).travel.loadQuad } :=
    onTravel_port_same _
  rw [enableRequest, mode_eq, if_pos hoff, enterIdle_fromRest (by rw [hload]; exact hlaw) (by rw [hload, hoff]; rfl), mode_eq, hload,
    hoff]
  exact congrArg (fun u => reply place (.done (.entered .idle)) (tell [stateReport p .idle .off .enable none] u))
    (setPort_setPort _ _)

/-- CLEAR_FAULT in FAULT. -/
theorem clearRequest_fault (hlaw : (s.port p).lawful) (hfault : (s.port p).ctl.mode = .fault) (place : Nat) :
    clearRequest p place s = reply place (.done .nothing) (tell [stateReport p .idle .fault .clear none]
      (s.setPort p { s.port p with
        ctl := { mode := .idle, previous := .fault, lastCause := .clear, runs := List.replicate 12 0, fault := none } })) := by
  rw [clearRequest, mode_eq, if_pos hfault, enterIdle_fromRest hlaw (by rw [hfault]; rfl), mode_eq, hfault]
  rfl

/-- Settles O12: both requests bring a port at rest to IDLE. -/
theorem portEntersIdle : Obligations.PortEntersIdle := by
  intro s p tag _ hports
  refine ⟨fun ha hoff => ?_, fun ha hfault => ?_⟩
  · obtain ⟨t, hnext, hport, hon, answered, raised, -⟩ := request_onPort ha rfl
      (enableRequest_off (s := hold .portEnable tag p.byte s) (hports p) hoff (freePlace s.link.buffer))
    exact ⟨t, hnext, hport, hon, answered, raised⟩
  · obtain ⟨t, hnext, hport, hon, answered, raised, -⟩ := request_onPort ha rfl
      (clearRequest_fault (s := hold .clearFault tag p.byte s) (hports p) hfault (freePlace s.link.buffer))
    exact ⟨t, hnext, hport, hon, answered, raised⟩

/-! ### The section requests (R21, R24) -/

/-- A section request with the pending flag clear. -/
theorem section_stores {edit : Plan → Plan} {items : List ClampItem} (ha : Accepts s c k p.byte) (hpending : (s.port p).plan.pending = false)
    (hexec : exec c s = serveOnPort c k tag p.byte (editSection edit items) s) :
    ∃ t, exec c s = .next t ∧
      t.port p = { s.port p with plan := { (s.port p).plan with staged := edit (s.port p).plan.staged } } ∧ RequestOn p s t ∧
      Answered s t k tag p.byte (.done (.clamps items)) ∧ t.unsentReports = s.unsentReports := by
  have hserve : editSection edit items p (freePlace s.link.buffer) (hold k tag p.byte s) =
      reply (freePlace s.link.buffer) (.done (.clamps items)) (tell [] ((hold k tag p.byte s).setPort p
        { s.port p with plan := { (s.port p).plan with staged := edit (s.port p).plan.staged } })) := by
    rw [editSection, hold_port, if_neg (by simp [hpending])]
    rfl
  obtain ⟨t, hnext, hport, hon, answered, -, quiet⟩ := request_onPort ha hexec hserve
  exact ⟨t, hnext, hport, hon, answered, quiet rfl⟩

/-- Settles O14: each section request is an edit of one section. -/
theorem sectionRequestsStore : Obligations.SectionRequestsStore := by
  intro s p tag _ hpending
  refine ⟨?_, ?_, ?_, ?_, ?_, ?_, ?_, ?_, ?_, ?_⟩
  all_goals exact fun _ ha => section_stores ha hpending rfl

/-! ### PLAN_COMMIT in a scanning state (R29) -/

/-- The blocks of a port whose commit goes pending (R28, R29). -/
def PortBlocks.commitPends (b : PortBlocks) : PortBlocks :=
  { b with plan := { b.plan with staged := b.plan.staged.commitClamped, pending := true } }

theorem keeps_setPlanPending : Keeps Record.setPlanPending := fun _ => rfl

/-- PLAN_COMMIT of a plan that passes every check, in a scanning state. -/
theorem commitRequest_pends (hpending : (s.port p).plan.pending = false) (hvalid : (s.port p).plan.staged.validate = none)
    (hscanning : (s.mode p).atRest = false) (place : Nat) : commitRequest p place s =
    reply place (.done (.commit .pending (s.port p).plan.generation (s.port p).plan.staged.commitItems))
      (act p (s.port p).commitPends Record.setPlanPending s) := by
  rw [commitRequest, if_neg (by simp [hpending]), hvalid]
  simp only [commitValid, hscanning, Bool.false_eq_true, if_false, onPlan, onPort_onPort]
  rfl

/-- Settles O17: the work is one change of the plan store and one flag of the open record. -/
theorem commitGoesPending : Obligations.CommitGoesPending := by
  intro s p tag _ ha hmode hpending hvalid
  have hscanning : ((hold .planCommit tag p.byte s).mode p).atRest = false := by
    have : (s.mode p).atRest = false := by rcases hmode with h | h | h <;> rw [h] <;> rfl
    exact this
  have hserve := commitRequest_pends (s := hold .planCommit tag p.byte s) hpending hvalid hscanning (freePlace s.link.buffer)
  obtain ⟨l, hnext, answered, -, quiet⟩ := request_answered (rs := [])
    (v := act p (s.port p).commitPends Record.setPlanPending (hold .planCommit tag p.byte s)) ha rfl rfl hserve
  exact ⟨_, hnext, fun q hq => setPort_port_ne _ hq, rfl, rfl, setPort_port_same _, rfl, rfl, act_openRecords keeps_setPlanPending,
    fun q hq => act_openRecords_ne keeps_setPlanPending hq, answered, quiet rfl⟩

/-! ### MARK (R126) -/

/-- What one landmark makes of a record, by whether its list has room (R124, R125). -/
theorem addLandmark_eq (e : LandmarkEntry) (r : Record) : r.addLandmark e = if r.landmarks.length < 40 then
    { r with landmarks := r.landmarks ++ [e] } else { r with flags := { r.flags with landmarksTruncated := true } } := rfl

/-- Settles O27, by whether the list of landmarks has room. -/
theorem markListsOperator : Obligations.MarkListsOperator := by
  intro s p tag r _ ha hmode hclose hopen
  have hrecord : s.openRecord p = some r := by rw [openRecord_eq, hopen]; rfl
  have hserve : markRequest p (freePlace s.link.buffer) (hold .mark tag p.byte s) = reply (freePlace s.link.buffer)
      (.done (.marked (markPos s p) (if r.landmarks.length < 40 then some r.landmarks.length else none)))
      (tell [] (onOpen p (Record.addLandmarks [operatorEntry (markPos s p)]) (hold .mark tag p.byte s))) := by
    have hindex : markIndex s p = if r.landmarks.length < 40 then some r.landmarks.length else none := by
      rw [markIndex, hrecord]
      rfl
    rw [markRequest, if_pos ⟨hmode, hclose⟩, ← hindex]
    rfl
  obtain ⟨l, hnext, answered, -, quiet⟩ := request_answered
    (v := onOpen p (Record.addLandmarks [operatorEntry (markPos s p)]) (hold .mark tag p.byte s)) ha rfl rfl hserve
  have hkeeps := keeps_addLandmarks [operatorEntry (markPos s p)]
  refine ⟨_, markPos s p, hnext, rfl, rfl, rfl, fun l hl => by rw [markPos, hl]; rfl, fun hnone g hg => ?_, ?_,
    fun q hq => onOpen_openRecords_ne hkeeps.port hq, onOpen_readyRecords, rfl, rfl, answered, quiet rfl⟩
  · rw [markPos, hnone, hrecord]
    simp only [Option.bind_some, hg]
    rfl
  · refine (onOpen_openRecords hkeeps.port).trans ?_
    rw [show (hold .mark tag p.byte s).openRecords p = [r] from hopen]
    rfl

/-! ### DRIVE_QUEUE and DRIVE_ABORT (R153, R154, R161) -/

/-- A channel may issue at rest, with nothing current and nothing awaited. -/
theorem canIssue_iff {d : DriveChannel} : d.canIssue = true ↔
    (d.state = .released ∨ d.state = .holding) ∧ d.current = none ∧ d.awaited = none := by
  simp [DriveChannel.canIssue, and_assoc]

/-- A channel that may issue issues the head of its queue. -/
theorem issue_of_canIssue {d : DriveChannel} {m : Move} {rest : List Move} (h : d.canIssue = true) (hqueue : d.queue = m :: rest) :
    d.issue = { d with
      state := .awaitAccept, queue := rest, current := some { move := m, number := d.number }
      awaited := some { kind := .move, number := d.number, deadline := none }
      outgoing := d.outgoing ++ [.move d.number m.direction m.speed m.distance], number := d.number + 1 } := by
  rw [DriveChannel.issue, if_pos h, hqueue]
  rfl

theorem issue_of_not_canIssue {d : DriveChannel} (h : d.canIssue = false) : d.issue = d := by
  rw [DriveChannel.issue, if_neg (by simp [h])]

/-- DRIVE_QUEUE with room. -/
theorem queueRequest_appends {entries : List MoveFields} (hmode : s.mode p ≠ .off) (hstate : (s.port p).drive.state ≠ .lost)
    (hroom : (s.port p).drive.queue.length + entries.length ≤ 8) (place : Nat) : queueRequest entries p place s =
    reply place (.done (.queued ((s.port p).drive.queue.length + entries.length) (entryItems moveItems entries)))
      (s.setPort p { s.port p with drive := ((s.port p).drive.append (entries.map storedMove)).issue }) := by
  have hfull : ¬ Config.driveQueuePlaces < (s.port p).drive.queue.length + entries.length := Nat.not_lt.mpr hroom
  simp only [queueRequest, if_neg hmode, if_neg hstate, if_neg hfull, replyDone, onDrive, onPort, (speaks_reply place _).port,
    (speaks_reply place _).setPort, setPort_port_same, setPort_setPort]

/-- Settles O44: the queue, then the entry at its head where one may be issued; and a halt. -/
theorem driveRequestsAct : Obligations.DriveRequestsAct := by
  intro s p tag _ d
  refine ⟨fun entries ha hmode hstate hroom => ?_, fun ha => ?_⟩
  · have hserve := queueRequest_appends (s := hold .driveQueue tag p.byte s) hmode hstate hroom (freePlace s.link.buffer)
    obtain ⟨t, hnext, hport, hon, answered, -, quiet⟩ := request_onPort (rs := []) ha rfl hserve
    refine ⟨t, _, hnext, hport, hon, answered, quiet rfl, fun hbusy => ?_, fun m rest hrest hcurrent hawaited hqueue => ?_⟩
    · refine issue_of_not_canIssue (Bool.eq_false_iff.mpr fun hissue => ?_)
      obtain ⟨hrest, hcurrent, hawaited⟩ := canIssue_iff.mp (show d.canIssue = true from hissue)
      rw [hcurrent, hawaited] at hbusy
      rcases hrest with h | h
      all_goals simp [h] at hbusy
    · exact issue_of_canIssue (canIssue_iff.mpr ⟨hrest, hcurrent, hawaited⟩) hqueue
  · have hserve : abortRequest p (freePlace s.link.buffer) (hold .driveAbort tag p.byte s) = reply (freePlace s.link.buffer)
        (.done (.aborted .awaitHalt d.entries)) (tell [.driveEvent p {
          kind := .aborted .host none, state := .awaitHalt, queueLength := 0 }]
          ((hold .driveAbort tag p.byte s).setPort p { s.port p with drive := d.halt })) := by
      rw [abortRequest, driveAbort_eq]
      rfl
    obtain ⟨t, hnext, hport, hon, answered, raised, -⟩ := request_onPort ha rfl hserve
    exact ⟨t, hnext, hon, hport, answered, raised⟩

/-! ### NULL_CHANNELS (R85) -/

/-- The arbiter takes no place of a request that waits. -/
theorem arbitrate_keeps {h : HeldRequest} (hlaw : s.link.lawful) (hh : h ∈ s.link.buffer) (hwaits : h.inProgress) :
    h ∈ (arbitrate s).link.buffer := by
  unfold arbitrate
  split
  next => exact hh
  next =>
    split
    next r rest hreplies =>
      show h ∈ freeBuffer r.place s.link.buffer
      unfold freeBuffer
      cases hplace : r.place with
      | none => exact hh
      | some n =>
        refine List.mem_filter.mpr ⟨hh, bne_iff_ne.mpr fun hn => ?_⟩
        obtain ⟨x, hx, hxn, done⟩ := hlaw.answered n (by rw [hreplies]; simp [hplace])
        rw [hlaw.place_inj hx hh (hxn.trans hn.symm), show h.answered = false from hwaits] at done
        cases done
    next =>
      split
      next => exact hh
      next =>
        split
        next => exact hh
        next => exact hh

/-- A request taken waits. -/
theorem mem_hold_self : ({ place := freePlace s.link.buffer, kind := k, tag := tag, port := p.byte, answered := false } :
    HeldRequest) ∈ (hold k tag p.byte s).link.buffer := List.mem_append_right _ (List.mem_singleton_self _)

/-- With a report told some report waits. -/
theorem tell_waits (r : Report) (rest : List Report) : (tell (r :: rest) s).link.reports ≠ [] := by
  have grows : ∀ (rs : List Report) (u : State), u.link.reports ≠ [] → (tell rs u).link.reports ≠ [] := fun rs => by
    induction rs with
    | nil => exact fun _ h => h
    | cons r rest ih =>
      refine fun u h => ih (report r u) ?_
      by_cases hroom : u.link.reports.length < Config.reportPlaces
      · simp [report_reports r hroom]
      · rwa [report_reports_full r hroom]
  refine grows rest (report r s) ?_
  by_cases hroom : s.link.reports.length < Config.reportPlaces
  · simp [report_reports r hroom]
  · rw [report_reports_full r hroom]
    intro hnone
    rw [hnone] at hroom
    exact hroom (by decide)

/-- NULL_CHANNELS in IDLE. -/
theorem nullRequest_idle (hidle : (s.port p).ctl.mode = .idle) (place : Nat) : nullRequest p place s =
    tell [stateReport p .nulling .idle .nullStart none] (s.setPort p ((s.port p).nullingAt s.now)) := by
  rw [nullRequest, mode_eq, if_pos hidle, enterNulling_eq, hidle]

/-- Settles O21: the request is taken and not answered. -/
theorem nullChannelsStarts : Obligations.NullChannelsStarts := by
  intro s p tag hlink ha hidle
  have hmode : (s.port p).ctl.mode = .idle := hidle
  have hnext : exec (.nullChannels tag p.byte) s = .next (arbitrate (tell [stateReport p .nulling .idle .nullStart none]
      ((hold .nullChannels tag p.byte s).setPort p ((s.port p).nullingAt s.now)))) := by
    exact (serveOnPort_taken ha).trans (congrArg (fun u => Host.Outcome.next (arbitrate u))
      (nullRequest_idle (s := hold .nullChannels tag p.byte s) hmode (freePlace s.link.buffer)))
  have hlaw : ((hold .nullChannels tag p.byte s).setPort p ((s.port p).nullingAt s.now)).link.lawful :=
    hold_lawful (linkLaw_iff.mp hlink) (testRequest_room ha)
  obtain ⟨l, harb, -, -⟩ := arbitrate_link_only (.inr (.inr (tell_waits (s := (hold .nullChannels tag p.byte s).setPort p
    ((s.port p).nullingAt s.now)) (stateReport p .nulling .idle .nullStart none) [])))
  have hport : ∀ q, (arbitrate (tell [stateReport p .nulling .idle .nullStart none]
      ((hold .nullChannels tag p.byte s).setPort p ((s.port p).nullingAt s.now)))).port q =
      ((hold .nullChannels tag p.byte s).setPort p ((s.port p).nullingAt s.now)).port q := fun q => by
    rw [harb]
    exact tell_port _
  have waiting : HeldRequest.mk (freePlace s.link.buffer) .nullChannels tag p.byte false ∈
      (tell [stateReport p .nulling .idle .nullStart none]
        ((hold .nullChannels tag p.byte s).setPort p ((s.port p).nullingAt s.now))).link.buffer := by
    rw [tell_buffer]
    exact mem_hold_self
  have held := arbitrate_keeps ((moves_tell _).lawful hlaw) waiting (Eq.refl false)
  refine ⟨_, hnext, ?_, ?_, ?_, fun q hq => (hport q).trans (setPort_port_ne _ hq), ?_, ?_,
    ⟨_, held, rfl, rfl, rfl, rfl⟩, ?_⟩
  · rw [arbitrate_store, tell_store]; rfl
  · rw [arbitrate_now, tell_now]; rfl
  · rw [arbitrate_pending, tell_pending]; rfl
  · rw [hport, setPort_port_same, PortBlocks.nullingAt, hmode]
    rfl
  · rw [arbitrate_unsentReplies, tell_unsentReplies]; rfl
  · intro hroom
    rw [arbitrate_unsentReports]
    exact tell_raised _ hroom

end Sys2Proof.Machine

/-! PROOFS. What the levels of the tracks decode to (R57 to R59), and the promotion of a plan with what it puts in force
(R25, R28 to R30, R38, R40, R56, R70). -/

namespace Sys2Proof.Machine

variable {p q : PortId} {s t : State} {b : PortBlocks} {w : TravelPlan} {u : TravelUnit}

/-! ### What the levels decode to (R57 to R59) -/

/-- The travel unit once an edge of its levels has been counted. -/
def TravelUnit.edged (w : TravelPlan) (forward : Bool) (u : TravelUnit) : TravelUnit :=
  { u with quad := u.levels, raw := movedRaw w.scale (isPush w.sense forward) u.raw }

/-- The edge counted. -/
def TravelUnit.edge (w : TravelPlan) (forward : Bool) (u : TravelUnit) : Edge :=
  { push := isPush w.sense forward, moved := (movedRaw w.scale (isPush w.sense forward) u.raw - u.raw).natAbs }

/-- The travel unit once an illegal transition has been counted. -/
def TravelUnit.suspected (u : TravelUnit) : TravelUnit :=
  { u with quad := u.levels, illegal := if u.illegal < 65535 then u.illegal + 1 else u.illegal }

theorem decode_still (h : u.levels = u.quad) : u.decode w = (u, none, false) := by
  simp only [TravelUnit.decode, decodePair, h, if_true]

theorem decode_forward (h : u.levels = u.quad.next) : u.decode w = (u.edged w true, some (u.edge w true), false) := by
  have hne : u.quad.next ≠ u.quad := by
    obtain ⟨one, two⟩ := u.quad
    cases one <;> cases two <;> decide
  simp only [TravelUnit.decode, decodePair, h, hne, if_false, if_true]
  simp only [TravelUnit.edged, TravelUnit.edge, h]

theorem decode_backward (h : u.quad = u.levels.next) : u.decode w = (u.edged w false, some (u.edge w false), false) := by
  have hne : u.levels ≠ u.levels.next ∧ u.levels ≠ u.levels.next.next := by
    obtain ⟨one, two⟩ := u.levels
    cases one <;> cases two <;> decide
  obtain ⟨hstill, hforward⟩ := hne
  simp only [TravelUnit.decode, decodePair, h, hstill, hforward, if_false, if_true]
  rfl

/-- A turn of the first level alone goes forward where the two were alike, and backward where they were not. -/
theorem Levels.first_turns (q : Levels) : if q.one == q.two then { one := !q.one, two := q.two } = q.next
    else q = Levels.next { one := !q.one, two := q.two } := by
  obtain ⟨one, two⟩ := q
  cases one <;> cases two <;> rfl

/-- A turn of the second level alone goes forward where the two were not alike. -/
theorem Levels.second_turns (q : Levels) : if q.one != q.two then { one := q.one, two := !q.two } = q.next
    else q = Levels.next { one := q.one, two := !q.two } := by
  obtain ⟨one, two⟩ := q
  cases one <;> cases two <;> rfl

/-- A turn of both levels is an illegal transition. -/
theorem decodePair_both (q : Levels) : decodePair q { one := !q.one, two := !q.two } = .illegal := by
  obtain ⟨one, two⟩ := q
  cases one <;> cases two <;> rfl

theorem decode_edge {forward : Bool} (h : if forward then u.levels = u.quad.next else u.quad = u.levels.next) :
    u.decode w = (u.edged w forward, some (u.edge w forward), false) := by
  cases forward with
  | true => exact decode_forward h
  | false => exact decode_backward h

theorem decode_first (h1 : u.track1.level ≠ u.quad.one) (h2 : u.track2.level = u.quad.two) : u.decode w =
    (u.edged w (u.quad.one == u.quad.two), some (u.edge w (u.quad.one == u.quad.two)), false) := by
  refine decode_edge ?_
  rw [TravelUnit.levels, h2, Bool.eq_not_of_ne h1]
  exact u.quad.first_turns

theorem decode_second (h1 : u.track1.level = u.quad.one) (h2 : u.track2.level ≠ u.quad.two) : u.decode w =
    (u.edged w (u.quad.one != u.quad.two), some (u.edge w (u.quad.one != u.quad.two)), false) := by
  refine decode_edge ?_
  rw [TravelUnit.levels, h1, Bool.eq_not_of_ne h2]
  exact u.quad.second_turns

theorem decode_both (h1 : u.track1.level ≠ u.quad.one) (h2 : u.track2.level ≠ u.quad.two) :
    u.decode w = (u.suspected, none, true) := by
  have hlevels : u.levels = { one := !u.quad.one, two := !u.quad.two } := by
    rw [TravelUnit.levels, Bool.eq_not_of_ne h1, Bool.eq_not_of_ne h2]
  have hpair : decodePair u.quad u.levels = .illegal := by
    rw [hlevels]
    exact decodePair_both u.quad
  simp only [TravelUnit.decode, hpair]
  rfl

/-- Decoding leaves the filters and brings the quadrature state to the levels. -/
theorem decode_quad : (u.decode w).1.quad = u.levels ∧ (u.decode w).1.track1 = u.track1 ∧ (u.decode w).1.track2 = u.track2 := by
  by_cases h1 : u.track1.level = u.quad.one <;> by_cases h2 : u.track2.level = u.quad.two
  · have hlevels : u.levels = u.quad := by rw [TravelUnit.levels, h1, h2]
    rw [decode_still hlevels]
    exact ⟨hlevels.symm, rfl, rfl⟩
  · rw [decode_second h1 h2]
    exact ⟨rfl, rfl, rfl⟩
  · rw [decode_first h1 h2]
    exact ⟨rfl, rfl, rfl⟩
  · rw [decode_both h1 h2]
    exact ⟨rfl, rfl, rfl⟩

theorem isPush_iff {sense : Sense} {forward : Bool} : isPush sense forward = true ↔ (sense = .normal ↔ forward = true) := by
  cases sense <;> cases forward <;> decide

/-- An edge is counted by moving the raw position. -/
theorem edgeCounted_moved (forward : Bool) (quad : Levels) (track1 track2 : TrackFilter) :
    EdgeCounted w.scale w.sense forward u { u with
      quad := quad, track1 := track1, track2 := track2, raw := movedRaw w.scale (isPush w.sense forward) u.raw } :=
  ⟨_, fun h => by rw [movedRaw, if_pos (isPush_iff.mpr h)]; rfl,
    fun h => by rw [movedRaw, if_neg fun hp => h (isPush_iff.mp hp)]; rfl, rfl⟩

/-! ### The tables a promotion puts in force (R38, R40) -/

/-- A period is 400,000 / f_code to the nearest. -/
theorem excitationPeriod_nearest {c : Nat} (h : 0 < c) : 2 * c * excitationPeriod c ≤ 800000 + c ∧
    800000 + c < 2 * c * (excitationPeriod c + 1) :=
  ⟨Nat.mul_div_le _ _, Nat.lt_mul_div_succ _ (by omega)⟩

theorem periods_getElem? (w : Plan) (k : Nat) : w.periods[k]? = (w.freq[k]?).map (Option.map excitationPeriod) :=
  List.getElem?_map

theorem slotTable_getElem? {w : Plan} {k n : Nat} {e : PlanSlot} (he : w.slots[k]? = some e)
    (hn : w.periods[e.freq]? = some (some n)) : w.slotTable[k]? = some {
      period := n, mode := e.mode, settle := e.settle, integrate := e.integrate,
      slotTime := 80 + (e.settle + e.integrate) * n } := by
  rw [Plan.slotTable, List.getElem?_map, he, Option.map_some, slotInForce, List.getD_eq_getElem?_getD, hn]
  rfl

/-! ### The filters at a promotion (R56) -/

/-- A filter at a promotion from one filter length to another. -/
def TrackFilter.relengthed (outgoing incoming now : Nat) (f : TrackFilter) : TrackFilter :=
  if outgoing = incoming then f else f.underLength incoming now

/-- A running filter whose hold is complete under the new length passes; any other stands. -/
theorem relengthed_spec (outgoing incoming now : Nat) (f : TrackFilter) :
    (outgoing ≠ incoming ∧ (∃ began, f.since = some began ∧ began + incoming ≤ now) →
      f.relengthed outgoing incoming now = { input := f.input, level := f.input, since := none }) ∧
    (¬ (outgoing ≠ incoming ∧ ∃ began, f.since = some began ∧ began + incoming ≤ now) →
      f.relengthed outgoing incoming now = f) := by
  unfold TrackFilter.relengthed TrackFilter.underLength
  refine ⟨fun ⟨hlength, began, hsince, hheld⟩ => ?_, fun hstands => ?_⟩
  · rw [if_neg hlength, hsince]
    exact if_pos hheld
  · split
    next => rfl
    next hlength =>
      split
      next began hsince => exact if_neg fun hheld => hstands ⟨hlength, began, hsince, hheld⟩
      next => rfl

/-- The travel unit of a port at a promotion, before a level that passes is decoded. -/
def PortBlocks.relengthed (now : Nat) (b : PortBlocks) : TravelUnit :=
  { b.travel.derive b.plan.staged with
    track1 := b.travel.track1.relengthed b.plan.working.travel.deglitch b.plan.staged.travel.deglitch now
    track2 := b.travel.track2.relengthed b.plan.working.travel.deglitch b.plan.staged.travel.deglitch now }

theorem promoted_travel (now : Nat) (b : PortBlocks) : (b.promoted now).travel = b.relengthed now := by
  unfold PortBlocks.promoted PortBlocks.relengthed TrackFilter.relengthed
  dsimp only
  split <;> rfl

theorem promotedAt_travel (now : Nat) (b : PortBlocks) : (b.promotedAt now).travel =
    if b.ctl.mode = .off then b.relengthed now else ((b.relengthed now).decode b.plan.staged.travel).1 := by
  unfold PortBlocks.promotedAt
  dsimp only
  rw [promoted_travel]
  split
  · exact promoted_travel now b
  · rfl

theorem promotedAt_tracks (now : Nat) (b : PortBlocks) : (b.promotedAt now).travel.track1 = (b.relengthed now).track1 ∧
    (b.promotedAt now).travel.track2 = (b.relengthed now).track2 := by
  rw [promotedAt_travel]
  split
  · exact ⟨rfl, rfl⟩
  · exact decode_quad.2

/-- What a promotion decodes in every state but OFF. -/
theorem promotedAt_decodes {now : Nat} (h : b.ctl.mode ≠ .off) :
    let u := b.travel
    let t := b.plan.staged.travel
    let x := (b.promotedAt now).travel
    x.quad = { one := x.track1.level, two := x.track2.level } ∧
    (x.track1.level = u.quad.one → x.track2.level = u.quad.two → x.raw = u.raw ∧ x.illegal = u.illegal) ∧
    (x.track1.level ≠ u.quad.one → x.track2.level ≠ u.quad.two →
      x.raw = u.raw ∧ x.illegal = if u.illegal < 65535 then u.illegal + 1 else u.illegal) ∧
    (x.track1.level ≠ u.quad.one → x.track2.level = u.quad.two → x.illegal = u.illegal ∧
      x.raw = movedRaw t.scale (isPush t.sense (u.quad.one == u.quad.two)) u.raw) ∧
    (x.track1.level = u.quad.one → x.track2.level ≠ u.quad.two → x.illegal = u.illegal ∧
      x.raw = movedRaw t.scale (isPush t.sense (u.quad.one != u.quad.two)) u.raw) := by
  obtain ⟨htrack1, htrack2⟩ := promotedAt_tracks now b
  dsimp only
  rw [htrack1, htrack2, promotedAt_travel, if_neg h]
  refine ⟨decode_quad.1, fun h1 h2 => ?_, fun h1 h2 => ?_, fun h1 h2 => ?_, fun h1 h2 => ?_⟩
  · have hlevels : (b.relengthed now).levels = (b.relengthed now).quad := by rw [TravelUnit.levels, h1, h2]; rfl
    rw [decode_still hlevels]
    exact ⟨rfl, rfl⟩
  · rw [decode_both h1 h2]
    exact ⟨rfl, rfl⟩
  · rw [decode_first h1 h2]
    exact ⟨rfl, rfl⟩
  · rw [decode_second h1 h2]
    exact ⟨rfl, rfl⟩

/-! ### The promotion (R30) -/

/-- What a promotion, whatever its cause, does to its port. -/
theorem promote_eq (cause : Option Cause) : promote p cause s =
    tell (cause.toList.map fun why =>
        promotedReport p (s.mode p) (s.port p).ctl.previous why ((s.port p).plan.generation + 1))
      (s.setPort p ((s.port p).promotedAt s.now)) := by
  cases cause with
  | none => exact promote_none
  | some why => exact promote_some why

theorem promote_port_same (cause : Option Cause) : (promote p cause s).port p = (s.port p).promotedAt s.now := by
  rw [promote_eq, tell_port, setPort_port_same]

/-- The blocks of a port after a promotion. -/
theorem promotedAt_eq (now : Nat) (b : PortBlocks) : b.promotedAt now = { b with
    plan := { working := b.plan.staged, staged := b.plan.staged, pending := false, generation := b.plan.generation + 1 }
    seq := b.seq.derive b.plan.staged
    chan := { b.chan with nulls := comparedNulls b.plan.working b.plan.staged b.chan.nulls }
    travel := { b.travel.derive b.plan.staged with
      track1 := (b.promotedAt now).travel.track1, track2 := (b.promotedAt now).travel.track2
      quad := (b.promotedAt now).travel.quad, raw := (b.promotedAt now).travel.raw
      illegal := (b.promotedAt now).travel.illegal } } := by
  obtain ⟨track1, track2, quad, raw, illegal, h⟩ := promotedAt_frame now b
  rw [h]

/-- In OFF a promotion decodes nothing. -/
theorem promotedAt_off {now : Nat} (h : b.ctl.mode = .off) : (b.promotedAt now).travel.quad = b.travel.quad ∧
    (b.promotedAt now).travel.raw = b.travel.raw ∧ (b.promotedAt now).travel.illegal = b.travel.illegal := by
  rw [promotedAt_travel, if_pos h]
  exact ⟨rfl, rfl, rfl⟩

/-! ### PLAN_COMMIT at rest (R28, R30) -/

theorem clampItem_of_eq (field item v : Nat) : clampItem field item v v = [] := if_pos rfl

/-- A field lowered to a bound is an item where it lay above. -/
theorem clampItem_min (field v bound : Nat) : clampItem field 0 v (min v bound) =
    if bound < v then [{ field := field, item := 0, value := bound }] else [] := by
  split
  next h => rw [min_eq_right h.le]; exact if_neg h.ne'
  next h => rw [min_eq_left (not_lt.mp h)]; exact clampItem_of_eq ..

/-- A field raised to a bound is an item where it lay below. -/
theorem clampItem_max (field v bound : Nat) : clampItem field 0 v (max v bound) =
    if v < bound then [{ field := field, item := 0, value := bound }] else [] := by
  split
  next h => rw [max_eq_right h.le]; exact if_neg h.ne
  next h => rw [max_eq_left (not_lt.mp h)]; exact clampItem_of_eq ..

theorem commitItems_eq (w : Plan) : w.commitItems =
    (if w.detect.tOpen < w.detect.tClose then [{ field := 2, item := 0, value := w.detect.tOpen }] else []) ++
    (if w.landmark.lOpen < w.landmark.lClose then [{ field := 2, item := 0, value := w.landmark.lOpen }] else []) ++
    (if w.travel.step < w.travel.scale then [{ field := 0, item := 0, value := w.travel.scale }] else []) := by
  rw [← clampItem_min, ← clampItem_min, ← clampItem_max]
  rfl

/-- The blocks of a port whose staged plan a commit has clamped (R28). -/
def PortBlocks.commitClamped (b : PortBlocks) : PortBlocks :=
  { b with plan := { b.plan with staged := b.plan.staged.commitClamped } }

/-- PLAN_COMMIT of a plan that passes every check, in OFF, IDLE or FAULT. -/
theorem commitRequest_promotes (hpending : (s.port p).plan.pending = false) (hvalid : (s.port p).plan.staged.validate = none)
    (hrest : (s.mode p).atRest = true) (place : Nat) : commitRequest p place s =
    reply place (.done (.commit .promoted ((s.port p).plan.generation + 1) (s.port p).plan.staged.commitItems))
      (tell [promotedReport p (s.mode p) (s.port p).ctl.previous .commit ((s.port p).plan.generation + 1)]
        (s.setPort p ((s.port p).commitClamped.promotedAt s.now))) := by
  have hpromote : promote p (some .commit) (onPlan p (fun st => { st with staged := st.staged.commitClamped }) s) =
      tell [promotedReport p (s.mode p) (s.port p).ctl.previous .commit ((s.port p).plan.generation + 1)]
        (s.setPort p ((s.port p).commitClamped.promotedAt s.now)) := by
    rw [promote_some, onPlan_port_same, mode_eq, onPlan_port_same]
    exact congrArg (tell _) (setPort_setPort _ _)
  rw [commitRequest, if_neg (by simp [hpending]), hvalid]
  simp only [commitValid, hrest, if_true, hpromote, replyDone, tell_port, setPort_port_same, promotedAt_plan]
  rfl

/-- Settles O16: the commit is a promotion of the clamped plan, and a promotion is one change of its port's blocks. -/
theorem commitPromotesAtRest : Obligations.CommitPromotesAtRest := by
  refine ⟨?_, ?_⟩
  · intro s p tag _ ha hmode hpending hvalid b staged w items
    have hrest : ((hold .planCommit tag p.byte s).mode p).atRest = true := by
      have : (s.mode p).atRest = true := by rcases hmode with h | h | h <;> rw [h] <;> rfl
      exact this
    obtain ⟨t, hnext, hport, hon, answered, raised, -⟩ := request_onPort ha rfl
      (commitRequest_promotes (s := hold .planCommit tag p.byte s) hpending hvalid hrest (freePlace s.link.buffer))
    refine ⟨t, hnext, hon, ?_, ?_, raised⟩
    · rw [hport, promote_port_same, setPort_port_same]
      rfl
    · rw [show items = b.plan.staged.commitItems from (commitItems_eq _).symm]
      exact answered
  · intro s p cause b w u t passes followed x
    have hport : t.port p = b.promotedAt s.now := promote_port_same cause
    have ht : t = tell _ _ := promote_eq cause
    have hx : x = (b.promotedAt s.now).travel := congrArg PortBlocks.travel hport
    have hperiods : (t.port p).seq.periods = w.periods := by rw [hport, promotedAt_eq]; rfl
    obtain ⟨htrack1, htrack2⟩ := promotedAt_tracks s.now b
    rw [hperiods]
    refine ⟨fun q hq => ?_, ?_, ?_, ?_, ?_, List.length_map _, fun k hk => ?_, fun k c hk hc => ?_,
      fun k e he n hn => slotTable_getElem? he hn, ?_, ?_, fun hoff => ?_, fun hon => ?_, ?_, fun why hwhy => ?_⟩
    · rw [ht, tell_port, setPort_port_ne _ hq]
    · rw [ht, tell_store, setPort_store]
    · rw [ht, tell_now, setPort_now]
    · rw [ht, tell_pending, setPort_pending]
    · rw [hx, hport]
      exact promotedAt_eq s.now b
    · rw [periods_getElem?, hk]; rfl
    · rw [periods_getElem?, hk]
      exact ⟨_, rfl, excitationPeriod_nearest hc⟩
    · rw [hx, htrack1]
      exact relengthed_spec _ _ _ _
    · rw [hx, htrack2]
      exact relengthed_spec _ _ _ _
    · rw [hx]
      exact promotedAt_off hoff
    · rw [hx]
      obtain ⟨hquad, hstill, hboth, hfirst, hsecond⟩ := promotedAt_decodes (now := s.now) hon
      refine ⟨hquad, hstill, hboth, fun h1 h2 => ?_, fun h1 h2 => ?_⟩
      · obtain ⟨hillegal, hraw⟩ := hfirst h1 h2
        rw [hraw]
        exact ⟨hillegal, edgeCounted_moved ..⟩
      · obtain ⟨hillegal, hraw⟩ := hsecond h1 h2
        rw [hraw]
        exact ⟨hillegal, edgeCounted_moved ..⟩
    · rintro rfl
      rw [hport]
      exact promote_none
    · subst hwhy
      rw [hport]
      exact promote_some why

end Sys2Proof.Machine

/-! PROOFS. The stored fields of requests and their clamp report (R22 to R24, R153, R189), and the validation of a plan
(R26). -/

namespace Sys2Proof.Machine

/-! ### A field brought into a range (R22) -/

/-- A value below a range is brought to its lowest value, one above to its highest, and one within stands. -/
def StoredWithin (lo hi v got : Nat) : Prop := (v < lo → got = lo) ∧ (hi < v → got = hi) ∧ (lo ≤ v → v ≤ hi → got = v)

theorem clampTo_within {lo hi : Nat} (h : lo ≤ hi) (v : Nat) : StoredWithin lo hi v (clampTo lo hi v) := by
  unfold StoredWithin clampTo
  omega

theorem min_within (hi v : Nat) : StoredWithin 0 hi v (min hi v) := by
  unfold StoredWithin
  omega

theorem storedMode_code (v : Nat) : (storedMode v).code = min 2 v := by
  match v with
  | 0 => rfl
  | 1 => rfl
  | v + 2 => exact (min_eq_left (show 2 ≤ v + 2 by omega)).symm

theorem storedSense_code (v : Nat) : (storedSense v).code = min 1 v := by
  match v with
  | 0 => rfl
  | v + 1 => exact (min_eq_left (show 1 ≤ v + 1 by omega)).symm

theorem storedDirection_code (v : Nat) : (storedDirection v).code = min 1 v := by
  match v with
  | 0 => rfl
  | v + 1 => exact (min_eq_left (show 1 ≤ v + 1 by omega)).symm

theorem storedSwitch_code (v : Nat) : switchCode (storedSwitch v) = min 1 v := by
  match v with
  | 0 => rfl
  | v + 1 => exact (min_eq_left (show 1 ≤ v + 1 by omega)).symm

/-! ### When a field is stored as received -/

theorem eq_clampTo_iff {lo hi v : Nat} (h : lo ≤ hi) : v = clampTo lo hi v ↔ lo ≤ v ∧ v ≤ hi := by
  unfold clampTo
  omega

theorem eq_min_iff {hi v : Nat} : v = min hi v ↔ v ≤ hi := by omega

theorem eq_storedRotation_iff {v : Nat} : v = storedRotation v ↔ v < 3600 := by
  unfold storedRotation
  omega

theorem eq_storedDecimation_iff {v : Nat} : v = storedDecimation v ↔ v ∈ [1, 2, 4, 8] := by
  unfold storedDecimation
  simp only [List.mem_cons, List.not_mem_nil, or_false]
  split
  · omega
  · split
    · omega
    · split <;> omega

theorem eq_storedWidth_iff {v : Nat} : v = storedWidth v ↔ v ∈ [8, 16] := by
  unfold storedWidth
  simp only [List.mem_cons, List.not_mem_nil, or_false]
  split <;> omega

/-! ### The clamp report (R24) -/

theorem clampItem_eq_nil {field item received stored : Nat} : clampItem field item received stored = [] ↔
    received = stored := by
  unfold clampItem
  split <;> simp_all

/-- The items of the fields stored at another value, in their order. -/
def clampReport (item : Nat) (fields : List (Nat × Nat × Nat)) : List ClampItem :=
  fields.filterMap fun (field, received, stored) =>
    if received = stored then none else some { field := field, item := item, value := stored }

@[simp] theorem clampReport_nil (item : Nat) : clampReport item [] = [] := rfl

@[simp] theorem clampReport_cons (item field received stored : Nat) (rest : List (Nat × Nat × Nat)) :
    clampReport item ((field, received, stored) :: rest) = clampItem field item received stored ++ clampReport item rest := by
  unfold clampReport clampItem
  by_cases h : received = stored <;> simp [h]

theorem entryItems_eq {α : Type} (items : Nat → α → List ClampItem) (entries : List α) :
    entryItems items entries = (entries.mapIdx items).flatten := by
  rw [entryItems, List.mapIdx_eq_zipIdx_map, List.flatMap_def]

theorem entryItems_eq_nil {α : Type} {items : Nat → α → List ClampItem} {entries : List α} {P : α → Prop}
    (h : ∀ k v, items k v = [] ↔ P v) : entryItems items entries = [] ↔ ∀ v ∈ entries, P v := by
  rw [entryItems, List.flatMap_eq_nil_iff]
  refine ⟨fun hnil v hv => ?_, fun hall e he => (h ..).mpr (hall _ (List.fst_mem_of_mem_zipIdx he))⟩
  obtain ⟨k, hk, rfl⟩ := List.mem_iff_getElem.mp hv
  exact (h k _).mp (hnil (_, k) (List.mk_mem_zipIdx_iff_getElem?.mpr (by simp)))

/-! ### The items of a section are its clamp report -/

theorem clampReport_one (item field received stored : Nat) :
    clampReport item [(field, received, stored)] = clampItem field item received stored := by simp

theorem slotItems_eq (k : Nat) (e : SlotFields) : slotItems k e = clampReport k [(0, e.freq, (storedSlot e).freq),
    (1, e.mode, (storedSlot e).mode.code), (2, e.settle, (storedSlot e).settle),
    (3, e.integrate, (storedSlot e).integrate)] := by simp [slotItems]

theorem calItems_eq (k : Nat) (e : CalFields) : calItems k e =
    clampReport k [(0, e.rotation, (storedCal e).rotation), (1, e.gain, (storedCal e).gain)] := by simp [calItems]

theorem mixItems_eq (k : Nat) (e : MixFields) : mixItems k (some e) = clampReport k [(1, e.primary, (storedMix e).primary),
    (2, e.secondary, (storedMix e).secondary), (7, e.rotation, (storedMix e).rotation),
    (8, e.gain, (storedMix e).gain)] := by simp [mixItems]

theorem detectItems_eq (f : DetectFields) : detectItems f = clampReport 0 [(0, f.channel, (storedDetect f).channel),
    (1, f.tOpen, (storedDetect f).tOpen), (2, f.tClose, (storedDetect f).tClose), (3, f.qClose, (storedDetect f).qClose),
    (4, f.lMax, (storedDetect f).lMax), (5, f.aMin, (storedDetect f).aMin), (6, f.gateLow, (storedDetect f).gateLow),
    (7, f.gateHigh, (storedDetect f).gateHigh)] := by simp [detectItems]

theorem landmarkItems_eq (f : LandmarkFields) : landmarkItems f = clampReport 0 [(0, f.channel, (storedLandmark f).channel),
    (1, f.lOpen, (storedLandmark f).lOpen), (2, f.lClose, (storedLandmark f).lClose),
    (3, f.qLand, (storedLandmark f).qLand), (4, f.autoClose, switchCode (storedLandmark f).autoClose),
    (5, f.tolerance, (storedLandmark f).tolerance), (6, f.exitPos, (storedLandmark f).exitPos)] := by simp [landmarkItems]

theorem pointItems_eq (k : Nat) (e : CurvePoint) : pointItems k e =
    clampReport k [(0, e.phase, (storedPoint e).phase), (1, e.depth, (storedPoint e).depth)] := by simp [pointItems]

theorem travelItems_eq (f : TravelFields) : travelItems f = clampReport 0 [(0, f.step, (storedTravel f).step),
    (1, f.scale, (storedTravel f).scale), (2, f.sense, (storedTravel f).sense.code),
    (3, f.startTravel, (storedTravel f).startTravel), (4, f.period, (storedTravel f).period),
    (5, f.deglitch, (storedTravel f).deglitch), (6, f.speedGuard, switchCode (storedTravel f).speedGuard)] := by
  simp [travelItems]

theorem moveItems_eq (k : Nat) (e : MoveFields) : moveItems k e = clampReport k [(0, e.direction, (storedMove e).direction.code),
    (2, e.speed, (storedMove e).speed), (3, e.distance, (storedMove e).distance)] := by simp [moveItems]

/-! ### The sections -/

theorem storedChannel_eq (v : Nat) : storedChannel v = if 15 < v then 15 else v := by
  unfold storedChannel
  split <;> omega

theorem channelItems_eq_nil (k v : Nat) : channelItems k v = [] ↔ v ≤ 15 := clampItem_eq_nil.trans eq_min_iff

theorem streamItems_eq_nil (f : StreamFields) : streamItems f = [] ↔
    (∀ v ∈ f.channels, v ≤ 15) ∧ f.decimation ∈ [1, 2, 4, 8] ∧ f.width ∈ [8, 16] := by
  rw [streamItems, List.append_eq_nil_iff, List.append_eq_nil_iff, entryItems_eq_nil channelItems_eq_nil, clampItem_eq_nil,
    clampItem_eq_nil, and_assoc]
  exact and_congr_right' (and_congr eq_storedDecimation_iff eq_storedWidth_iff)

theorem streamItems_eq (f : StreamFields) : streamItems f =
    (f.channels.mapIdx fun k v => clampReport k [(0, v, if 15 < v then 15 else v)]).flatten ++
      clampReport 0 [(1, f.decimation, (storedStream f).decimation), (2, f.width, (storedStream f).width)] := by
  have channels : (fun k v => clampReport k [(0, v, if 15 < v then 15 else v)]) = channelItems := by
    funext k v
    rw [clampReport_cons, clampReport_nil, List.append_nil, ← storedChannel_eq]
    rfl
  rw [channels, ← entryItems_eq, streamItems]
  simp

theorem detectItems_eq_nil (f : DetectFields) : detectItems f = [] ↔ storedDetect f = f := by
  have fields : ∀ g : DetectFields, g = f ↔ f.channel = g.channel ∧ f.tOpen = g.tOpen ∧ f.tClose = g.tClose ∧
      f.qClose = g.qClose ∧ f.lMax = g.lMax ∧ f.aMin = g.aMin ∧ f.gateLow = g.gateLow ∧ f.gateHigh = g.gateHigh := fun g => by
    cases f
    cases g
    simp only [DetectFields.mk.injEq]
    constructor <;> (rintro ⟨rfl, rfl, rfl, rfl, rfl, rfl, rfl, rfl⟩; simp)
  rw [fields]
  simp only [detectItems, List.append_eq_nil_iff, clampItem_eq_nil, and_assoc]

theorem slotItems_eq_nil (k : Nat) (e : SlotFields) : slotItems k e = [] ↔
    e.freq ≤ 3 ∧ e.mode ≤ 2 ∧ e.settle ≤ 15 ∧ 1 ≤ e.integrate ∧ e.integrate ≤ 64 := by
  simp only [slotItems, storedSlot, List.append_eq_nil_iff, clampItem_eq_nil, storedMode_code, eq_min_iff,
    eq_clampTo_iff (show 1 ≤ 64 by decide), and_assoc]

theorem calItems_eq_nil (k : Nat) (e : CalFields) : calItems k e = [] ↔
    e.rotation < 3600 ∧ 1 ≤ e.gain ∧ e.gain ≤ 65535 := by
  simp only [calItems, storedCal, storedGain, List.append_eq_nil_iff, clampItem_eq_nil, eq_storedRotation_iff,
    eq_clampTo_iff (show 1 ≤ 65535 by decide)]

theorem mixItems_eq_nil (k : Nat) (e : MixFields) : mixItems k (some e) = [] ↔
    e.primary ≤ 15 ∧ e.secondary ≤ 15 ∧ e.rotation < 3600 ∧ 1 ≤ e.gain ∧ e.gain ≤ 65535 := by
  simp only [mixItems, storedMix, storedGain, List.append_eq_nil_iff, clampItem_eq_nil, eq_min_iff, eq_storedRotation_iff,
    eq_clampTo_iff (show 1 ≤ 65535 by decide), and_assoc]

theorem landmarkItems_eq_nil (f : LandmarkFields) : landmarkItems f = [] ↔
    f.channel ≤ 15 ∧ 1 ≤ f.lOpen ∧ f.lOpen ≤ 32767 ∧ f.lClose ≤ 32767 ∧ 1 ≤ f.qLand ∧ f.qLand ≤ 64 ∧ f.autoClose ≤ 1 ∧
      1 ≤ f.tolerance ∧ f.tolerance ≤ 500 ∧ f.exitPos ≤ 300000 := by
  simp only [landmarkItems, storedLandmark, List.append_eq_nil_iff, clampItem_eq_nil, storedSwitch_code, eq_min_iff,
    eq_clampTo_iff (show 1 ≤ 32767 by decide), eq_clampTo_iff (show 1 ≤ 64 by decide),
    eq_clampTo_iff (show 1 ≤ 500 by decide), and_assoc]

theorem pointItems_eq_nil (k : Nat) (e : CurvePoint) : pointItems k e = [] ↔ e.phase ≤ 3599 ∧ e.depth ≤ 100 := by
  simp only [pointItems, storedPoint, List.append_eq_nil_iff, clampItem_eq_nil, eq_min_iff]

theorem travelItems_eq_nil (f : TravelFields) : travelItems f = [] ↔
    250 ≤ f.step ∧ f.step ≤ 10000 ∧ 1 ≤ f.scale ∧ f.scale ≤ 1000 ∧ f.sense ≤ 1 ∧ 1 ≤ f.startTravel ∧ f.startTravel ≤ 500 ∧
      100 ≤ f.period ∧ f.period ≤ 100000 ∧ f.deglitch ≤ 63 ∧ f.speedGuard ≤ 1 := by
  simp only [travelItems, storedTravel, List.append_eq_nil_iff, clampItem_eq_nil, storedSense_code, storedSwitch_code,
    eq_min_iff, eq_clampTo_iff (show 250 ≤ 10000 by decide), eq_clampTo_iff (show 1 ≤ 1000 by decide),
    eq_clampTo_iff (show 1 ≤ 500 by decide), eq_clampTo_iff (show 100 ≤ 100000 by decide), and_assoc]

theorem moveItems_eq_nil (k : Nat) (e : MoveFields) : moveItems k e = [] ↔
    e.direction ≤ 1 ∧ 10 ≤ e.speed ∧ e.speed ≤ 3000 ∧ 1 ≤ e.distance ∧ e.distance ≤ 300000 := by
  simp only [moveItems, storedMove, List.append_eq_nil_iff, clampItem_eq_nil, storedDirection_code, eq_min_iff,
    eq_clampTo_iff (show Config.speedMin ≤ Config.speedMax by decide), eq_clampTo_iff (show 1 ≤ 300000 by decide), and_assoc]
  rfl

/-- Settles O15, section by section: a field is clamped, reduced or stands, and its item tells whether it stands. -/
theorem storedFieldsInRange : Obligations.StoredFieldsInRange := by
  refine ⟨?freq, ?slots, ?cal, ?mix, ?detect, ?landmark, ?supports, ?curve, ?travel, ?stream, ?moves,
    fun _ => entryItems_eq, fun _ _ _ _ => rfl⟩
  case freq =>
    exact fun v => ⟨clampTo_within (by decide) v, fun k => ⟨rfl, clampItem_eq_nil.trans (eq_clampTo_iff (by decide)),
      (clampReport_one ..).symm⟩⟩
  case slots =>
    exact fun k e => ⟨min_within .., storedMode_code e.mode ▸ min_within .., min_within .., clampTo_within (by decide) _,
      slotItems_eq_nil k e, slotItems_eq k e⟩
  case cal => exact fun k e => ⟨rfl, clampTo_within (by decide) _, calItems_eq_nil k e, calItems_eq k e⟩
  case mix =>
    exact fun k e => ⟨min_within .., min_within .., rfl, rfl, rfl, rfl, rfl, clampTo_within (by decide) _, rfl,
      mixItems_eq_nil k e, mixItems_eq k e⟩
  case detect =>
    exact fun f => ⟨min_within .., clampTo_within (by decide) _, min_within .., clampTo_within (by decide) _,
      clampTo_within (by decide) _, clampTo_within (by decide) _, min_within .., min_within .., detectItems_eq_nil f,
      detectItems_eq f⟩
  case landmark =>
    exact fun f => ⟨min_within .., clampTo_within (by decide) _, min_within .., clampTo_within (by decide) _,
      storedSwitch_code f.autoClose ▸ min_within .., clampTo_within (by decide) _, min_within .., landmarkItems_eq_nil f,
      landmarkItems_eq f⟩
  case supports => exact fun k v => ⟨min_within .., clampItem_eq_nil.trans eq_min_iff, (clampReport_one ..).symm⟩
  case curve => exact fun k e => ⟨min_within .., min_within .., pointItems_eq_nil k e, pointItems_eq k e⟩
  case travel =>
    exact fun f => ⟨clampTo_within (by decide) _, clampTo_within (by decide) _, storedSense_code f.sense ▸ min_within ..,
      clampTo_within (by decide) _, clampTo_within (by decide) _, min_within .., storedSwitch_code f.speedGuard ▸ min_within ..,
      travelItems_eq_nil f, travelItems_eq f⟩
  case stream =>
    exact fun f => ⟨congrArg (List.map · f.channels) (funext storedChannel_eq), rfl, rfl, streamItems_eq_nil f,
      streamItems_eq f⟩
  case moves =>
    exact fun k e => ⟨storedDirection_code e.direction ▸ min_within .., clampTo_within (by decide) _,
      clampTo_within (by decide) _, decide_eq_true_iff, moveItems_eq_nil k e, moveItems_eq k e⟩

end Sys2Proof.Machine

/-! PROOFS. The validation of a plan: the checks in their order, and the first that fails (R26). -/

namespace Sys2Proof.Machine

/-! ### The checks in their order -/

/-- A check made at an item, and whether it fails there. -/
abbrev MadeCheck := Nat × Nat × Bool

/-- What a list of checks reports: the first that fails. -/
def verdict (l : List MadeCheck) : Option PlanFault :=
  l.findSome? fun c => if c.2.2 then some (planFaultOf c.1 c.2.1) else none

/-- One check made at every item of a list. -/
def checkEach {α : Type} (check : Nat) (fails : Nat → α → Bool) (l : List α) : List MadeCheck :=
  l.zipIdx.map fun (e, k) => (check, k, fails k e)

/-- Several checks made at every item of a list. -/
def checkAll {α : Type} (checks : α → Nat → List MadeCheck) (l : List α) : List MadeCheck :=
  l.zipIdx.flatMap fun (e, k) => checks e k

/-- Checks 2 to 4 at an entry of the mix section. -/
def Plan.mixChecks (w : Plan) (e : Option MixFields) (k : Nat) : List MadeCheck :=
  match e with
  | none => []
  | some m => [(2, k, !w.rawExists m.primary), (3, k, !w.rawExists m.secondary), (4, k, m.primary == m.secondary)]

/-- Checks 11 and 12 at a stream channel. -/
def Plan.streamChecks (w : Plan) (n k : Nat) : List MadeCheck :=
  [(11, k, !w.channelExists n), (12, k, (w.stream.channels.take k).contains n)]

/-- The checks of R26 in the order they are made. -/
def Plan.checks (w : Plan) : List MadeCheck :=
  checkEach 1 (fun _ e => (w.fCode e.freq).isNone) w.slots ++ (checkAll w.mixChecks w.mix ++
  ([(5, 0, !w.channelExists w.detect.channel)] ++ ([(6, 1, decide (w.detect.gateHigh < w.detect.gateLow))] ++
  ([(7, 0, !w.channelExists w.landmark.channel)] ++ (checkEach 8 (fun k _ => notAbove w.supports k) w.supports ++
  ([(9, 0, w.curve.length == 1)] ++
  (checkEach 10 (fun k _ => notAbove (w.curve.map CurvePoint.phase) k) (w.curve.map CurvePoint.phase) ++
  checkAll w.streamChecks w.stream.channels)))))))

/-! ### Validation reports the first check that fails -/

theorem verdict_append (l l' : List MadeCheck) : verdict (l ++ l') = (verdict l).or (verdict l') := List.findSome?_append

theorem verdict_one (check k : Nat) (fails : Bool) : verdict [(check, k, fails)] =
    if fails then some (planFaultOf check k) else none := by
  cases fails <;> rfl

theorem verdict_checkEach {α : Type} (check : Nat) (fails : Nat → α → Bool) (l : List α) : verdict (checkEach check fails l) =
    firstFault (fun k e => if fails k e then some (planFaultOf check k) else none) l := List.findSome?_map

theorem verdict_flatMap {α : Type} (f : α → List MadeCheck) (l : List α) :
    verdict (l.flatMap f) = l.findSome? fun x => verdict (f x) := by
  induction l with
  | nil => rfl
  | cons x rest ih =>
    rw [List.flatMap_cons, verdict_append, ih, List.findSome?_cons]
    cases verdict (f x) <;> rfl

theorem verdict_checkAll {α : Type} (checks : α → Nat → List MadeCheck) (l : List α) :
    verdict (checkAll checks l) = firstFault (fun k e => verdict (checks e k)) l := verdict_flatMap _ _

theorem validate_eq (w : Plan) : w.validate = verdict w.checks := by
  have mixes : firstFault (checkMix w) w.mix = verdict (checkAll w.mixChecks w.mix) := by
    rw [verdict_checkAll]
    refine congrArg (firstFault · w.mix) (funext₂ fun k e => ?_)
    cases e with
    | none => rfl
    | some m =>
      exact ((verdict_append [(2, k, _)] [(3, k, _), (4, k, _)]).trans (congrArg₂ Option.or (verdict_one ..)
        ((verdict_append [(3, k, _)] [(4, k, _)]).trans (congrArg₂ Option.or (verdict_one ..) (verdict_one ..))))).symm
  have streams : firstFault (checkStream w) w.stream.channels = verdict (checkAll w.streamChecks w.stream.channels) := by
    rw [verdict_checkAll]
    refine congrArg (firstFault · w.stream.channels) (funext₂ fun k n => ?_)
    exact ((verdict_append [(11, k, _)] [(12, k, _)]).trans (congrArg₂ Option.or (verdict_one ..) (verdict_one ..))).symm
  rw [Plan.validate, mixes, streams]
  simp only [Plan.checks, verdict_append, verdict_one, verdict_checkEach]
  rfl

/-! ### The checks are made in the order of R26 -/

/-- One made check comes before another. -/
def MadeCheck.before (c c' : MadeCheck) : Prop := MadeBefore c.1 c.2.1 c'.1 c'.2.1

theorem zipIdx_pairwise {α : Type} (l : List α) : l.zipIdx.Pairwise fun x y => x.2 < y.2 := by
  rw [List.pairwise_iff_getElem]
  intro i j hi hj hij
  simpa using hij

theorem checkEach_pairwise {α : Type} (check : Nat) (fails : Nat → α → Bool) (l : List α) :
    (checkEach check fails l).Pairwise MadeCheck.before :=
  List.pairwise_map.mpr ((zipIdx_pairwise l).imp fun h => .inr ⟨rfl, .inl h⟩)

theorem checkEach_group {α : Type} {check : Nat} {fails : Nat → α → Bool} {l : List α} {c : MadeCheck}
    (h : c ∈ checkEach check fails l) : c.1 = check := by
  obtain ⟨x, -, rfl⟩ := List.mem_map.mp h
  rfl

/-- Checks made together at each item of a list. -/
theorem checkAll_pairwise {α : Type} {checks : α → Nat → List MadeCheck} {group : Nat} (l : List α)
    (hitem : ∀ e k, ∀ c ∈ checks e k, checkGroup c.1 = group ∧ c.2.1 = k)
    (hwithin : ∀ e k, (checks e k).Pairwise fun c c' => c.1 < c'.1) :
    (checkAll checks l).Pairwise MadeCheck.before := by
  refine List.pairwise_flatMap.mpr ⟨fun x _ => (List.Pairwise.and_mem.mp (hwithin x.1 x.2)).imp fun {c c'} ⟨hc, hc', hlt⟩ => ?_,
    (zipIdx_pairwise l).imp fun {x y} hlt c hc c' hc' => ?_⟩
  · obtain ⟨hgroup, hk⟩ := hitem x.1 x.2 c hc
    obtain ⟨hgroup', hk'⟩ := hitem y.1 y.2 c' hc'
    exact .inr ⟨hgroup.trans hgroup'.symm, .inl (by rwa [hk, hk'])⟩
  · obtain ⟨hgroup, hk⟩ := hitem x.1 x.2 c hc
    obtain ⟨hgroup', hk'⟩ := hitem x.1 x.2 c' hc'
    exact .inr ⟨hgroup.trans hgroup'.symm, .inr ⟨hk.trans hk'.symm, hlt⟩⟩

theorem mixChecks_item (w : Plan) (e : Option MixFields) (k : Nat) : ∀ c ∈ w.mixChecks e k, checkGroup c.1 = 2 ∧ c.2.1 = k := by
  cases e with
  | none => exact fun c hc => absurd hc List.not_mem_nil
  | some m =>
    simp only [Plan.mixChecks, List.mem_cons, List.not_mem_nil, or_false]
    rintro c (rfl | rfl | rfl) <;> exact ⟨rfl, rfl⟩

theorem streamChecks_item (w : Plan) (n k : Nat) : ∀ c ∈ w.streamChecks n k, checkGroup c.1 = 11 ∧ c.2.1 = k := by
  simp only [Plan.streamChecks, List.mem_cons, List.not_mem_nil, or_false]
  rintro c (rfl | rfl) <;> exact ⟨rfl, rfl⟩

/-- Checks made in their order, all of them after those of a group. -/
def MadeAfter (group : Nat) (l : List MadeCheck) : Prop := l.Pairwise MadeCheck.before ∧ ∀ c ∈ l, group < checkGroup c.1

theorem MadeAfter.append {group group' : Nat} {l l' : List MadeCheck} (h' : MadeAfter group' l') (hlt : group < group')
    (hl : l.Pairwise MadeCheck.before) (hgroup : ∀ c ∈ l, checkGroup c.1 = group') : MadeAfter group (l ++ l') := by
  obtain ⟨hl', hlater⟩ := h'
  refine ⟨List.pairwise_append.mpr ⟨hl, hl', fun c hc c' hc' => .inl ((hgroup c hc).trans_lt (hlater c' hc'))⟩, fun c hc => ?_⟩
  rcases List.mem_append.mp hc with hc | hc
  · exact hlt.trans_eq (hgroup c hc).symm
  · exact hlt.trans (hlater c hc)

theorem checkAll_group {α : Type} {checks : α → Nat → List MadeCheck} {group : Nat} {l : List α}
    (hitem : ∀ e k, ∀ c ∈ checks e k, checkGroup c.1 = group ∧ c.2.1 = k) : ∀ c ∈ checkAll checks l, checkGroup c.1 = group :=
  fun c hc => by
    obtain ⟨x, -, hc⟩ := List.mem_flatMap.mp hc
    exact (hitem x.1 x.2 c hc).1

theorem one_group {check k : Nat} {fails : Bool} : ∀ c ∈ [((check, k, fails) : MadeCheck)], checkGroup c.1 = checkGroup check :=
  fun c hc => by rw [List.mem_singleton.mp hc]

theorem checks_madeAfter (w : Plan) : MadeAfter 0 w.checks := by
  have streams : MadeAfter 10 (checkAll w.streamChecks w.stream.channels) :=
    ⟨checkAll_pairwise _ (streamChecks_item w) fun n k => by simp [Plan.streamChecks],
     fun c hc => by rw [checkAll_group (streamChecks_item w) c hc]; decide⟩
  have mixes : (checkAll w.mixChecks w.mix).Pairwise MadeCheck.before :=
    checkAll_pairwise _ (mixChecks_item w) fun e k => by cases e <;> simp [Plan.mixChecks]
  have each : ∀ {α : Type} {check : Nat} {fails : Nat → α → Bool} {l : List α}, ∀ c ∈ checkEach check fails l,
      checkGroup c.1 = checkGroup check := fun c hc => by rw [checkEach_group hc]
  exact (((((((streams.append (by decide) (checkEach_pairwise ..) each).append (by decide)
    (List.pairwise_singleton ..) one_group).append (by decide) (checkEach_pairwise ..) each).append (by decide)
    (List.pairwise_singleton ..) one_group).append (by decide) (List.pairwise_singleton ..) one_group).append (by decide)
    (List.pairwise_singleton ..) one_group).append (by decide) mixes (checkAll_group (mixChecks_item w))).append (by decide)
    (checkEach_pairwise ..) each

/-! ### Where a check fails -/

theorem rawExists_iff {w : Plan} {n : Nat} : w.rawExists n = true ↔ n < 12 ∧ n < w.slots.length := by
  rw [Plan.rawExists, Bool.and_eq_true, decide_eq_true_iff, decide_eq_true_iff, and_comm]
  rfl

theorem channelExists_iff {w : Plan} {n : Nat} : w.channelExists n = true ↔ w.hasChannel n := by
  unfold Plan.channelExists Plan.hasChannel
  split
  next h =>
    rw [rawExists_iff]
    exact ⟨.inl, fun h' => h'.elim id fun ⟨hge, _⟩ => absurd h (Nat.not_lt.mpr hge)⟩
  next h =>
    have hge : 12 ≤ n := Nat.not_lt.mp h
    rw [Option.isSome_iff_exists]
    simp only [Option.join_eq_some_iff]
    exact ⟨fun hm => .inr ⟨hge, hm⟩, fun h' => h'.elim (fun ⟨hlt, _⟩ => absurd hlt h) fun ⟨_, hm⟩ => hm⟩

theorem mem_checkEach {α : Type} {check check' k : Nat} {fails : Nat → α → Bool} {l : List α} :
    (check', k, true) ∈ checkEach check fails l ↔ check' = check ∧ ∃ e, l[k]? = some e ∧ fails k e = true := by
  constructor
  · intro h
    obtain ⟨⟨e, j⟩, hx, heq⟩ := List.mem_map.mp h
    obtain ⟨rfl, rfl, hfails⟩ : check = check' ∧ j = k ∧ fails j e = true := by simpa using heq
    exact ⟨rfl, e, List.mk_mem_zipIdx_iff_getElem?.mp hx, hfails⟩
  · rintro ⟨rfl, e, he, hfails⟩
    exact List.mem_map.mpr ⟨(e, k), List.mk_mem_zipIdx_iff_getElem?.mpr he, congrArg (fun b => (check', k, b)) hfails⟩

theorem mem_checkAll {α : Type} {c : MadeCheck} {checks : α → Nat → List MadeCheck} {l : List α}
    (hitem : ∀ e k, ∀ c ∈ checks e k, c.2.1 = k) : c ∈ checkAll checks l ↔ ∃ e, l[c.2.1]? = some e ∧ c ∈ checks e c.2.1 := by
  constructor
  · intro h
    obtain ⟨⟨e, j⟩, hx, hc⟩ := List.mem_flatMap.mp h
    obtain rfl := hitem e j c hc
    exact ⟨e, List.mk_mem_zipIdx_iff_getElem?.mp hx, hc⟩
  · rintro ⟨e, he, hc⟩
    exact List.mem_flatMap.mpr ⟨(e, c.2.1), List.mk_mem_zipIdx_iff_getElem?.mpr he, hc⟩

/-- A list of positions is out of order at an item where the one before it is not below it. -/
theorem notAbove_iff {l : List Nat} {k b : Nat} (hb : l[k]? = some b) : notAbove l k = true ↔
    ∃ j a, k = j + 1 ∧ l[j]? = some a ∧ b ≤ a := by
  cases k with
  | zero => simp [notAbove]
  | succ j =>
    obtain ⟨hlt, rfl⟩ := List.getElem?_eq_some_iff.mp hb
    have hj : l[j]? = some l[j] := List.getElem?_eq_getElem (by omega)
    simp only [notAbove, decide_eq_true_eq, List.getD_eq_getElem?_getD, hb, hj, Option.getD_some]
    constructor
    · exact fun h => ⟨j, l[j], rfl, hj, h⟩
    · rintro ⟨j', a, hjj, ha, hle⟩
      obtain rfl : j = j' := by omega
      rw [hj] at ha
      cases ha
      exact hle

theorem mem_mixChecks_iff {w : Plan} {check k : Nat} : (check, k, true) ∈ checkAll w.mixChecks w.mix ↔
    (check = 2 ∨ check = 3 ∨ check = 4) ∧ w.FailsAt check k := by
  rw [mem_checkAll fun e k c hc => (mixChecks_item w e k c hc).2]
  constructor
  · rintro ⟨_ | m, he, hc⟩
    · cases hc
    · simp only [Plan.mixChecks, List.mem_cons, List.not_mem_nil, or_false, Prod.mk.injEq, true_and] at hc
      rcases hc with ⟨rfl, h⟩ | ⟨rfl, h⟩ | ⟨rfl, h⟩
      · exact ⟨by simp, m, he, by rw [← rawExists_iff]; simpa using h⟩
      · exact ⟨by simp, m, he, by rw [← rawExists_iff]; simpa using h⟩
      · exact ⟨by simp, m, he, by simpa using h⟩
  · rintro ⟨rfl | rfl | rfl, m, he, h⟩
    · exact ⟨_, he, by simpa [Plan.mixChecks, ← rawExists_iff] using h⟩
    · exact ⟨_, he, by simpa [Plan.mixChecks, ← rawExists_iff] using h⟩
    · exact ⟨_, he, by simpa [Plan.mixChecks] using h⟩

theorem mem_streamChecks_iff {w : Plan} {check k : Nat} : (check, k, true) ∈ checkAll w.streamChecks w.stream.channels ↔
    (check = 11 ∨ check = 12) ∧ w.FailsAt check k := by
  rw [mem_checkAll fun n k c hc => (streamChecks_item w n k c hc).2]
  constructor
  · rintro ⟨n, hn, hc⟩
    simp only [Plan.streamChecks, List.mem_cons, List.not_mem_nil, or_false, Prod.mk.injEq, true_and] at hc
    rcases hc with ⟨rfl, h⟩ | ⟨rfl, h⟩
    · exact ⟨by simp, n, hn, by rw [← channelExists_iff]; simpa using h⟩
    · exact ⟨by simp, n, hn, by simpa using h⟩
  · rintro ⟨rfl | rfl, n, hn, h⟩
    · exact ⟨n, hn, by simpa [Plan.streamChecks, ← channelExists_iff] using h⟩
    · exact ⟨n, hn, by simpa [Plan.streamChecks] using h⟩

/-- The checks made that fail are those that R26 says fail. -/
theorem mem_checks_iff {w : Plan} {check k : Nat} : (check, k, true) ∈ w.checks ↔ w.FailsAt check k := by
  have slots : (∃ e, w.slots[k]? = some e ∧ (w.fCode e.freq).isNone = true) ↔ w.FailsAt 1 k := by
    simp only [Plan.FailsAt, Option.isNone_iff_eq_none]
    rfl
  have exists_not : ∀ n, (true = !w.channelExists n) ↔ ¬ w.hasChannel n := fun n => by
    rw [← channelExists_iff, eq_comm, Bool.not_eq_true', Bool.not_eq_true]
  have supports : (∃ e, w.supports[k]? = some e ∧ notAbove w.supports k = true) ↔ w.FailsAt 8 k := by
    constructor
    · rintro ⟨e, he, h⟩
      obtain ⟨j, a, hk, ha, hle⟩ := (notAbove_iff he).mp h
      exact ⟨j, a, e, hk, ha, he, hle⟩
    · rintro ⟨j, a, e, hk, ha, he, hle⟩
      exact ⟨e, he, (notAbove_iff he).mpr ⟨j, a, hk, ha, hle⟩⟩
  have curve : (∃ e, (w.curve.map CurvePoint.phase)[k]? = some e ∧ notAbove (w.curve.map CurvePoint.phase) k = true) ↔
      w.FailsAt 10 k := by
    constructor
    · rintro ⟨e, he, h⟩
      obtain ⟨j, a, hk, ha, hle⟩ := (notAbove_iff he).mp h
      rw [List.getElem?_map, Option.map_eq_some_iff] at he ha
      obtain ⟨x, hx, rfl⟩ := he
      obtain ⟨y, hy, rfl⟩ := ha
      exact ⟨j, y, x, hk, hy, hx, hle⟩
    · rintro ⟨j, y, x, hk, hy, hx, hle⟩
      have he : (w.curve.map CurvePoint.phase)[k]? = some x.phase := by rw [List.getElem?_map, hx]; rfl
      have ha : (w.curve.map CurvePoint.phase)[j]? = some y.phase := by rw [List.getElem?_map, hy]; rfl
      exact ⟨_, he, (notAbove_iff he).mpr ⟨j, _, hk, ha, hle⟩⟩
  simp only [Plan.checks, List.mem_append, mem_checkEach, mem_mixChecks_iff, mem_streamChecks_iff, List.mem_singleton,
    Prod.mk.injEq, slots, supports, curve, exists_not, eq_comm (a := true), decide_eq_true_iff, beq_iff_eq]
  constructor
  · rintro (⟨rfl, h⟩ | ⟨-, h⟩ | ⟨rfl, h⟩ | ⟨rfl, h⟩ | ⟨rfl, h⟩ | ⟨rfl, h⟩ | ⟨rfl, h⟩ | ⟨rfl, h⟩ | ⟨-, h⟩) <;> exact h
  · intro h
    match check, h with
    | 1, h => exact .inl ⟨rfl, h⟩
    | 2, h => exact .inr (.inl ⟨.inl rfl, h⟩)
    | 3, h => exact .inr (.inl ⟨.inr (.inl rfl), h⟩)
    | 4, h => exact .inr (.inl ⟨.inr (.inr rfl), h⟩)
    | 5, h => exact .inr (.inr (.inl ⟨rfl, h⟩))
    | 6, h => exact .inr (.inr (.inr (.inl ⟨rfl, h⟩)))
    | 7, h => exact .inr (.inr (.inr (.inr (.inl ⟨rfl, h⟩))))
    | 8, h => exact .inr (.inr (.inr (.inr (.inr (.inl ⟨rfl, h⟩)))))
    | 9, h => exact .inr (.inr (.inr (.inr (.inr (.inr (.inl ⟨rfl, h⟩))))))
    | 10, h => exact .inr (.inr (.inr (.inr (.inr (.inr (.inr (.inl ⟨rfl, h⟩)))))))
    | 11, h => exact .inr (.inr (.inr (.inr (.inr (.inr (.inr (.inr ⟨.inl rfl, h⟩)))))))
    | 12, h => exact .inr (.inr (.inr (.inr (.inr (.inr (.inr (.inr ⟨.inr rfl, h⟩)))))))

/-! ### The failing check made first -/

theorem verdict_none {l : List MadeCheck} (h : ∀ check k, (check, k, true) ∉ l) : verdict l = none :=
  List.findSome?_eq_none_iff.mpr fun ⟨check, k, fails⟩ hc => by
    cases fails with
    | false => rfl
    | true => exact absurd hc (h check k)

/-- Where a check fails, the verdict of checks made in their order is that of one that fails, none of them before it. -/
theorem verdict_some {l : List MadeCheck} (hl : l.Pairwise MadeCheck.before) {check k : Nat} (h : (check, k, true) ∈ l) :
    ∃ check' k', (check', k', true) ∈ l ∧ verdict l = some (planFaultOf check' k') ∧
      ((check', k') = (check, k) ∨ MadeBefore check' k' check k) := by
  induction l with
  | nil => cases h
  | cons c rest ih =>
    obtain ⟨hfirst, hrest⟩ := List.pairwise_cons.mp hl
    obtain ⟨check', k', fails⟩ := c
    cases fails with
    | true =>
      refine ⟨check', k', List.mem_cons_self .., rfl, ?_⟩
      rcases List.mem_cons.mp h with heq | hmem
      · cases heq
        exact .inl rfl
      · exact .inr (hfirst _ hmem)
    | false =>
      have hmem : (check, k, true) ∈ rest := (List.mem_cons.mp h).resolve_left (by simp)
      obtain ⟨check'', k'', hmem', hverdict, hbefore⟩ := ih hrest hmem
      exact ⟨check'', k'', List.mem_cons_of_mem _ hmem', hverdict, hbefore⟩

theorem validate_none_iff {w : Plan} : w.validate = none ↔ ∀ check k, ¬ w.FailsAt check k := by
  rw [validate_eq]
  refine ⟨fun hnone check k hfails => ?_, fun h => verdict_none fun check k hmem => h check k (mem_checks_iff.mp hmem)⟩
  obtain ⟨check', k', -, hverdict, -⟩ := verdict_some (checks_madeAfter w).1 (mem_checks_iff.mpr hfails)
  rw [hnone] at hverdict
  cases hverdict

theorem validate_first {w : Plan} {check k : Nat} (hfails : w.FailsAt check k)
    (hfirst : ∀ check' k', w.FailsAt check' k' → ¬ MadeBefore check' k' check k) :
    w.validate = some (planFaultOf check k) := by
  obtain ⟨check', k', hmem, hverdict, heq | hbefore⟩ := verdict_some (checks_madeAfter w).1 (mem_checks_iff.mpr hfails)
  · cases heq
    rw [validate_eq, hverdict]
  · exact absurd hbefore (hfirst _ _ (mem_checks_iff.mp hmem))

/-! ### What a plan that passes can rely on -/

theorem pairwise_of_neighbours {l : List Nat}
    (h : ∀ j a b, l[j]? = some a → l[j + 1]? = some b → a < b) : l.Pairwise (· < ·) := by
  rw [← List.isChain_iff_pairwise, List.isChain_iff_getElem]
  exact fun j hj => h j _ _ (List.getElem?_eq_getElem _) (List.getElem?_eq_getElem hj)

/-- Settles O20: the checks in their order, and what each of them leaves to rely on. -/
theorem validationAdmits : Obligations.ValidationAdmits := by
  refine ⟨fun w => ⟨validate_none_iff, fun check k => validate_first⟩, fun w hvalid => ?_⟩
  have passes := validate_none_iff.mp hvalid
  refine ⟨fun e he => ?_, fun m hm => ?_, ?_, ?_, ?_, ?_, fun hone => passes 9 0 ⟨rfl, hone⟩, ?_, fun n hn => ?_, ?_⟩
  · obtain ⟨k, hk⟩ := List.mem_iff_getElem?.mp he
    exact Option.ne_none_iff_isSome.mp fun hnone => passes 1 k ⟨e, hk, hnone⟩
  · obtain ⟨k, hk⟩ := List.mem_iff_getElem?.mp hm
    obtain ⟨-, hprimary⟩ := not_not.mp fun h => passes 2 k ⟨m, hk, h⟩
    obtain ⟨-, hsecondary⟩ := not_not.mp fun h => passes 3 k ⟨m, hk, h⟩
    exact ⟨hprimary, hsecondary, fun h => passes 4 k ⟨m, hk, h⟩⟩
  · exact channelExists_iff.mpr (not_not.mp fun h => passes 5 0 ⟨rfl, h⟩)
  · exact not_lt.mp fun h => passes 6 1 ⟨rfl, h⟩
  · exact channelExists_iff.mpr (not_not.mp fun h => passes 7 0 ⟨rfl, h⟩)
  · exact pairwise_of_neighbours fun j a b ha hb => not_le.mp fun h => passes 8 (j + 1) ⟨j, a, b, rfl, ha, hb, h⟩
  · refine pairwise_of_neighbours fun j a b ha hb => not_le.mp fun h => ?_
    rw [List.getElem?_map, Option.map_eq_some_iff] at ha hb
    obtain ⟨x, hx, rfl⟩ := ha
    obtain ⟨y, hy, rfl⟩ := hb
    exact passes 10 (j + 1) ⟨j, x, y, rfl, hx, hy, h⟩
  · obtain ⟨k, hk⟩ := List.mem_iff_getElem?.mp hn
    exact channelExists_iff.mpr (not_not.mp fun h => passes 11 k ⟨n, hk, h⟩)
  · refine List.pairwise_iff_getElem.mpr fun i j hi hj hij heq => passes 12 j ⟨_, List.getElem?_eq_getElem hj, ?_⟩
    exact List.mem_take_iff_getElem.mpr ⟨i, by omega, heq⟩

end Sys2Proof.Machine

/-! PROOFS. The null table and calibration (R77 to R82, R87, R88), the support map (R119 to R121, R128), and the windows of the
detector and of the landmark unit judged (R101, R107 to R109, R115 to R118, R124, R125, R127). -/

namespace Sys2Proof.Machine

variable {p q : PortId} {s t : State} {b : PortBlocks}

/-! ### The null table (R87, R88) -/

theorem nulledTable_getElem? (nulls : List NullEntry) (sums : List ChannelValue) (k : Nat) :
    (nulledTable nulls sums)[k]? = (nulls[k]?).map fun e => match sums[k]? with
      | none => e
      | some v => nulledEntry e v := by
  induction nulls generalizing sums k with
  | nil => simp [nulledTable]
  | cons e nulls ih =>
    cases sums with
    | nil => simp [nulledTable]
    | cons v sums =>
      cases k with
      | zero => rfl
      | succ k => exact ih sums k

theorem mem_saturatedFrom {sums : List ChannelValue} {j k : Nat} : k ∈ saturatedFrom j sums ↔
    j ≤ k ∧ ∃ v, sums[k - j]? = some v ∧ v.saturated = true := by
  induction sums generalizing j with
  | nil => simp [saturatedFrom]
  | cons v rest ih =>
    have later : k ∈ saturatedFrom (j + 1) rest ↔ j < k ∧ ∃ x, (v :: rest)[k - j]? = some x ∧ x.saturated = true := by
      rw [ih]
      refine and_congr_right fun hlt => ?_
      rw [show k - j = (k - (j + 1)) + 1 by omega, List.getElem?_cons_succ]
    have first : (j ≤ k ∧ ∃ x, (v :: rest)[k - j]? = some x ∧ x.saturated = true) ↔
        (k = j ∧ v.saturated = true) ∨ (j < k ∧ ∃ x, (v :: rest)[k - j]? = some x ∧ x.saturated = true) := by
      constructor
      · rintro ⟨hle, x, hx, hsat⟩
        rcases hle.eq_or_lt with rfl | hlt
        · rw [Nat.sub_self] at hx
          cases hx
          exact .inl ⟨rfl, hsat⟩
        · exact .inr ⟨hlt, x, hx, hsat⟩
      · rintro (⟨rfl, hsat⟩ | ⟨hlt, hx⟩)
        · exact ⟨le_rfl, v, by rw [Nat.sub_self]; rfl, hsat⟩
        · exact ⟨hlt.le, hx⟩
    rw [saturatedFrom, first]
    split
    next hsat => rw [List.mem_cons, later]; simp [hsat]
    next hsat => rw [later]; simp [hsat]

/-! ### Rotation, gain and clamp (R77 to R82) -/

theorem clampSample_ne_iff {v : Int} : clampSample v ≠ v ↔ v < -32768 ∨ 32767 < v := by
  rw [show clampSample v = max (-32768) (min 32767 v) from rfl]
  omega

/-- The rotation, the gain and the clamp, with a saturated flag set before them. -/
theorem shape_shaped (rotation gain : Nat) (x y : Int) (before : Bool) : Shaped rotation gain x y before
    { shape rotation gain x y with saturated := before || (shape rotation gain x y).saturated } := by
  refine ⟨rfl, rfl, ?_⟩
  simp only [shape, Bool.or_eq_true, decide_eq_true_iff, clampSample_ne_iff, or_assoc]
  rfl

/-- Settles O22: the table entry by entry, and each value as rotation, gain and clamp make it. -/
theorem nullsAndCalibration : Obligations.NullsAndCalibration := by
  refine ⟨fun nulls sums k e he => ⟨?_, fun v hv => ?_⟩, fun nulls cal e => shape_shaped .., fun nulls w samples seqNo kind pos =>
    ⟨rfl, rfl, rfl, rfl, List.length_map _, fun k hk => ?_, fun k m a z hk ha hz => ⟨mixOf m a z, ?_, shape_shaped ..⟩⟩⟩
  · rw [nulledTable_getElem?, he]
    rfl
  · rw [mem_saturatedFrom, Nat.sub_zero, hv]
    simp
  · rw [calibrate, List.getElem?_map, hk]
    rfl
  · have hmix : mixValue (samples.map (rawValue nulls w.cal)) m = mixOf m a z := by
      rw [mixValue, List.getD_eq_getElem?_getD, List.getD_eq_getElem?_getD,
        show (samples.map (rawValue nulls w.cal))[m.primary]? = some a from ha,
        show (samples.map (rawValue nulls w.cal))[m.secondary]? = some z from hz]
      rfl
    rw [calibrate, List.getElem?_map, hk]
    exact congrArg (fun v => some (some v)) hmix

/-! ### The support map (R119 to R121, R128) -/

/-- The pointer lies at an entry at or below P0 and above it every entry lies beyond P0; it is none where all do. -/
theorem pointerBelow_spec (supports : List Nat) (p0 n : Nat) :
    (∀ k, pointerBelow supports p0 n = some k →
      k < n ∧ nominal supports k ≤ p0 ∧ ∀ j, k < j → j < n → p0 < nominal supports j) ∧
    (pointerBelow supports p0 n = none → ∀ j, j < n → p0 < nominal supports j) := by
  induction n with
  | zero => exact ⟨nofun, fun _ j hj => absurd hj (Nat.not_lt_zero j)⟩
  | succ n ih =>
    obtain ⟨found, absent⟩ := ih
    rw [pointerBelow]
    split
    next hle =>
      refine ⟨fun k hk => ?_, nofun⟩
      cases hk
      exact ⟨Nat.lt_succ_self n, hle, fun j hlt hj => by omega⟩
    next hgt =>
      have last : p0 < nominal supports n := not_le.mp hgt
      refine ⟨fun k hk => ?_, fun hnone j hj => ?_⟩
      · obtain ⟨hlt, hle, above⟩ := found k hk
        exact ⟨hlt.trans (Nat.lt_succ_self n), hle, fun j hj hjn =>
          (Nat.lt_succ_iff_lt_or_eq.mp hjn).elim (above j hj) fun h => h ▸ last⟩
      · exact (Nat.lt_succ_iff_lt_or_eq.mp hj).elim (absent hnone j) fun h => h ▸ last

theorem nominal_of_getElem? {supports : List Nat} {k e : Nat} (h : supports[k]? = some e) : nominal supports k = e := by
  rw [nominal, List.getD_eq_getElem?_getD, h]
  rfl

/-- The entries passed are those from the pointer down to the one that remains, none of them reached. -/
theorem passFrom_spec (supports : List Nat) (tolerance : Nat) (pos : Int) (k : Nat) :
    let r := passFrom supports tolerance pos k
    (∀ j ∈ r.1, j ≤ k ∧ pos < (nominal supports j : Int) - tolerance) ∧ r.1.Pairwise (fun a b => b < a) ∧
    (∀ m, r.2 = some m → m ≤ k ∧ ¬ pos < (nominal supports m : Int) - tolerance ∧ ∀ j, j ∈ r.1 ↔ m < j ∧ j ≤ k) ∧
    (r.2 = none → ∀ j, j ∈ r.1 ↔ j ≤ k) := by
  induction k with
  | zero =>
    rw [passFrom]
    split
    next hpassed =>
      refine ⟨fun j hj => ?_, List.pairwise_singleton .., nofun, fun _ j => by simp⟩
      obtain rfl := List.mem_singleton.mp hj
      exact ⟨le_rfl, decide_eq_true_iff.mp hpassed⟩
    next hpassed =>
      refine ⟨nofun, .nil, fun m hm => ?_, nofun⟩
      cases hm
      exact ⟨le_rfl, fun h => hpassed (decide_eq_true_iff.mpr h), fun j => by simp; omega⟩
  | succ k ih =>
    obtain ⟨passed, ordered, stops, exhausts⟩ := ih
    rw [passFrom]
    split
    next hpassed =>
      refine ⟨fun j hj => ?_, List.pairwise_cons.mpr ⟨fun j hj => Nat.lt_succ_of_le (passed j hj).1, ordered⟩,
        fun m hm => ?_, fun hnone j => ?_⟩
      · rcases List.mem_cons.mp hj with rfl | hj
        · exact ⟨le_rfl, decide_eq_true_iff.mp hpassed⟩
        · exact ⟨(passed j hj).1.trans (Nat.le_succ k), (passed j hj).2⟩
      · obtain ⟨hle, hstands, hmem⟩ := stops m hm
        refine ⟨hle.trans (Nat.le_succ k), hstands, fun j => ?_⟩
        rw [List.mem_cons, hmem]
        omega
      · rw [List.mem_cons, exhausts hnone]
        omega
    next hpassed =>
      refine ⟨nofun, .nil, fun m hm => ?_, nofun⟩
      cases hm
      exact ⟨le_rfl, fun h => hpassed (decide_eq_true_iff.mpr h), fun j => by simp⟩

theorem judge_matches {supports : List Nat} {tolerance k : Nat} {w : ClosedLandmark} {u : LandmarkUnit}
    (hk : (passEntries supports tolerance w.peak.pos u.pointer).2 = some k)
    (hnear : (w.peak.pos - (nominal supports k : Int)).natAbs ≤ tolerance) : u.judge supports tolerance w =
    ({ u with
        correction := u.correction + ((nominal supports k : Int) - w.peak.pos), matched := u.matched + 1
        pointer := pointerDown k },
      (passEntries supports tolerance w.peak.pos u.pointer).1.map (missingEntry supports) ++ [w.supportEntry supports k]) := by
  simp only [LandmarkUnit.judge, hk, if_pos hnear]
  rfl

theorem judge_extra {supports : List Nat} {tolerance : Nat} {w : ClosedLandmark} {u : LandmarkUnit}
    (hfar : ∀ k, (passEntries supports tolerance w.peak.pos u.pointer).2 = some k →
      tolerance < (w.peak.pos - (nominal supports k : Int)).natAbs) : u.judge supports tolerance w =
    ({ u with pointer := (passEntries supports tolerance w.peak.pos u.pointer).2 },
      (passEntries supports tolerance w.peak.pos u.pointer).1.map (missingEntry supports) ++ [w.entry .extra]) := by
  cases hk : (passEntries supports tolerance w.peak.pos u.pointer).2 with
  | none => simp only [LandmarkUnit.judge, hk]
  | some k => simp only [LandmarkUnit.judge, hk, if_neg (not_le.mpr (hfar k hk))]

theorem judge_window {supports : List Nat} {tolerance : Nat} {w : ClosedLandmark} {u : LandmarkUnit} :
    (u.judge supports tolerance w).1.window = u.window ∧ (u.judge supports tolerance w).1.peak = u.peak := by
  unfold LandmarkUnit.judge
  dsimp only
  split
  · exact ⟨rfl, rfl⟩
  · split <;> exact ⟨rfl, rfl⟩

theorem pointerDown_eq (k : Nat) : pointerDown k = if k = 0 then none else some (k - 1) := by cases k <;> rfl

/-- Settles O25: where the pointer is placed, what it passes, and how a candidate is judged at it. -/
theorem supportMapFollowed : Obligations.SupportMapFollowed := by
  refine ⟨fun supports p0 => ⟨fun k hk => ?_, fun hnone e he => ?_⟩, fun supports tolerance pos k => ?_,
    fun supports tolerance w u => ⟨judge_window.1, judge_window.2, fun k hk hnear => ?_, fun hfar => ?_⟩⟩
  · obtain ⟨hlt, hle, above⟩ := (pointerBelow_spec supports p0 supports.length).1 k hk
    have hentry : supports[k]? = some supports[k] := List.getElem?_eq_getElem hlt
    refine ⟨⟨_, hentry, nominal_of_getElem? hentry ▸ hle⟩, fun j e hj he => ?_⟩
    rw [← nominal_of_getElem? he]
    exact above j hj (List.getElem?_eq_some_iff.mp he).1
  · obtain ⟨j, hj, rfl⟩ := List.mem_iff_getElem.mp he
    rw [← nominal_of_getElem? (List.getElem?_eq_getElem hj)]
    exact (pointerBelow_spec supports p0 supports.length).2 hnone j hj
  · obtain ⟨passed, ordered, stops, exhausts⟩ := passFrom_spec supports tolerance pos k
    exact ⟨passed, ordered, stops, exhausts, rfl⟩
  · rw [judge_matches hk hnear]
    exact ⟨rfl, rfl, pointerDown_eq k, _, rfl, rfl, rfl, rfl, rfl, rfl, rfl, rfl, rfl⟩
  · rw [judge_extra hfar]
    exact ⟨rfl, rfl, rfl, _, rfl, rfl, rfl, rfl, rfl, rfl, rfl, rfl, rfl⟩

/-! ### A measured window judged (R101, R107 to R109) -/

/-- A record whose WINDOW_TRUNCATED a window has been counted in. -/
def Record.truncatedBy (w : ClosedWindow) (r : Record) : Record :=
  { r with flags := { r.flags with windowTruncated := r.flags.windowTruncated || w.truncated } }

theorem truncatedBy_eq (w : ClosedWindow) (r : Record) : (if w.truncated then r.setWindowTruncated else r) = r.truncatedBy w := by
  unfold Record.truncatedBy
  cases w.truncated
  · simp
  · simp
    rfl

theorem judge_small {cfg : DetectFields} {curve : List CurvePoint} {w : ClosedWindow} {r : Record}
    (h : w.amplitude < cfg.aMin) : r.judge cfg curve w = r.countSmall := if_pos h

theorem judge_gated {cfg : DetectFields} {curve : List CurvePoint} {w : ClosedWindow} {r : Record}
    (h : cfg.aMin ≤ w.amplitude) (hgate : w.pos < cfg.gateLow ∨ cfg.gateHigh < w.pos) :
    r.judge cfg curve w = (r.truncatedBy w).countGated := by
  rw [Record.judge, if_neg (not_lt.mpr h)]
  dsimp only
  rw [if_pos hgate, truncatedBy_eq]

theorem judge_accepted {cfg : DetectFields} {curve : List CurvePoint} {w : ClosedWindow} {r : Record}
    (h : cfg.aMin ≤ w.amplitude) (hlow : cfg.gateLow ≤ w.pos) (hhigh : w.pos ≤ cfg.gateHigh) :
    r.judge cfg curve w = (r.truncatedBy w).countAccepted.addIndication ((r.truncatedBy w).countAccepted.indicationOf curve w) := by
  rw [Record.judge, if_neg (not_lt.mpr h)]
  dsimp only
  rw [if_neg (by omega), truncatedBy_eq]

theorem referenceIndex_eq (r : Record) : r.referenceIndex = if r.landmarks = [] then none else some (r.landmarks.length - 1) := by
  simp only [Record.referenceIndex, List.isEmpty_iff]

/-- The position offsets are taken from is that of the last entry, or with none the grid origin. -/
theorem referencePos_eq {r : Record} {origin : Nat} (hnone : r.landmarks = [] → r.gridOrigin = some origin)
    (hlast : ∀ e, r.landmarks.getLast? = some e → (if e.kind = .missing then e.nominal else e.measured) = some origin) :
    r.referencePos = origin := by
  unfold Record.referencePos
  cases hentry : r.landmarks.getLast? with
  | none => simp [hnone (List.getLast?_eq_none_iff.mp hentry)]
  | some e => simp [LandmarkEntry.referencePos, hlast e hentry]

/-- Settles O31, by the amplitude and the gate, and by the detector's state at a close. -/
theorem windowJudged : Obligations.WindowJudged := by
  refine ⟨fun cfg curve w r => ⟨fun h => judge_small h, fun h hgate => judge_gated h hgate,
    fun origin h hlow hhigh hnone hlast => ?_⟩, fun s p => ?_⟩
  · rw [judge_accepted h hlow hhigh, Record.indicationOf,
      show (r.truncatedBy w).countAccepted.referenceIndex = r.referenceIndex from rfl,
      show (r.truncatedBy w).countAccepted.referencePos = r.referencePos from rfl, referenceIndex_eq,
      referencePos_eq hnone hlast]
    rfl
  · have hkeeps := keeps_judgedAtClose (s.port p)
    dsimp only
    rw [finaliseDetector_eq]
    refine ⟨act_port_same, fun q hq => act_port_ne hq, rfl, rfl, rfl, act_readyRecords, rfl, fun hstate => ?_,
      fun h l hopened hhigh hlow => ?_⟩
    · rw [judgedAtClose_of_not_opened hstate, act_id]
      rfl
    · rw [act_openRecords hkeeps, judgedAtClose_of_opened hopened]
      simp only [Detector.close, hhigh, hlow, Option.getD_some]

/-! ### The landmark unit's windows (R115 to R118, R127) -/

theorem landmark_extend_eq {cfg : LandmarkPlan} {pk held : Peak} {saturated : Bool} {u : LandmarkUnit}
    (hpeak : u.peak = some held) : u.extend cfg pk saturated = { u with
      length := u.length + 1, peak := some (if held.absX < pk.absX then pk else held)
      satRun := if saturated then u.satRun + 1 else 0
      satLongest := if u.satLongest < (if saturated then u.satRun + 1 else 0) then (if saturated then u.satRun + 1 else 0)
        else u.satLongest
      quiet := if pk.absX < cfg.lClose then u.quiet + 1 else 0 } := by
  have longest : ∀ a b : Nat, max a b = if a < b then b else a := fun a b => by split <;> omega
  have peak : (if (u.peak.getD pk).absX < pk.absX then some pk else u.peak) =
      some (if held.absX < pk.absX then pk else held) := by
    rw [hpeak, Option.getD_some]
    split <;> rfl
  simp only [LandmarkUnit.extend, longest, peak]

/-- Settles O32: the window on each scan, the list, a closed window, and an open window at a close. -/
theorem landmarkWindows : Obligations.LandmarkWindows := by
  refine ⟨fun cfg pk saturated u => ⟨fun hidle h => ?_, fun hidle h => ?_, fun held hopened hpeak => ?_⟩, fun r e => addLandmark_eq e r,
    fun s p win => ?_, fun s p => ⟨fun hidle => ?_, fun pk hopened hpeak => ?_⟩⟩
  · simp only [LandmarkUnit.scan, hidle, if_neg (not_le.mpr h)]
  · simp only [LandmarkUnit.scan, hidle, if_pos h]
    rfl
  · simp only [LandmarkUnit.scan, hopened, landmark_extend_eq hpeak]
    refine ⟨fun hquiet => ?_, fun hquiet hlong => ?_, fun hquiet hshort => ?_⟩
    · rw [if_pos hquiet]
      rfl
    · rw [if_neg (not_le.mpr hquiet), if_pos (show Config.landmarkWindowMax ≤ u.length + 1 from hlong)]
      rfl
    · rw [if_neg (not_le.mpr hquiet), if_neg (show ¬ Config.landmarkWindowMax ≤ u.length + 1 from not_le.mpr hshort)]
  · have hkeeps := keeps_classifiedRecord (s.working p) win (s.port p).land
    dsimp only
    rw [classifyWindow_eq]
    refine ⟨fun q hq => act_port_ne hq, rfl, rfl, rfl, act_readyRecords, rfl, fun hend => ⟨?_, ?_⟩, fun hno => ⟨?_, ?_⟩⟩
    · rw [act_port_same, classifiedUnit, if_pos hend]
    · rw [act_openRecords hkeeps]
      exact List.map_congr_left fun r _ => if_pos hend
    · rw [act_port_same, classifiedUnit, if_neg (not_le.mpr hno)]
      rfl
    · rw [act_openRecords hkeeps]
      exact List.map_congr_left fun r _ => if_neg (not_le.mpr hno)
  · simp only [finaliseLandmark, hidle]
  · simp only [finaliseLandmark, hopened, LandmarkUnit.close, hpeak, Option.getD_some]
    rfl

end Sys2Proof.Machine

/-! PROOFS. The phases of a slot (R9, R42 to R45), the time-mode timer (R49), the stream unit's work (R167 to R171) and the
points fired in ACQUIRING (R51, R65, R66, R69 to R71). -/

namespace Sys2Proof.Machine

variable {p q : PortId} {s t : State} {b : PortBlocks}

/-! ### An event on one port -/

/-- What an event makes of one port's blocks is all it does. -/
theorem eventOn_setPort (time : Nat) (b : PortBlocks) : EventOn p s (arbitrate ((advance time s).setPort p b)) time b :=
  arbitrate_eventOn (setPort_port_same _) (fun _ hq => setPort_port_ne _ hq) rfl rfl rfl rfl

/-- An event that leaves every block is an event on any port. -/
theorem eventOn_advance (p : PortId) (time : Nat) : EventOn p s (arbitrate (advance time s)) time (s.port p) :=
  arbitrate_eventOn rfl (fun _ _ => rfl) rfl rfl rfl rfl

/-! ### The phases of a slot (R9, R42 to R45) -/

theorem inPhase_eq {phase : ScanPhase} {sc : Scan} (hscan : (s.port p).seq.scan = some sc) (hphase : sc.phase = phase) :
    inPhase s p phase = some sc := by
  rw [inPhase, hscan]
  exact Option.filter_eq_some_iff.mpr ⟨rfl, decide_eq_true hphase⟩

theorem endPhase_eq {phase : ScanPhase} {sc : Scan} {c : SlotInForce → Scan → Scan} (hscan : (s.port p).seq.scan = some sc)
    (hphase : sc.phase = phase) : endPhase p phase c s = (advance sc.phaseEnd s).setPort p { s.port p with
      seq := { (s.port p).seq with scan := some (c ((s.port p).seq.slotAt sc.slot) sc) } } := by
  rw [endPhase, inPhase_eq hscan hphase]
  rfl

/-- A sample by the means that make it (R43, R44). -/
theorem sampleOf_eq (slot : Nat) (x y : Int) (clipped : Bool) (found : List DriveFault) : sampleOf slot x y clipped found = {
    slot := slot, x := max (-32768) (min 32767 x), y := max (-32768) (min 32767 y)
    saturated := clipped || decide (x < -32768 ∨ 32767 < x ∨ y < -32768 ∨ 32767 < y)
    status := match found with
      | [] => .ok
      | .openLead :: _ => .openLead
      | .short :: _ => .short } := by
  have saturated : (clipped || decide (clampSample x ≠ x) || decide (clampSample y ≠ y)) =
      (clipped || decide (x < -32768 ∨ 32767 < x ∨ y < -32768 ∨ 32767 < y)) := by
    simp only [clampSample_ne_iff, Bool.decide_or, Bool.or_assoc]
  have status : statusOf found = match found with
      | [] => .ok
      | .openLead :: _ => .openLead
      | .short :: _ => .short := by
    match found with
    | [] => rfl
    | .openLead :: _ => rfl
    | .short :: _ => rfl
  rw [sampleOf, saturated, status]
  rfl

/-- The run counts after a sample (R9). -/
theorem runsAfter_sampleOf (slot : Nat) (x y : Int) (clipped : Bool) (found : List DriveFault) (runs : List Nat) :
    runsAfter (sampleOf slot x y clipped found) runs = runs.set slot (if found = [] then 0 else runs.getD slot 0 + 1) := by
  have count : countAfter (statusOf found) (runs.getD slot 0) = if found = [] then 0 else runs.getD slot 0 + 1 := by
    match found with
    | [] => rfl
    | .openLead :: _ => rfl
    | .short :: _ => rfl
  exact congrArg (runs.set slot) count

/-- A sample that is not the third bad one in a row leaves its slot's run below 3. -/
theorem no_coilFault {slot : Nat} {x y : Int} {clipped : Bool} {found : List DriveFault} {runs : List Nat}
    (h : found = [] ∨ runs.getD slot 0 + 1 < 3) :
    ¬ Config.coilFaultRun ≤ (runsAfter (sampleOf slot x y clipped found) runs).getD slot 0 := by
  rw [runsAfter_sampleOf, List.getD_eq_getElem?_getD, List.getElem?_set]
  have below : (if found = [] then 0 else runs.getD slot 0 + 1) < Config.coilFaultRun := by
    split
    next => decide
    next hne => exact h.resolve_left hne
  split
  next =>
    split
    next => exact not_le.mpr below
    next => decide
  next hne => exact absurd rfl hne

/-- The end of an integrate that declares no fault: the sample is counted and passed on. -/
theorem endIntegrate_passes {sc : Scan} {x y : Int} {clipped : Bool} {found : List DriveFault}
    (hscan : (s.port p).seq.scan = some sc) (hphase : sc.phase = .integrate)
    (h : found = [] ∨ (s.port p).ctl.runs.getD sc.slot 0 + 1 < 3) : endIntegrate p x y clipped found s =
      passSample p sc (sampleOf sc.slot x y clipped found) ((advance sc.phaseEnd s).setPort p { s.port p with
        ctl := { (s.port p).ctl with
          runs := (s.port p).ctl.runs.set sc.slot (if found = [] then 0 else (s.port p).ctl.runs.getD sc.slot 0 + 1) } }) := by
  have hruns := runsAfter_sampleOf sc.slot x y clipped found (s.port p).ctl.runs
  have hquiet := no_coilFault (x := x) (y := y) (clipped := clipped) h
  rw [endIntegrate, inPhase_eq hscan hphase]
  dsimp only
  unfold deliver
  dsimp only
  rw [onCtl_port_same]
  refine (if_neg hquiet).trans ?_
  rw [← hruns]
  rfl

/-- Settles O33, phase by phase. -/
theorem slotPhasesRun : Obligations.SlotPhasesRun := by
  intro s p sc hscan b e integrating settling
  refine ⟨fun hphase => ⟨_, rfl, ?_⟩, fun hphase => ⟨_, rfl, ?_⟩, fun x y clipped found hphase hslot h => ⟨_, rfl, ?_⟩⟩
  · rw [endPhase_eq hscan hphase]
    exact eventOn_setPort _ _
  · rw [endPhase_eq hscan hphase]
    exact eventOn_setPort _ _
  · have hpass : endIntegrate p x y clipped found s = (advance sc.phaseEnd s).setPort p { b with
        ctl := { b.ctl with runs := b.ctl.runs.set sc.slot (if found = [] then 0 else b.ctl.runs.getD sc.slot 0 + 1) }
        chan := { b.chan with held := b.chan.held ++ [sampleOf sc.slot x y clipped found] }
        seq := { b.seq with
          scan := some { sc with slot := sc.slot + 1, phase := .switch, phaseEnd := sc.phaseEnd + 80 } } } := by
      rw [endIntegrate_passes hscan hphase h, passSample, setPort_port_same, if_pos hslot]
      simp only [onSeq, onChan, onPort, setPort_port_same, setPort_setPort]
      rfl
    rw [sampleOf_eq] at hpass
    rw [hpass]
    exact eventOn_setPort _ _

/-! ### The time-mode timer (R49, R53) -/

/-- Settles O37, by whether a scan is in flight and a close held. -/
theorem timeModeExpires : Obligations.TimeModeExpires := by
  intro s p due htimer hmode b
  refine ⟨_, rfl, ?_⟩
  have hexpiry : passTimer p s = timeExpiry p due s := by rw [passTimer, htimer]
  have hscans : timeExpiry p due s = (advance due s).setPort p { b with
      seq := if b.seq.scan.isSome then { b.seq with timer := none, owed := true }
        else if b.seq.closeHold then { b.seq with timer := none }
        else { b.seq with
          timer := some (max s.now due + b.plan.working.travel.period * 40)
          scan := some {
            kind := .time, startPos := b.travel.raw, slot := 0, phase := .switch, phaseEnd := max s.now due + 80 } } } := by
    cases hscan : b.seq.scan with
    | some sc =>
      have hbusy : timeExpiry p due s =
          onSeq p (fun q => { q with owed := true }) (onSeq p (fun q => { q with timer := none }) (advance due s)) := by
        rw [timeExpiry, if_pos hmode, hscan]
      rw [hbusy, onSeq, onSeq, onPort_onPort]
      rfl
    | none =>
      have hidle : timeExpiry p due s = if b.seq.closeHold then onSeq p (fun q => { q with timer := none }) (advance due s)
          else startTimeScan p (onSeq p (fun q => { q with timer := none }) (advance due s)) := by
        rw [timeExpiry, if_pos hmode, hscan]
      rw [hidle]
      cases hclose : b.seq.closeHold with
      | true => rfl
      | false =>
        rw [if_neg Bool.false_ne_true, startTimeScan_eq, onSeq, onPort, setPort_port_same, setPort_setPort]
        rfl
  rw [hexpiry, hscans]
  exact eventOn_setPort _ _

/-! ### The stream unit's work (R167 to R171) -/

/-- The open record with a stream gap ended at a position, where one was being built (R171). -/
def StreamUnit.gapEnded (u : StreamUnit) (pos : Nat) (r : Record) : Record :=
  match u.gap with
  | none => r
  | some g => r.addGap (g.toGap pos)

theorem keeps_gapEnded (u : StreamUnit) (pos : Nat) : Keeps (u.gapEnded pos) := fun r => by
  unfold StreamUnit.gapEnded
  split
  · rfl
  · exact keeps_addGap _ r

theorem offerFrame_stores {f : StreamFrame} (hroom : (s.port p).stream.ring.length < 32) : offerFrame p f s =
    act p { s.port p with stream := { (s.port p).stream with
      ring := (s.port p).stream.ring ++ [{ f with lost := min (s.port p).stream.lost 255 }], lastPos := f.pos, lost := 0
      gap := none } } ((s.port p).stream.gapEnded f.pos) s := by
  have hring : (s.port p).stream.ring.length < Config.ringFrames := hroom
  simp only [offerFrame, if_pos hring]
  cases hgap : (s.port p).stream.gap with
  | none =>
    rw [show (s.port p).stream.gapEnded f.pos = id from funext fun r => by simp [StreamUnit.gapEnded, hgap], act_id]
    rfl
  | some g =>
    rw [show (s.port p).stream.gapEnded f.pos = Record.addGap (g.toGap f.pos) from
      funext fun r => by simp [StreamUnit.gapEnded, hgap]]
    rfl

theorem offerFrame_drops {f : StreamFrame} (hfull : 32 ≤ (s.port p).stream.ring.length) : offerFrame p f s =
    s.setPort p { s.port p with stream := { (s.port p).stream with
      lost := satInc (s.port p).stream.lost
      gap := if s.mode p = .acquiring then some (gapWithDrop (s.port p).stream f.pos) else (s.port p).stream.gap } } := by
  have hring : ¬ (s.port p).stream.ring.length < Config.ringFrames := not_lt.mpr hfull
  simp only [offerFrame, if_neg hring]
  rfl

/-- A scan by the stream unit, where channels are listed. -/
theorem streamScan_listed {c : CalibratedSet} (h : (s.working p).stream.channels ≠ []) : streamScan p c s =
    if (groupWith c (s.working p).stream.channels (s.port p).stream.group).count < (s.working p).stream.decimation then
      s.setPort p { s.port p with stream := { (s.port p).stream with
        group := some (groupWith c (s.working p).stream.channels (s.port p).stream.group) } }
    else offerFrame p (formFrame p (s.port p).plan.generation (s.working p).stream (s.port p).stream.miss
        (groupWith c (s.working p).stream.channels (s.port p).stream.group))
      (s.setPort p { s.port p with stream := { (s.port p).stream with group := none, miss := false } }) := by
  rw [streamScan, if_neg (by rwa [List.isEmpty_iff])]
  rfl

theorem groupWith_eq (c : CalibratedSet) (channels : List Nat) (g : Option StreamGroup) : groupWith c channels g = {
    count := match g with
      | none => 1
      | some g => g.count + 1
    sums := match g with
      | none => channels.map c.channel
      | some g => List.zipWith ChannelValue.add g.sums (channels.map c.channel)
    seqNo := c.seqNo, kind := c.kind, pos := c.pos } := by
  cases g <;> rfl

/-- Settles O39, by the channels listed, the decimation and the room in the ring. -/
theorem streamFramesOffered : Obligations.StreamFramesOffered := by
  intro s p c b cfg values sums count mean width pos frame
  have hgroup := groupWith_eq c (s.working p).stream.channels (s.port p).stream.group
  refine ⟨fun hnone => ?_, fun hlisted hshort => ?_, fun hlisted hcomplete hroom => ?_, fun hlisted hcomplete hfull => ?_⟩
  · rw [streamScan, if_pos (show (s.working p).stream.channels.isEmpty = true from List.isEmpty_iff.mpr hnone)]
  · rw [streamScan_listed hlisted, hgroup]
    exact if_pos hshort
  · have hstream : streamScan p c s = act p { b with
        stream := { ring := b.stream.ring ++ [frame], group := none, miss := false, lost := 0, lastPos := pos, gap := none } }
        (b.stream.gapEnded pos) s := by
      rw [streamScan_listed hlisted, hgroup]
      refine (if_neg (not_lt.mpr hcomplete)).trans ?_
      rw [offerFrame_stores (by rw [setPort_port_same]; exact hroom), act_setPort, setPort_port_same]
      rfl
    have hkeeps := keeps_gapEnded b.stream pos
    dsimp only
    rw [hstream]
    exact ⟨act_port_same, fun q hq => act_port_ne hq, rfl, rfl, act_readyRecords, act_openRecords hkeeps⟩
  · rw [streamScan_listed hlisted, hgroup]
    refine (if_neg (not_lt.mpr hcomplete)).trans ?_
    rw [offerFrame_drops (by rw [setPort_port_same]; exact hfull), setPort_port_same, setPort_setPort, mode_eq,
      setPort_port_same]
    rfl

/-! ### The points fired in ACQUIRING (R51, R65, R66, R69 to R71) -/

/-- The record with the gap of a run ended at a TAKEN point, by its fields (R66). -/
theorem runEnded_eq (pos : Int) (b : PortBlocks) (r : Record) : b.runEnded pos r = match b.travel.run with
    | none => r
    | some m => r.addGap {
        kind := .overspeed, start := overspeedStart b.travel b.land.correction
        stop := min 300000 (pos / 100 + b.land.correction).toNat, count := m.count } := by
  cases h : b.travel.run with
  | none => simp only [PortBlocks.runEnded, h]
  | some m => simp only [PortBlocks.runEnded, h, overspeedGap_eq]

theorem onOpen_act {f g : Record → Record} (hf : Keeps f) : onOpen p g (act p b f s) = act p b (g ∘ f) s := onOpen_onOpen hf

@[simp] theorem tell_readyRecords (rs : List Report) : (tell rs s).readyRecords = s.readyRecords := by
  rw [State.readyRecords, tell_store, State.readyRecords]

@[simp] theorem tell_openRecords (rs : List Report) : (tell rs s).openRecords q = s.openRecords q := by
  rw [State.openRecords, tell_store, State.openRecords]

theorem takes_eq (q : Sequencer) : q.takes = true ↔ q.scan = none ∧ q.held = none ∧ q.closeHold = false := by
  simp [Sequencer.takes, and_assoc]

/-- The report of a record's first miss (R16, R65). -/
def overspeedReport (p : PortId) (b : PortBlocks) (r : Record) : List Report :=
  if r.flags.overspeed then [] else [.portEvent {
    port := p, kind := .overspeed, state := b.ctl.mode, previous := b.ctl.previous, cause := .missedTrigger
    record := some r.number, generation := none, slot := none, status := none, declaredIn := none }]

theorem setOverspeed_of_set {r : Record} (h : r.flags.overspeed = true) : r.setOverspeed = r := by
  have flags : { r.flags with overspeed := true } = r.flags := by rw [← h]
  show { r with flags := { r.flags with overspeed := true } } = r
  rw [flags]

/-- The first miss of a record sets OVERSPEED and is told; a later one finds it set. -/
theorem noteOverspeed_eq {r : Record} (hopen : s.openRecords p = [r]) : ∃ f, Keeps f ∧ f r = r.setOverspeed ∧
    noteOverspeed p s = tell (overspeedReport p (s.port p) r) (onOpen p f s) := by
  have hrecord : s.openRecord p = some r := by rw [openRecord_eq, hopen]; rfl
  unfold noteOverspeed overspeedReport
  rw [hrecord]
  dsimp only
  split
  next hset => exact ⟨id, Keeps.id, (setOverspeed_of_set hset).symm, by rw [onOpen_id, tell_nil]⟩
  next => exact ⟨Record.setOverspeed, keeps_onFlags _, rfl, rfl⟩

/-- The drive channel and its events once the speed guard has looked at a miss (R71, R159). -/
def PortBlocks.guarded (b : PortBlocks) : DriveChannel × List DriveEvent :=
  if guardActs b then b.drive.sendLimit (limitValue b.travel) else (b.drive, [])

theorem speedGuard_eq : speedGuard p s = tell ((s.port p).guarded.2.map (Report.driveEvent p))
    (s.setPort p { s.port p with drive := (s.port p).guarded.1 }) := by
  unfold speedGuard PortBlocks.guarded
  split
  next => exact onDriveEvents_eq _
  next => exact (setPort_self (s := s)).symm

/-- The speed guard acts where it is on, the channel moves and no limit sent is as low (R71). -/
theorem guarded_acts (hon : b.plan.working.travel.speedGuard = true) (hmoves : b.drive.state = .moving)
    (hlast : ∀ v, b.drive.lastLimit = some v → limitValue b.travel < v) :
    b.guarded = b.drive.sendLimit (limitValue b.travel) := by
  refine if_pos ?_
  unfold guardActs
  rw [hon, decide_eq_true hmoves]
  cases h : b.drive.lastLimit with
  | none => rfl
  | some v => exact decide_eq_true (hlast v h)

theorem guarded_stands (h : b.plan.working.travel.speedGuard = false ∨ b.drive.state ≠ .moving ∨
    ∃ v, b.drive.lastLimit = some v ∧ v ≤ limitValue b.travel) : b.guarded = (b.drive, []) := by
  refine if_neg ?_
  unfold guardActs
  obtain hoff | hrest | ⟨v, hlast, hle⟩ := h
  · simp [hoff]
  · simp [hrest]
  · simp [hlast, hle]

/-- The blocks of a port once a point has been answered MISSED, but for its drive channel (R65, R99, R169). -/
def PortBlocks.missed (pos : Int) (b : PortBlocks) : PortBlocks :=
  { b with travel := b.travel.miss pos, det := { b.det with miss := true }, stream := { b.stream with miss := true } }

/-- All a MISSED point does. -/
theorem missPoint_eq {r : Record} (hopen : s.openRecords p = [r]) (pos : Int) : ∃ f, Keeps f ∧
    f r = r.countMissed.setOverspeed ∧ missPoint p pos s =
      tell (overspeedReport p (s.port p) r ++ ((s.port p).missed pos).guarded.2.map (Report.driveEvent p))
        (act p { (s.port p).missed pos with drive := ((s.port p).missed pos).guarded.1 } f s) := by
  have hcounts : Keeps Record.countMissed := keeps_onCounters _
  have counted : onTravel p (TravelUnit.miss pos) (onOpen p Record.countMissed s) =
      act p { s.port p with travel := (s.port p).travel.miss pos } Record.countMissed s := rfl
  have hcounted : (act p { s.port p with travel := (s.port p).travel.miss pos } Record.countMissed s).openRecords p =
      [r.countMissed] := by rw [act_openRecords hcounts, hopen]; rfl
  obtain ⟨f, hf, hfr, hnote⟩ := noteOverspeed_eq hcounted
  refine ⟨f ∘ Record.countMissed, hf.comp hcounts, hfr, ?_⟩
  have setPort_act (c : PortBlocks) : (act p ((s.port p).missed pos) (f ∘ Record.countMissed) s).setPort p c =
      act p c (f ∘ Record.countMissed) s := congrArg (onOpen p _) (setPort_setPort _ _)
  have noticed : noticeMiss p (noteOverspeed p (act p { s.port p with travel := (s.port p).travel.miss pos }
      Record.countMissed s)) = tell (overspeedReport p (s.port p) r)
        (act p ((s.port p).missed pos) (f ∘ Record.countMissed) s) := by
    rw [hnote, onOpen_act hcounts, act_port_same, noticeMiss, noticeMissDetector, onStream, onDet, onPort_onPort, onPort,
      tell_port, act_port_same, (speaks_tell _).setPort]
    exact congrArg (tell _) (congrArg (onOpen p _) (setPort_setPort _ _))
  rw [missPoint, counted, noticed, speedGuard_eq, tell_port, act_port_same, (speaks_tell _).setPort, tell_tell, setPort_act]

/-- Settles O42, by whether the sequencer takes the start. -/
theorem pointTakenOrMissed : Obligations.PointTakenOrMissed := by
  intro s p n pos r hopen b t limit first
  by_cases htakes : (s.port p).seq.takes = true
  · obtain ⟨hscan, hheld, hclose⟩ := (takes_eq _).mp htakes
    have hkeeps : Keeps ((s.port p).speedCaptured s.now n ∘ (s.port p).runEnded pos) :=
      (mild_speedCaptured _ _ _).keeps.comp (mild_runEnded _ _).keeps
    have ht : t = act p (b.taken s.now n pos) (b.speedCaptured s.now n ∘ b.runEnded pos) s :=
      (if_pos htakes).trans (takePoint_eq n pos)
    rw [ht]
    refine ⟨fun q hq => act_port_ne hq, rfl, rfl, rfl, act_readyRecords, fun q hq => act_openRecords_ne hkeeps hq,
      fun _ _ _ => ⟨act_port_same, fun hapart => ?_, fun st hst hnext => ?_, rfl⟩, fun hbusy => ?_⟩
    · have hspeed : b.speedCaptured s.now n = id := funext fun r => by
        unfold PortBlocks.speedCaptured
        split
        next => rfl
        next st hst => exact if_neg (hapart st hst)
      rw [act_openRecords hkeeps, hopen, hspeed]
      exact congrArg (fun x : Record => [x]) (runEnded_eq pos b r)
    · have hspeed : b.speedCaptured s.now n = Record.raiseSpeed (b.plan.working.travel.step * 1000 / ((s.now - st.firedAt) / 40)) :=
        funext fun r => by simp only [PortBlocks.speedCaptured, hst, hnext, if_true]; rfl
      rw [act_openRecords hkeeps, hopen, hspeed]
      exact congrArg (fun x : Record => [x.raiseSpeed _]) (runEnded_eq pos b r)
    · refine absurd hbusy ?_
      show ¬ ((s.port p).seq.scan.isSome = true ∨ (s.port p).seq.held.isSome = true ∨ (s.port p).seq.closeHold = true)
      simp [hscan, hheld, hclose]
  · obtain ⟨f, hf, hfr, hmiss⟩ := missPoint_eq hopen pos
    have ht : t = missPoint p pos s := if_neg htakes
    rw [ht, hmiss]
    have hbusy : ¬ (b.seq.scan = none ∧ b.seq.held = none ∧ b.seq.closeHold = false) := fun h => htakes ((takes_eq _).mpr h)
    refine ⟨fun q hq => (tell_port _).trans (act_port_ne hq), tell_now _, tell_pending _, ?_, ?_, fun q hq => ?_,
      fun hscan hheld hclose => absurd ⟨hscan, hheld, hclose⟩ hbusy, fun _ => ?_⟩
    · rw [tell_store]
      rfl
    · rw [tell_readyRecords, act_readyRecords]
    · rw [tell_openRecords, act_openRecords_ne hf hq]
    · rw [tell_openRecords, act_openRecords hf, hopen, List.map_singleton, hfr, tell_port, act_port_same]
      refine ⟨rfl, rfl, rfl, rfl, rfl, fun hstands => ?_, fun hon hmoves hlast => ?_⟩
      · rw [guarded_stands (b := b.missed pos) hstands, List.map_nil, List.append_nil]
        exact ⟨rfl, (tell_raised _).of_link rfl⟩
      · have hevent : ((b.missed pos).drive.sendLimit (limitValue (b.missed pos).travel)).2 =
            [{ kind := .limitSent limit, state := .moving, queueLength := b.drive.queue.length }] := by
          rw [← hmoves]
          rfl
        rw [guarded_acts (b := b.missed pos) hon hmoves hlast, hevent]
        exact ⟨rfl, (tell_raised _).of_link rfl⟩

end Sys2Proof.Machine

/-! PROOFS. The encoder tracks: their filters, and what a level that follows its input makes of the port (R56 to R59). -/

namespace Sys2Proof.Machine

variable {p q : PortId} {s t : State} {b : PortBlocks} {w : TravelPlan} {u x : TravelUnit} {f f1 f2 : TrackFilter}

/-! ### The filters (R56) -/

/-- A filter of length 0 has its level follow its input. -/
theorem onInput_unfiltered {now : Nat} (level input : Bool) :
    (TrackFilter.atInput level).onInput 0 now input = .atInput input := by
  cases level <;> cases input <;> rfl

/-- A filter of length 0 follows wherever its input changes. -/
theorem onInput_zero (now : Nat) (input : Bool) (f : TrackFilter) :
    f.onInput 0 now input = if input = f.input then f else .atInput input := by
  unfold TrackFilter.onInput
  split
  next => rfl
  next =>
    split
    next heq => rw [← heq]; rfl
    next => rfl

theorem onInput_filtered {deglitch : Nat} (h : deglitch ≠ 0) (now : Nat) (input : Bool) (f : TrackFilter) :
    f.onInput deglitch now input =
      if input = f.input then f
      else if input = f.level then { f with input := input, since := none }
      else { f with input := input, since := some now } := by
  rw [TrackFilter.onInput, if_neg h]

theorem onInput_filtered_level {deglitch : Nat} (h : deglitch ≠ 0) (now : Nat) (input : Bool) (f : TrackFilter) :
    (f.onInput deglitch now input).level = f.level := by
  rw [onInput_filtered h]
  split
  next => rfl
  next => split <;> rfl

/-- A filter passed where it is the one begun at a tick. -/
def TrackFilter.passedFrom (began : Nat) (f : TrackFilter) : TrackFilter :=
  if f.since = some began then .atInput f.input else f

theorem passAt_eq (deglitch began : Nat) (f : TrackFilter) : f.passAt deglitch (began + deglitch) = f.passedFrom began := by
  have due : f.due deglitch = some (began + deglitch) ↔ f.since = some began := by
    unfold TrackFilter.due
    cases f.since <;> simp
  simp only [TrackFilter.passAt, TrackFilter.passedFrom, due]
  rfl

theorem passedFrom_running (level : Bool) (began : Nat) :
    TrackFilter.passedFrom began { input := !level, level := level, since := some began } = .atInput (!level) := if_pos rfl

theorem passedFrom_later {began : Nat} (h : ∀ n, f.since = some n → began < n) : f.passedFrom began = f :=
  if_neg fun hs => lt_irrefl _ (h began hs)

/-- The first hold complete is that of the filter begun first. -/
theorem dueAt_eq {deglitch began : Nat} (hfirst : u.track1.since = some began ∨ u.track2.since = some began)
    (hleast : ∀ n, u.track1.since = some n ∨ u.track2.since = some n → began ≤ n) :
    u.dueAt deglitch = some (began + deglitch) := by
  unfold TravelUnit.dueAt TrackFilter.due
  cases h1 : u.track1.since with
  | none =>
    obtain h | h := hfirst
    · simp [h1] at h
    · rw [h]; rfl
  | some n1 =>
    have hn1 := hleast n1 (.inl h1)
    cases h2 : u.track2.since with
    | none =>
      obtain h | h := hfirst
      · rw [h1] at h; cases h; rfl
      · simp [h2] at h
    | some n2 =>
      have hn2 := hleast n2 (.inr h2)
      have hmin : min n1 n2 = began := by
        obtain h | h := hfirst
        · rw [h1] at h; cases h; omega
        · rw [h2] at h; cases h; omega
      have hdue : min (n1 + deglitch) (n2 + deglitch) = began + deglitch := by omega
      exact congrArg some hdue

/-! ### What the tracks bring (R57 to R59) -/

/-- The blocks of a port with its two track filters at given values. -/
def PortBlocks.tracks (f1 f2 : TrackFilter) (b : PortBlocks) : PortBlocks :=
  { b with travel := { b.travel with track1 := f1, track2 := f2 } }

theorem exec_inputChange (p : PortId) (time : Nat) (l1 l2 : Bool) (s : State) : exec (.trackInputChange time p l1 l2) s =
    .next (arbitrate (decodeTracks p ((advance time s).setPort p ((s.port p).tracks
      ((s.port p).travel.track1.onInput (s.port p).plan.working.travel.deglitch (max s.now time) l1)
      ((s.port p).travel.track2.onInput (s.port p).plan.working.travel.deglitch (max s.now time) l2))))) := rfl

theorem exec_filterExpiry {began : Nat}
    (hfirst : (s.port p).travel.track1.since = some began ∨ (s.port p).travel.track2.since = some began)
    (hleast : ∀ n, (s.port p).travel.track1.since = some n ∨ (s.port p).travel.track2.since = some n → began ≤ n) :
    exec (.trackFilterExpiry p) s = .next (arbitrate (decodeTracks p
      ((advance (began + (s.port p).plan.working.travel.deglitch) s).setPort p ((s.port p).tracks
        ((s.port p).travel.track1.passedFrom began) ((s.port p).travel.track2.passedFrom began))))) := by
  have hdue := dueAt_eq (deglitch := (s.working p).travel.deglitch) hfirst hleast
  have hexpiry : exec (.trackFilterExpiry p) s = .next (arbitrate (filterExpiry p s)) := rfl
  rw [hexpiry, filterExpiry, hdue, ← passAt_eq (s.working p).travel.deglitch, ← passAt_eq (s.working p).travel.deglitch]
  rfl

/-- The expiry of the first track's filter, begun before the other. -/
theorem exec_expiry_first {began : Nat}
    (h1 : (s.port p).travel.track1 = { input := !(s.port p).travel.quad.one, level := (s.port p).travel.quad.one, since := some began })
    (h2 : ∀ n, (s.port p).travel.track2.since = some n → began < n) : exec (.trackFilterExpiry p) s =
      .next (arbitrate (decodeTracks p ((advance (began + (s.port p).plan.working.travel.deglitch) s).setPort p
        ((s.port p).tracks (.atInput (!(s.port p).travel.quad.one)) (s.port p).travel.track2)))) := by
  rw [exec_filterExpiry (began := began) (.inl (by rw [h1])) ?_, passedFrom_later h2]
  · rw [h1, passedFrom_running]
  · rintro n (hn | hn)
    · rw [h1] at hn; cases hn; exact le_rfl
    · exact (h2 n hn).le

theorem exec_expiry_second {began : Nat} (h1 : ∀ n, (s.port p).travel.track1.since = some n → began < n)
    (h2 : (s.port p).travel.track2 = { input := !(s.port p).travel.quad.two, level := (s.port p).travel.quad.two, since := some began }) :
    exec (.trackFilterExpiry p) s =
      .next (arbitrate (decodeTracks p ((advance (began + (s.port p).plan.working.travel.deglitch) s).setPort p
        ((s.port p).tracks (s.port p).travel.track1 (.atInput (!(s.port p).travel.quad.two)))))) := by
  rw [exec_filterExpiry (began := began) (.inr (by rw [h2])) ?_, passedFrom_later h1]
  · rw [h2, passedFrom_running]
  · rintro n (hn | hn)
    · exact (h1 n hn).le
    · rw [h2] at hn; cases hn; exact le_rfl

/-- The expiry of two filters begun at one tick. -/
theorem exec_expiry_both {began : Nat}
    (h1 : (s.port p).travel.track1 = { input := !(s.port p).travel.quad.one, level := (s.port p).travel.quad.one, since := some began })
    (h2 : (s.port p).travel.track2 = { input := !(s.port p).travel.quad.two, level := (s.port p).travel.quad.two, since := some began }) :
    exec (.trackFilterExpiry p) s =
      .next (arbitrate (decodeTracks p ((advance (began + (s.port p).plan.working.travel.deglitch) s).setPort p
        ((s.port p).tracks (.atInput (!(s.port p).travel.quad.one)) (.atInput (!(s.port p).travel.quad.two)))))) := by
  rw [exec_filterExpiry (began := began) (.inl (by rw [h1])) ?_]
  · rw [h1, h2, passedFrom_running, passedFrom_running]
  · rintro n (hn | hn)
    · rw [h1] at hn; cases hn; exact le_rfl
    · rw [h2] at hn; cases hn; exact le_rfl

/-- In OFF nothing is decoded. -/
theorem decodeTracks_off (h : s.mode p = .off) : decodeTracks p s = s := if_pos h

theorem decodeTracks_still (h : (s.port p).travel.levels = (s.port p).travel.quad) : decodeTracks p s = s := by
  unfold decodeTracks
  split
  next => rfl
  next =>
    rw [decode_still h]
    exact setPort_self

theorem decodeTracks_edge {forward : Bool} (hon : s.mode p ≠ .off)
    (h : (s.port p).travel.decode (s.working p).travel = ((s.port p).travel.edged (s.working p).travel forward,
      some ((s.port p).travel.edge (s.working p).travel forward), false)) :
    decodeTracks p s = countedEdge p ((s.port p).travel.edge (s.working p).travel forward)
      (s.setPort p { s.port p with travel := (s.port p).travel.edged (s.working p).travel forward }) := by
  rw [decodeTracks, if_neg hon, h]
  rfl

theorem decodeTracks_illegal (hon : s.mode p ≠ .off)
    (h : (s.port p).travel.decode (s.working p).travel = ((s.port p).travel.suspected, none, true)) :
    decodeTracks p s = noteIllegal p (s.setPort p { s.port p with travel := (s.port p).travel.suspected }) := by
  rw [decodeTracks, if_neg hon, h]
  rfl

/-- In IDLE, NULLING and FAULT a counted edge moves the raw position alone. -/
theorem countedEdge_quiet {e : Edge} (h : s.mode p = .idle ∨ s.mode p = .nulling ∨ s.mode p = .fault) :
    countedEdge p e s = s := by
  unfold countedEdge
  obtain h | h | h := h <;> rw [h]

theorem noteIllegal_quiet (h : s.mode p = .idle ∨ s.mode p = .nulling ∨ s.mode p = .fault) : noteIllegal p s = s := by
  unfold noteIllegal
  obtain h | h | h := h <;> rw [h] <;> rfl

/-- The flag ENCODER_SUSPECT of the open record (R58). -/
theorem noteIllegal_tube (h : s.mode p = .armed ∨ s.mode p = .acquiring) :
    noteIllegal p s = onOpen p (fun r => if (s.port p).travel.illegal = 16 then r.setEncoderSuspect else r) s := by
  have hrecord : (s.mode p).hasRecord = true := by obtain h | h := h <;> rw [h] <;> rfl
  unfold noteIllegal
  rw [hrecord, Bool.true_and]
  by_cases hcount : (s.port p).travel.illegal = 16
  · rw [if_pos (show decide ((s.port p).travel.illegal = Config.suspectCount) = true from decide_eq_true hcount)]
    simp only [hcount, if_true]
  · rw [if_neg (show ¬ decide ((s.port p).travel.illegal = Config.suspectCount) = true from fun h => hcount (of_decide_eq_true h))]
    simp only [hcount, if_false]
    exact onOpen_id.symm

/-! ### The edges and illegal transitions, by the filters they leave -/

/-- The levels of the filters brought decode as an edge. -/
theorem decode_tracks_first (h1 : f1.level ≠ u.quad.one) (h2 : f2.level = u.quad.two) :
    TravelUnit.decode w { u with track1 := f1, track2 := f2 } =
      (TravelUnit.edged w (u.quad.one == u.quad.two) { u with track1 := f1, track2 := f2 },
        some (TravelUnit.edge w (u.quad.one == u.quad.two) { u with track1 := f1, track2 := f2 }), false) :=
  decode_first h1 h2

theorem decode_tracks_second (h1 : f1.level = u.quad.one) (h2 : f2.level ≠ u.quad.two) :
    TravelUnit.decode w { u with track1 := f1, track2 := f2 } =
      (TravelUnit.edged w (u.quad.one != u.quad.two) { u with track1 := f1, track2 := f2 },
        some (TravelUnit.edge w (u.quad.one != u.quad.two) { u with track1 := f1, track2 := f2 }), false) :=
  decode_second h1 h2

/-- The travel unit after an edge the filters bring. -/
def TravelUnit.turned (w : TravelPlan) (forward : Bool) (f1 f2 : TrackFilter) (u : TravelUnit) : TravelUnit :=
  TravelUnit.edged w forward { u with track1 := f1, track2 := f2 }

/-- The filters brought decode as an edge in a direction. -/
def TravelUnit.Turns (w : TravelPlan) (forward : Bool) (f1 f2 : TrackFilter) (u : TravelUnit) : Prop :=
  TravelUnit.decode w { u with track1 := f1, track2 := f2 } = (u.turned w forward f1 f2,
    some (TravelUnit.edge w forward { u with track1 := f1, track2 := f2 }), false)

theorem turned_spec (forward : Bool) : EdgeCounted w.scale w.sense forward u (u.turned w forward f1 f2) ∧
    (u.turned w forward f1 f2).quad = { one := f1.level, two := f2.level } ∧
    (u.turned w forward f1 f2).track1 = f1 ∧ (u.turned w forward f1 f2).track2 = f2 :=
  ⟨edgeCounted_moved _ _ _ _, rfl, rfl, rfl⟩

/-- The tracks turn in IDLE, NULLING or FAULT. -/
theorem turns_quiet {c : Instr} {time : Nat} {forward : Bool}
    (hquiet : s.mode p = .idle ∨ s.mode p = .nulling ∨ s.mode p = .fault)
    (hc : exec c s = .next (arbitrate (decodeTracks p ((advance time s).setPort p ((s.port p).tracks f1 f2)))))
    (h : TravelUnit.Turns (s.port p).plan.working.travel forward f1 f2 (s.port p).travel) :
    ∃ t x, exec c s = .next t ∧ EventOn p s t time { s.port p with travel := x } ∧
      EdgeCounted (s.port p).plan.working.travel.scale (s.port p).plan.working.travel.sense forward (s.port p).travel x ∧
      x.quad = { one := f1.level, two := f2.level } ∧ x.track1 = f1 ∧ x.track2 = f2 := by
  have hmode : ((advance time s).setPort p ((s.port p).tracks f1 f2)).mode p = s.mode p := by
    rw [mode_eq, setPort_port_same]
    rfl
  have hon : s.mode p ≠ .off := by
    rintro hoff
    simp [hoff] at hquiet
  have hdecoded : decodeTracks p ((advance time s).setPort p ((s.port p).tracks f1 f2)) = (advance time s).setPort p
      { s.port p with travel := (s.port p).travel.turned (s.port p).plan.working.travel forward f1 f2 } := by
    rw [decodeTracks_edge (forward := forward) (hmode ▸ hon) (by simp only [State.working, setPort_port_same]; exact h),
      countedEdge_quiet, setPort_setPort]
    · simp only [State.working, setPort_port_same]
      rfl
    · rw [mode_eq, setPort_port_same, setPort_port_same]
      exact hquiet
  exact ⟨_, _, hc.trans (by rw [hdecoded]), eventOn_setPort _ _, turned_spec forward⟩

/-- The tracks turn in ARMED or ACQUIRING. -/
theorem turns_counted {c : Instr} {time : Nat} {forward : Bool} (htube : s.mode p = .armed ∨ s.mode p = .acquiring)
    (hc : exec c s = .next (arbitrate (decodeTracks p ((advance time s).setPort p ((s.port p).tracks f1 f2)))))
    (h : TravelUnit.Turns (s.port p).plan.working.travel forward f1 f2 (s.port p).travel) :
    ∃ x, EdgeCounted (s.port p).plan.working.travel.scale (s.port p).plan.working.travel.sense forward (s.port p).travel x ∧
      x.quad = { one := f1.level, two := f2.level } ∧ x.track1 = f1 ∧ x.track2 = f2 ∧
      exec c s = .next (arbitrate (countedEdge p
        { push := decide ((s.port p).plan.working.travel.sense = .normal ↔ forward = true)
          moved := (x.raw - (s.port p).travel.raw).natAbs }
        ((advance time s).setPort p { s.port p with travel := x }))) := by
  have hmode : ((advance time s).setPort p ((s.port p).tracks f1 f2)).mode p = s.mode p := by
    rw [mode_eq, setPort_port_same]
    rfl
  have hon : s.mode p ≠ .off := by
    rintro hoff
    simp [hoff] at htube
  obtain ⟨hedge, hquad, htrack1, htrack2⟩ :=
    turned_spec (w := (s.port p).plan.working.travel) (u := (s.port p).travel) (f1 := f1) (f2 := f2) forward
  refine ⟨_, hedge, hquad, htrack1, htrack2, hc.trans ?_⟩
  rw [decodeTracks_edge (forward := forward) (hmode ▸ hon) (by simp only [State.working, setPort_port_same]; exact h),
    setPort_setPort]
  simp only [State.working, setPort_port_same]
  have hpush : decide ((s.port p).plan.working.travel.sense = .normal ↔ forward = true) =
      isPush (s.port p).plan.working.travel.sense forward := by
    rw [Bool.eq_iff_iff, decide_eq_true_iff, isPush_iff]
  rw [hpush]
  rfl

/-- Both tracks at once: the state an illegal transition leaves before the record has its flag. -/
theorem decodeTracks_both {time : Nat} (hon : s.mode p ≠ .off) (h1 : f1.level ≠ (s.port p).travel.quad.one)
    (h2 : f2.level ≠ (s.port p).travel.quad.two) :
    decodeTracks p ((advance time s).setPort p ((s.port p).tracks f1 f2)) = noteIllegal p ((advance time s).setPort p
      { s.port p with travel := TravelUnit.suspected { (s.port p).travel with track1 := f1, track2 := f2 } }) := by
  rw [decodeTracks_illegal, setPort_setPort, setPort_port_same]
  · rfl
  · rw [mode_eq, setPort_port_same]
    exact hon
  · rw [setPort_port_same]
    exact decode_both h1 h2

theorem illegal_quiet {c : Instr} {time : Nat} (hquiet : s.mode p = .idle ∨ s.mode p = .nulling ∨ s.mode p = .fault)
    (hc : exec c s = .next (arbitrate (decodeTracks p ((advance time s).setPort p ((s.port p).tracks f1 f2)))))
    (h1 : f1.level ≠ (s.port p).travel.quad.one) (h2 : f2.level ≠ (s.port p).travel.quad.two) :
    ∃ t, exec c s = .next t ∧ EventOn p s t time { s.port p with
      travel := TravelUnit.suspected { (s.port p).travel with track1 := f1, track2 := f2 } } := by
  have hon : s.mode p ≠ .off := by
    rintro hoff
    simp [hoff] at hquiet
  rw [decodeTracks_both hon h1 h2, noteIllegal_quiet (by rw [mode_eq, setPort_port_same]; exact hquiet)] at hc
  exact ⟨_, hc, eventOn_setPort _ _⟩

theorem illegal_tube {c : Instr} {time : Nat} (htube : s.mode p = .armed ∨ s.mode p = .acquiring)
    (hc : exec c s = .next (arbitrate (decodeTracks p ((advance time s).setPort p ((s.port p).tracks f1 f2)))))
    (h1 : f1.level ≠ (s.port p).travel.quad.one) (h2 : f2.level ≠ (s.port p).travel.quad.two) :
    ∃ t, exec c s = .next t ∧
      (t.port p).sansRing = { s.port p with
        travel := TravelUnit.suspected { (s.port p).travel with track1 := f1, track2 := f2 } }.sansRing ∧
      (∀ q, q ≠ p → (t.port q).sansRing = (s.port q).sansRing) ∧ t.now = max s.now time ∧ t.pending = s.pending ∧
      QuietLink s t ∧ t.unsentReports = s.unsentReports ∧ t.store.ready = s.store.ready ∧
      t.readyRecords = s.readyRecords ∧ (∀ q, q ≠ p → t.openRecords q = s.openRecords q) ∧
      t.openRecords p = (s.openRecords p).map (fun r =>
        if (s.port p).travel.illegal + 1 = 16 then { r with flags := { r.flags with encoderSuspect := true } } else r) := by
  have hon : s.mode p ≠ .off := by
    rintro hoff
    simp [hoff] at htube
  have hcount : (if (s.port p).travel.illegal < 65535 then (s.port p).travel.illegal + 1 else (s.port p).travel.illegal) = 16 ↔
      (s.port p).travel.illegal + 1 = 16 := by
    split <;> omega
  have hkeeps : Keeps fun r : Record => if (s.port p).travel.illegal + 1 = 16 then r.setEncoderSuspect else r :=
    Keeps.ite (keeps_onFlags _) Keeps.id
  rw [decodeTracks_both hon h1 h2, noteIllegal_tube (by rw [mode_eq, setPort_port_same]; exact htube), setPort_port_same] at hc
  simp only [TravelUnit.suspected, hcount] at hc
  refine ⟨_, hc, ?_, fun q hq => ?_, ?_, ?_, ⟨?_, ?_, ?_⟩, ?_, ?_, ?_, fun q hq => ?_, ?_⟩
  · rw [arbitrate_sansRing, onOpen_port, setPort_port_same]
    rfl
  · rw [arbitrate_sansRing, onOpen_port, setPort_port_ne _ hq, advance_port]
  · rw [arbitrate_now]
    rfl
  · rw [arbitrate_pending]
    rfl
  · rw [arbitrate_unsentReplies]
    rfl
  · rw [arbitrate_deframer]
    rfl
  · rw [arbitrate_counters]
    rfl
  · rw [arbitrate_unsentReports]
    rfl
  · rw [arbitrate_store]
    rfl
  · rw [State.readyRecords, arbitrate_store]
    exact onOpen_readyRecords
  · rw [State.openRecords, arbitrate_store]
    exact onOpen_openRecords_ne hkeeps.port hq
  · rw [State.openRecords, arbitrate_store]
    exact onOpen_openRecords hkeeps.port

/-- A change of the inputs under no filter. -/
theorem exec_input_unfiltered {time : Nat} {l1 l2 : Bool} (hlength : (s.port p).plan.working.travel.deglitch = 0)
    (h1 : (s.port p).travel.track1 = .atInput (s.port p).travel.quad.one)
    (h2 : (s.port p).travel.track2 = .atInput (s.port p).travel.quad.two) : exec (.trackInputChange time p l1 l2) s =
      .next (arbitrate (decodeTracks p
        ((advance time s).setPort p ((s.port p).tracks (.atInput l1) (.atInput l2))))) := by
  rw [exec_inputChange, hlength, h1, h2, onInput_unfiltered, onInput_unfiltered]

/-- In OFF the filters do their work and nothing is decoded. -/
theorem tracks_off {c : Instr} {time : Nat} (hoff : s.mode p = .off)
    (hc : exec c s = .next (arbitrate (decodeTracks p ((advance time s).setPort p ((s.port p).tracks f1 f2))))) :
    ∃ t, exec c s = .next t ∧ EventOn p s t time ((s.port p).tracks f1 f2) := by
  rw [decodeTracks_off (by rw [mode_eq, setPort_port_same]; exact hoff)] at hc
  exact ⟨_, hc, eventOn_setPort _ _⟩

/-- Filters that leave the levels leave the rest. -/
theorem tracks_still {c : Instr} {time : Nat} (h : (s.port p).travel.quad = { one := f1.level, two := f2.level })
    (hc : exec c s = .next (arbitrate (decodeTracks p ((advance time s).setPort p ((s.port p).tracks f1 f2))))) :
    ∃ t, exec c s = .next t ∧ EventOn p s t time ((s.port p).tracks f1 f2) := by
  rw [decodeTracks_still (by rw [setPort_port_same]; exact h.symm)] at hc
  exact ⟨_, hc, eventOn_setPort _ _⟩

/-- Settles O40, by the filter length, the state of the port and the tracks that turn. -/
theorem tracksDecode : Obligations.TracksDecode := by
  intro s p l1 l2 time u w onInput follow quiet at1 at2 later running illegal edge tube counts suspects
  have turnedLevel (l : Bool) : (!l) ≠ l := by cases l <;> decide
  refine ⟨fun hlength hstill => ?_, fun hlength hquiet h1 h2 hl1 hl2 => ?_, fun hlength hquiet h1 h2 hl1 hl2 => ?_,
    fun hlength hquiet h1 h2 hl1 hl2 => ?_, fun began hquiet h1 h2 => ?_, fun began hquiet h1 h2 => ?_,
    fun hlength htube h1 h2 hl1 hl2 => ?_, fun hlength htube h1 h2 hl1 hl2 => ?_, fun began htube h1 h2 => ?_,
    fun began htube h1 h2 => ?_, fun hlength htube h1 h2 hl1 hl2 => ?_, fun began htube h1 h2 => ?_,
    fun began hquiet h1 h2 => ?_, fun hlength hoff => ?_, fun began hoff hfirst hleast => ?_⟩
  · have hc := exec_inputChange p time l1 l2 s
    rw [onInput_filtered hlength, onInput_filtered hlength] at hc
    obtain hoff | hlevels := hstill
    · exact tracks_off hoff hc
    · refine tracks_still (hlevels.trans ?_) hc
      have stands (f : TrackFilter) (l : Bool) : (onInput f l).level = f.level :=
        (congrArg TrackFilter.level (onInput_filtered hlength _ l f)).symm.trans (onInput_filtered_level hlength _ l f)
      rw [stands, stands]
  · exact turns_quiet hquiet (exec_input_unfiltered hlength h1 h2) (decode_tracks_first hl1 hl2)
  · exact turns_quiet hquiet (exec_input_unfiltered hlength h1 h2) (decode_tracks_second hl1 hl2)
  · exact illegal_quiet hquiet (exec_input_unfiltered hlength h1 h2) hl1 hl2
  · obtain ⟨hlevel, hafter⟩ := h2
    obtain ⟨t, x, hexec, hevent, hedge, hquad, hx1, hx2⟩ :=
      turns_quiet hquiet (exec_expiry_first h1 hafter) (decode_tracks_first (turnedLevel _) hlevel)
    exact ⟨t, x, hexec, hevent, hedge, by rw [hquad, hlevel]; rfl, hx1, hx2⟩
  · obtain ⟨hlevel, hafter⟩ := h1
    obtain ⟨t, x, hexec, hevent, hedge, hquad, hx1, hx2⟩ :=
      turns_quiet hquiet (exec_expiry_second hafter h2) (decode_tracks_second hlevel (turnedLevel _))
    exact ⟨t, x, hexec, hevent, hedge, by rw [hquad, hlevel]; rfl, hx1, hx2⟩
  · exact turns_counted htube (exec_input_unfiltered hlength h1 h2) (decode_tracks_first hl1 hl2)
  · exact turns_counted htube (exec_input_unfiltered hlength h1 h2) (decode_tracks_second hl1 hl2)
  · obtain ⟨hlevel, hafter⟩ := h2
    obtain ⟨x, hedge, hquad, hx1, hx2, hexec⟩ :=
      turns_counted htube (exec_expiry_first h1 hafter) (decode_tracks_first (turnedLevel _) hlevel)
    exact ⟨x, hedge, by rw [hquad, hlevel]; rfl, hx1, hx2, hexec⟩
  · obtain ⟨hlevel, hafter⟩ := h1
    obtain ⟨x, hedge, hquad, hx1, hx2, hexec⟩ :=
      turns_counted htube (exec_expiry_second hafter h2) (decode_tracks_second hlevel (turnedLevel _))
    exact ⟨x, hedge, by rw [hquad, hlevel]; rfl, hx1, hx2, hexec⟩
  · exact illegal_tube htube (exec_input_unfiltered hlength h1 h2) hl1 hl2
  · exact illegal_tube htube (exec_expiry_both h1 h2) (turnedLevel _) (turnedLevel _)
  · exact illegal_quiet hquiet (exec_expiry_both h1 h2) (turnedLevel _) (turnedLevel _)
  · have hc := exec_inputChange p time l1 l2 s
    rw [hlength, onInput_zero, onInput_zero] at hc
    exact tracks_off hoff hc
  · exact tracks_off hoff (exec_filterExpiry hfirst hleast)

end Sys2Proof.Machine

/-! PROOFS. The drive channel's course: answers in turn and out of turn, deadlines, messages sent (R151 to R162), and the
transmitter's choice (R183). -/

namespace Sys2Proof.Machine

variable {p q : PortId} {s t : State} {d x : DriveChannel}

/-! ### The events of a drive channel -/

/-- An operation on one drive channel is an event on it, with the events the operation raises. -/
theorem driveEventOn_operation {time : Nat} {op : DriveChannel → DriveChannel × List DriveEvent} {es : List DriveEvent}
    (h : op (s.port p).drive = (d, es)) :
    DriveEventOn p s (arbitrate (onDriveEvents p op (advance time s))) time d es := by
  have hop : onDriveEvents p op (advance time s) = tell (es.map (Report.driveEvent p))
      ((advance time s).setPort p { s.port p with drive := d }) := by
    rw [onDriveEvents_eq, advance_port, h]
  rw [hop]
  refine ⟨?_, fun q hq => ?_, ?_, ?_, ?_, ?_, fun hroom => ?_⟩
  · rw [arbitrate_sansRing, tell_port, setPort_port_same]
    rfl
  · rw [arbitrate_sansRing, tell_port, setPort_port_ne _ hq, advance_port]
  · rw [arbitrate_store, tell_store]
    rfl
  · rw [arbitrate_pending, tell_pending]
    rfl
  · rw [arbitrate_now, tell_now]
    rfl
  · rw [arbitrate_unsentReplies, tell_unsentReplies]
    rfl
  · rw [arbitrate_unsentReports]
    exact tell_raised _ hroom

/-- An operation that leaves its channel and raises nothing is no event but the passing of time. -/
theorem eventOn_operation {time : Nat} {op : DriveChannel → DriveChannel × List DriveEvent}
    (h : op (s.port p).drive = ((s.port p).drive, [])) :
    EventOn p s (arbitrate (onDriveEvents p op (advance time s))) time (s.port p) := by
  have hop : onDriveEvents p op (advance time s) = advance time s := by
    rw [onDriveEvents_eq, advance_port, h]
    exact setPort_self (s := advance time s)
  rw [hop]
  exact eventOn_advance p time

/-! ### A channel at rest (R154, R158) -/

theorem settle_drains (h : d.queue = []) : d.settle = (d, [{ kind := .drained, state := d.state, queueLength := 0 }]) := by
  have event : d.event .drained = { kind := .drained, state := d.state, queueLength := 0 } := by
    rw [DriveChannel.event, h]
    rfl
  rw [DriveChannel.settle, h]
  exact congrArg (fun e => (d, [e])) event

theorem settle_issues {m : Move} {rest : List Move} (hissue : d.canIssue = true) (h : d.queue = m :: rest) :
    d.settle = ({ d with
      state := .awaitAccept, queue := rest, current := some { move := m, number := d.number }
      awaited := some { kind := .move, number := d.number, deadline := none }
      outgoing := d.outgoing ++ [.move d.number m.direction m.speed m.distance], number := d.number + 1 }, []) := by
  rw [← issue_of_canIssue hissue h, DriveChannel.settle, h]

/-- An operation that brings a channel to rest raises DRAINED or issues the head of its queue. -/
theorem settles_event {time : Nat} {op : DriveChannel → DriveChannel × List DriveEvent} (hissue : x.canIssue = true)
    (h : op (s.port p).drive = x.settle) :
    (x.queue = [] → DriveEventOn p s (arbitrate (onDriveEvents p op (advance time s))) time x
      [{ kind := .drained, state := x.state, queueLength := 0 }]) ∧
    (∀ m rest, x.queue = m :: rest → DriveEventOn p s (arbitrate (onDriveEvents p op (advance time s))) time { x with
      state := .awaitAccept, queue := rest, current := some { move := m, number := x.number }
      awaited := some { kind := .move, number := x.number, deadline := none }
      outgoing := x.outgoing ++ [.move x.number m.direction m.speed m.distance], number := x.number + 1 } []) :=
  ⟨fun hqueue => driveEventOn_operation (h.trans (settle_drains hqueue)),
    fun _ _ hqueue => driveEventOn_operation (h.trans (settle_issues hissue hqueue))⟩

/-! ### What a lawful channel awaits (R152) -/

/-- A channel that awaits the ACCEPT of a RELEASE or of a HALT holds no move. -/
theorem lawful_no_current {a : AwaitedAccept} (h : d.lawful) (ha : d.awaited = some a) (hkind : a.kind ≠ .move) :
    d.current = none := by
  obtain ⟨-, hawaited, hcurrent, -⟩ := h
  rw [ha] at hawaited
  have hstate : d.state = .awaitHalt ∨ d.state = .holding := by
    cases hs : d.state with
    | awaitAccept => rw [hs] at hawaited; exact absurd (Option.some.inj hawaited) hkind
    | awaitHalt => exact .inl rfl
    | holding => exact .inr rfl
    | released => rw [hs] at hawaited; cases hawaited
    | moving => rw [hs] at hawaited; cases hawaited
    | lost => rw [hs] at hawaited; cases hawaited
  have hnone : ¬ d.current.isSome = true := fun hsome => by
    have := hcurrent.mp hsome
    obtain hs | hs := hstate <;> simp [hs] at this
  exact Option.not_isSome_iff_eq_none.mp hnone

/-- A channel that awaits the ACCEPT of a LIMIT moves. -/
theorem lawful_limit {l : AwaitedLimit} (h : d.lawful) (hl : d.limit = some l) : d.state = .moving ∧ d.awaited = none := by
  have hmoving : d.state = .moving := by
    obtain ⟨-, -, -, hlimit, -⟩ := h
    exact hlimit (.inl (by rw [hl]; rfl))
  exact ⟨hmoving, (h.moving hmoving).1⟩

/-- A deferred completion leaves no move. -/
theorem lawful_deferred {stop : Bool} (h : d.lawful) (hstate : d.state = .moving) (hdeferred : d.deferred = some stop) :
    d.current = none := by
  refine Option.not_isSome_iff_eq_none.mp fun hsome => ?_
  rw [(h.moving hstate).2.mp hsome] at hdeferred
  cases hdeferred

/-! ### Answers in turn (R155 to R160, R162) -/

theorem onAccept_awaited {now : Nat} {a : AwaitedAccept} (ha : d.awaited = some a) : d.onAccept now a.number = d.acceptAwaited now a := by
  have hfilter : d.awaited.filter (fun b => b.number = a.number) = some a := by
    rw [ha]
    exact Option.filter_eq_some_iff.mpr ⟨rfl, decide_eq_true rfl⟩
  rw [DriveChannel.onAccept, hfilter]

theorem onAccept_limit {now : Nat} {l : AwaitedLimit} (ha : d.awaited = none) (hl : d.limit = some l) :
    d.onAccept now l.number = d.acceptLimit now l := by
  have hfilter : d.limit.filter (fun b => b.number = l.number) = some l := by
    rw [hl]
    exact Option.filter_eq_some_iff.mpr ⟨rfl, decide_eq_true rfl⟩
  rw [DriveChannel.onAccept, hfilter, ha]
  rfl

theorem onRefuse_awaited {a : AwaitedAccept} (ha : d.awaited = some a) (reason : Byte) :
    d.onRefuse a.number reason = if a.kind = .halt then d.becomeLost else d.abort .refused (some reason) := by
  have hfilter : d.awaited.filter (fun b => b.number = a.number) = some a := by
    rw [ha]
    exact Option.filter_eq_some_iff.mpr ⟨rfl, decide_eq_true rfl⟩
  rw [DriveChannel.onRefuse, hfilter]

theorem onRefuse_limit {l : AwaitedLimit} (ha : d.awaited = none) (hl : d.limit = some l) (reason : Byte) :
    d.onRefuse l.number reason = d.abort .refused (some reason) := by
  have hfilter : d.limit.filter (fun b => b.number = l.number) = some l := by
    rw [hl]
    exact Option.filter_eq_some_iff.mpr ⟨rfl, decide_eq_true rfl⟩
  rw [DriveChannel.onRefuse, hfilter, ha]
  rfl

/-- Nothing awaited carries the number of an answer out of turn. -/
theorem out_of_turn {n : Byte} (h : ¬ ((∃ a, d.awaited = some a ∧ a.number = n) ∨ ∃ l, d.limit = some l ∧ l.number = n)) :
    d.awaited.filter (fun a => a.number = n) = none ∧ d.limit.filter (fun l => l.number = n) = none := by
  refine ⟨Option.filter_eq_none_iff.mpr fun a ha hn => h (.inl ⟨a, ha, of_decide_eq_true hn⟩),
    Option.filter_eq_none_iff.mpr fun l hl hn => h (.inr ⟨l, hl, of_decide_eq_true hn⟩)⟩

/-- A DONE in turn (R156). -/
theorem onDone_current {c : CurrentMove} (hstate : d.state = .moving) (hc : d.current = some c) (hdeferred : d.deferred = none) :
    d.onDone c.number = if d.limit.isSome then
        ({ d with doneDeadline := none, current := none, deferred := some c.move.stop }, [])
      else { d with doneDeadline := none, current := none }.complete c.move.stop := by
  rw [DriveChannel.onDone, hc]
  exact if_pos ⟨hstate, rfl, hdeferred⟩

/-- Settles O45, answer by answer. -/
theorem acceptAndDoneAct : Obligations.AcceptAndDoneAct := by
  intro s p time n hlaw d now deadline released settled
  have hlawful : d.lawful := hlaw p
  refine ⟨fun a ha hn => ⟨_, rfl, ?_⟩, fun l hl hn => ⟨_, rfl, ?_⟩, fun c hstate hc hn => ⟨_, rfl, ?_⟩⟩
  · subst hn
    have haccept := onAccept_awaited (now := now) ha
    unfold DriveChannel.acceptAwaited at haccept
    refine ⟨fun c hkind hc => ?_, fun hkind => ?_, fun hkind => ?_⟩
    · rw [hkind] at haccept
      exact driveEventOn_operation (haccept.trans (congrArg (fun due => ({ d with
        state := .moving, awaited := none, doneDeadline := due }, [])) (congrArg (Option.map _) hc)))
    · rw [hkind] at haccept
      have hcurrent := lawful_no_current hlawful ha (by rw [hkind]; decide)
      exact settles_event (canIssue_iff.mpr ⟨.inl rfl, hcurrent, rfl⟩) haccept
    · rw [hkind] at haccept
      have hcurrent := lawful_no_current hlawful ha (by rw [hkind]; decide)
      exact settles_event (canIssue_iff.mpr ⟨.inr rfl, hcurrent, rfl⟩) haccept
  · subst hn
    obtain ⟨hmoving, hawaited⟩ := lawful_limit hlawful hl
    have haccept := onAccept_limit (now := now) hawaited hl
    unfold DriveChannel.acceptLimit at haccept
    refine ⟨fun c hdeferred hc => ?_, fun hdeferred => ?_, fun hdeferred => ?_⟩
    · have hmoves : d.onAccept now l.number = ({ d with
          limit := none, doneDeadline := d.current.map fun c => doneDeadlineFrom now c.move.distance l.speed }, []) := by
        rw [haccept, hdeferred]
      exact driveEventOn_operation (hmoves.trans (congrArg (fun due => ({ d with
        limit := none, doneDeadline := due }, [])) (congrArg (Option.map _) hc)))
    · rw [hdeferred] at haccept
      exact driveEventOn_operation haccept
    · rw [hdeferred] at haccept
      have hcurrent : d.current = none := lawful_deferred hlawful hmoving hdeferred
      exact settles_event (canIssue_iff.mpr ⟨.inr rfl, hcurrent, hawaited⟩) haccept
  · subst hn
    obtain ⟨hawaited, hdeferred⟩ := hlawful.moving hstate
    have hdone := onDone_current hstate hc (hdeferred.mp (by rw [hc]; rfl))
    refine ⟨fun hlimit => ?_, fun hlimit hstop => ?_, fun hlimit hstop => ?_⟩
    · rw [if_pos hlimit] at hdone
      exact driveEventOn_operation hdone
    · rw [if_neg (by rw [hlimit]; decide), hstop] at hdone
      exact driveEventOn_operation hdone
    · rw [if_neg (by rw [hlimit]; decide), hstop] at hdone
      exact settles_event (canIssue_iff.mpr ⟨.inr rfl, rfl, hawaited⟩) hdone

/-! ### Refusals and deadlines (R155 to R157, R159, R160) -/

/-- Settles O46, by what the refusal or the deadline is of. -/
theorem refuseAndDeadlinesAbort : Obligations.RefuseAndDeadlinesAbort := by
  intro s p time n reason hlaw d aborted lost
  have hlawful : d.lawful := hlaw p
  refine ⟨fun a ha hn => ⟨_, rfl, ?_⟩, fun l hl hn => ⟨_, rfl, ?_⟩, fun a due ha hdue => ?_, fun l due hl hdue => ?_,
    fun due hstate hdue => ?_⟩
  · subst hn
    have hrefuse := onRefuse_awaited ha reason
    exact ⟨fun hkind => driveEventOn_operation (hrefuse.trans (if_neg hkind)),
      fun hkind => driveEventOn_operation (hrefuse.trans (if_pos hkind))⟩
  · subst hn
    exact driveEventOn_operation (onRefuse_limit (lawful_limit hlawful hl).2 hl reason)
  · have hpasses : passAcceptDeadline p s = onDriveEvents p DriveChannel.onAcceptDeadline (advance due s) := by
      have hruns : (s.port p).drive.awaited.bind AwaitedAccept.deadline = some due := by
        rw [show (s.port p).drive.awaited = some a from ha]
        exact hdue
      rw [passAcceptDeadline, hruns]
    have hpassed : d.onAcceptDeadline = if a.kind = .halt then d.becomeLost else d.abort .timeout none := by
      rw [DriveChannel.onAcceptDeadline, ha]
    have hexec : exec (.acceptDeadline p) s = .next (arbitrate (passAcceptDeadline p s)) := rfl
    refine ⟨_, hexec, ?_⟩
    rw [hpasses]
    exact ⟨fun hkind => driveEventOn_operation (hpassed.trans (if_neg hkind)),
      fun hkind => driveEventOn_operation (hpassed.trans (if_pos hkind))⟩
  · have hpasses : passLimitDeadline p s = driveAbort p .timeout (advance due s) := by
      have hruns : (s.port p).drive.limit.bind AwaitedLimit.deadline = some due := by
        rw [show (s.port p).drive.limit = some l from hl]
        exact hdue
      rw [passLimitDeadline, hruns]
    have hexec : exec (.limitAcceptDeadline p) s = .next (arbitrate (passLimitDeadline p s)) := rfl
    refine ⟨_, hexec, ?_⟩
    rw [hpasses]
    exact driveEventOn_operation rfl
  · have hpasses : passDoneDeadline p s = driveAbort p .stall (advance due s) := by
      rw [passDoneDeadline, show (s.port p).drive.state = .moving from hstate,
        show (s.port p).drive.doneDeadline = some due from hdue]
    have hexec : exec (.doneDeadline p) s = .next (arbitrate (passDoneDeadline p s)) := rfl
    refine ⟨_, hexec, ?_⟩
    rw [hpasses]
    exact driveEventOn_operation rfl

/-! ### Out of turn (R151, R162, R190) -/

theorem onDone_out_of_turn {n : Byte}
    (h : d.state ≠ .moving ∨ (∀ c, d.current = some c → c.number ≠ n) ∨ d.deferred.isSome = true) : d.onDone n = (d, []) := by
  unfold DriveChannel.onDone
  split
  next => rfl
  next c hc =>
    refine if_neg ?_
    rintro ⟨hstate, hnumber, hdeferred⟩
    obtain h | h | h := h
    · exact h hstate
    · exact h c hc hnumber
    · rw [hdeferred] at h; cases h

/-- Settles O47, by the answer. -/
theorem outOfTurnIgnored : Obligations.OutOfTurnIgnored := by
  intro s p time n reason raw d awaits ignored
  refine ⟨fun hturn => ⟨_, rfl, ?_⟩, fun hturn => ⟨_, rfl, ?_⟩, fun hturn => ⟨_, rfl, ?_⟩, fun hdamaged => ⟨_, rfl, ?_⟩,
    fun a ha => ?_⟩
  · obtain ⟨hawaited, hlimit⟩ := out_of_turn hturn
    refine eventOn_operation (op := DriveChannel.onAccept _ n) ?_
    rw [DriveChannel.onAccept, hawaited, hlimit]
  · obtain ⟨hawaited, hlimit⟩ := out_of_turn hturn
    refine eventOn_operation (op := DriveChannel.onRefuse n reason) ?_
    rw [DriveChannel.onRefuse, hawaited, hlimit]
  · exact eventOn_operation (onDone_out_of_turn hturn)
  · rw [driveMessage, hdamaged]
    exact eventOn_advance p time
  · have hexec : exec (.driveMessageDamaged time p raw) s = .next (arbitrate (driveMessage p raw (advance time s))) := rfl
    rw [hexec, driveMessage, ha]
    cases a <;> rfl

/-! ### Messages sent (R151) -/

/-- Settles O48, by the kind of message sent. -/
theorem messageSentStartsDeadline : Obligations.MessageSentStartsDeadline := by
  intro s p time m rest hout d due
  refine ⟨_, rfl, fun n v hm => ?_, fun n hm => ?_⟩
  · have hsent : d.messageSent (max s.now time) = { d with
        outgoing := rest, limit := d.limit.map (AwaitedLimit.startDeadline (max s.now time) n) } := by
      rw [DriveChannel.messageSent, hout, hm]
    rw [onDrive, onPort]
    dsimp only [advance_port, advance_now]
    rw [hsent]
    exact eventOn_setPort _ _
  · have hsent : d.messageSent (max s.now time) = { d with
        outgoing := rest, awaited := d.awaited.map (AwaitedAccept.startDeadline (max s.now time) n) } := by
      rw [DriveChannel.messageSent, hout]
      obtain rfl | rfl | ⟨way, speed, distance, rfl⟩ := hm
      all_goals rfl
    rw [onDrive, onPort]
    dsimp only [advance_port, advance_now]
    rw [hsent]
    exact eventOn_setPort _ _

/-! ### The transmitter (R172, R180, R183) -/

theorem freeBuffer_eq (place : Option Nat) (buffer : List HeldRequest) :
    freeBuffer place buffer = buffer.filter fun h => decide (place ≠ some h.place) := by
  cases place with
  | none => simp [freeBuffer]
  | some n =>
    unfold freeBuffer
    refine List.filter_congr fun h _ => ?_
    by_cases hn : h.place = n
    · simp [hn]
    · simp [hn, Ne.symm hn]

theorem servingOrder_eq (last : PortId) : servingOrder last = match last with
    | .a => [.b, .c, .d, .a]
    | .b => [.c, .d, .a, .b]
    | .c => [.d, .a, .b, .c]
    | .d => [.a, .b, .c, .d] := by
  cases last <;> rfl

/-- The frame taken by turn is the oldest of the first port whose ring holds one. -/
theorem nextStream_first {before after : List PortId} {f : StreamFrame} {rest : List StreamFrame}
    (horder : servingOrder s.link.lastServed = before ++ p :: after) (hbefore : ∀ q ∈ before, (s.port q).stream.ring = [])
    (hring : (s.port p).stream.ring = f :: rest) : nextStream s = some (p, f, rest) := by
  rw [nextStream, horder, List.findSome?_append, List.findSome?_eq_none_iff.mpr fun q hq => by rw [hbefore q hq],
    List.findSome?_cons, hring]
  rfl

theorem nextStream_none (h : ∀ q, (s.port q).stream.ring = []) : nextStream s = none :=
  List.findSome?_eq_none_iff.mpr fun q _ => by rw [h q]

/-- Settles O50, by what waits. -/
theorem transmitterTakesNext : Obligations.TransmitterTakesNext := by
  intro s time
  have hidle : (frameSent (advance time s)).link.sending = none := rfl
  refine ⟨_, rfl, arbitrate_store, arbitrate_pending, arbitrate_now, arbitrate_deframer, arbitrate_counters,
    fun r rest hreplies => ?_, fun r rest hreplies hreports => ?_,
    fun before p after f rest hreplies hreports horder hbefore hring => ?_, fun hreplies hreports hrings => ?_⟩
  · have harb : arbitrate (frameSent (advance time s)) = onLink (fun l => { l with
        replies := rest, sending := some (.reply r), buffer := freeBuffer r.place l.buffer })
        (frameSent (advance time s)) := by
      rw [arbitrate, hidle, show (frameSent (advance time s)).link.replies = r :: rest from hreplies]
    rw [harb]
    exact ⟨rfl, congrArg (fun buffer => { s.link with sending := some (.reply r), replies := rest, buffer := buffer })
      (freeBuffer_eq r.place s.link.buffer)⟩
  · have harb : arbitrate (frameSent (advance time s)) =
        onLink (fun l => { l with reports := rest, sending := some (.report r) }) (frameSent (advance time s)) := by
      rw [arbitrate, hidle, show (frameSent (advance time s)).link.replies = [] from hreplies,
        show (frameSent (advance time s)).link.reports = r :: rest from hreports]
    rw [harb]
    exact ⟨rfl, rfl⟩
  · have hnext : nextStream (frameSent (advance time s)) = some (p, f, rest) :=
      nextStream_first ((servingOrder_eq s.link.lastServed).trans horder) hbefore hring
    have harb : arbitrate (frameSent (advance time s)) = onLink (fun l => { l with sending := some (.stream f), lastServed := p })
        (onStream p (fun u => { u with ring := rest }) (frameSent (advance time s))) := by
      rw [arbitrate, hidle, show (frameSent (advance time s)).link.replies = [] from hreplies,
        show (frameSent (advance time s)).link.reports = [] from hreports, hnext]
    rw [harb]
    exact ⟨fun q hq => setPort_port_ne (s := frameSent (advance time s)) _ hq,
      setPort_port_same (s := frameSent (advance time s)) _, rfl⟩
  · have hnext : nextStream (frameSent (advance time s)) = none := nextStream_none hrings
    rw [arbitrate, hidle, show (frameSent (advance time s)).link.replies = [] from hreplies,
      show (frameSent (advance time s)).link.reports = [] from hreports, hnext]
    exact ⟨rfl, rfl⟩

end Sys2Proof.Machine

/-! PROOFS. What a held request is answered (R85, R142, R180, R181), the pool behind a close (R143), and CLOSE_TUBE. -/

namespace Sys2Proof.Machine

variable {p q : PortId} {s t u : State} {b : PortBlocks} {h : HeldRequest} {k : RequestKind} {body : ReplyBody} {rs : List Report}

/-! ### The answer to a held request -/

/-- The reply to a held request. -/
def HeldRequest.answer (body : ReplyBody) (h : HeldRequest) : Reply :=
  { place := some h.place, kind := h.kind.code, tag := h.tag, port := h.port, body := body }

theorem reply_held (hlaw : u.link.lawful) (hh : h ∈ u.link.buffer) (hwaits : h.inProgress) (body : ReplyBody) :
    reply h.place body u = onLink (fun l => { l with
      replies := l.replies ++ [h.answer body], buffer := l.buffer.map (HeldRequest.markAnswered h.place) }) u :=
  reply_eq body (hlaw.find_place hh) hwaits

theorem reply_unsentReplies (hlaw : u.link.lawful) (hh : h ∈ u.link.buffer) (hwaits : h.inProgress) :
    (reply h.place body u).unsentReplies = u.unsentReplies ++ [h.answer body] := by
  rw [reply_held hlaw hh hwaits]
  exact (List.append_assoc ..).symm

theorem reply_unsentReports (place : Nat) : (reply place body u).unsentReports = u.unsentReports := by
  rw [reply_onLink]
  rcases replied_cases place body u.link with heq | ⟨x, -, -, -, heq⟩
  all_goals
    rw [State.unsentReports, onLink, heq]
    rfl

theorem answerHeld_unsentReports : (answerHeld k p body u).unsentReports = u.unsentReports := by
  unfold answerHeld
  split
  · exact reply_unsentReports _
  · rfl

/-- The one request of its kind that waits on its port is the one answered. -/
theorem answerHeld_held (halone : u.link.alone) (hh : h ∈ u.link.buffer) (hwaits : h.inProgress) (hkind : h.kind = k)
    (hport : h.port = p.byte) : answerHeld k p body u = reply h.place body u := by
  unfold answerHeld
  cases hfind : heldOn u k p with
  | none => exact absurd (List.find?_eq_none.mp hfind h hh) (by simpa using ⟨hkind, hport, hwaits⟩)
  | some x =>
    obtain ⟨hxkind, hxport, hxwaits⟩ : x.kind = k ∧ x.port = p.byte ∧ x.answered = false := by
      simpa using List.find?_some hfind
    rw [halone x (List.mem_of_find?_eq_some hfind) h hh hxwaits hwaits (hxkind.trans hkind.symm) (hxport.trans hport.symm)]

/-- Where no request of the kind waits on the port nothing is answered. -/
theorem answerHeld_none (hnone : ∀ x ∈ u.link.buffer, x.inProgress → ¬ (x.kind = k ∧ x.port = p.byte)) :
    answerHeld k p body u = u := by
  have hfind : heldOn u k p = none := List.find?_eq_none.mpr fun x hx => by
    have hx := hnone x hx
    simpa [HeldRequest.inProgress] using fun hkind hport hwaits => hx hwaits ⟨hkind, hport⟩
  rw [answerHeld, hfind]

/-- What is said behind reports and work on one port is said to the requests held before. -/
theorem told_lawful (hlaw : s.link.lawful) (halone : s.link.alone) (c : RecordStore → RecordStore) :
    (tell rs (onStore c (s.setPort p b))).link.lawful ∧ (tell rs (onStore c (s.setPort p b))).link.alone ∧
    (tell rs (onStore c (s.setPort p b))).link.buffer = s.link.buffer ∧
    (tell rs (onStore c (s.setPort p b))).unsentReplies = s.unsentReplies := by
  have moves := moves_tell (s := onStore c (s.setPort p b)) rs
  exact ⟨moves.lawful hlaw, moves.alone halone, tell_buffer rs, tell_unsentReplies rs⟩

/-- The held request of a kind is answered by an operation of the port. -/
theorem said_answers {c : RecordStore → RecordStore} (hlaw : s.link.lawful) (halone : s.link.alone)
    (hh : h ∈ s.link.buffer) (hwaits : h.inProgress) (hkind : h.kind = k) (hport : h.port = p.byte) :
    (said (answerHeld k p body) rs c p b s).unsentReplies = s.unsentReplies ++ [h.answer body] := by
  obtain ⟨hlawful, halone, hbuffer, hreplies⟩ := told_lawful (p := p) (b := b) (rs := rs) hlaw halone c
  rw [said, answerHeld_held halone (hbuffer ▸ hh) hwaits hkind hport,
    reply_unsentReplies hlawful (hbuffer ▸ hh) hwaits, hreplies]

/-- The reports told with an answer are raised. -/
theorem said_raised {ans : State → State} {c : RecordStore → RecordStore}
    (hans : ∀ v : State, (ans v).unsentReports = v.unsentReports) : Raised s (said ans rs c p b s) rs := fun hroom => by
  rw [said, hans]
  exact tell_raised (s := onStore c (s.setPort p b)) rs hroom

/-- An operation of a port that answers the request held for it, and the transmitter's choice behind it. -/
theorem said_arbitrated {c : RecordStore → RecordStore} (hlaw : s.link.lawful) (halone : s.link.alone)
    (hh : h ∈ s.link.buffer) (hwaits : h.inProgress) (hkind : h.kind = k) (hport : h.port = p.byte) :
    ∃ l, arbitrate (said (answerHeld k p body) rs c p b s) = { onStore c (s.setPort p b) with link := l } ∧
      (arbitrate (said (answerHeld k p body) rs c p b s)).unsentReplies = s.unsentReplies ++ [h.answer body] ∧
      Raised s (arbitrate (said (answerHeld k p body) rs c p b s)) rs := by
  obtain ⟨hlawful, halone', hbuffer, -⟩ := told_lawful (p := p) (b := b) (rs := rs) hlaw halone c
  have answered : said (answerHeld k p body) rs c p b s = reply h.place body (tell rs (onStore c (s.setPort p b))) :=
    answerHeld_held halone' (hbuffer ▸ hh) hwaits hkind hport
  have waiting : (said (answerHeld k p body) rs c p b s).link.replies ≠ [] := by
    rw [answered, reply_held hlawful (hbuffer ▸ hh) hwaits]
    exact List.append_ne_nil_of_right_ne_nil _ (List.cons_ne_nil _ _)
  obtain ⟨l, harb, -, -⟩ := arbitrate_link_only (.inr (.inl waiting))
  obtain ⟨l', hsaid⟩ : ∃ l', said (answerHeld k p body) rs c p b s = { onStore c (s.setPort p b) with link := l' } := by
    obtain ⟨l1, h1⟩ := (speaks_answerHeld k p body).comp (speaks_tell rs)
    exact ⟨_, h1 _⟩
  refine ⟨l, by rw [harb, hsaid], ?_, fun hroom => ?_⟩
  · rw [arbitrate_unsentReplies, said_answers hlaw halone hh hwaits hkind hport]
  · rw [arbitrate_unsentReports]
    exact said_raised (fun _ => answerHeld_unsentReports) hroom

theorem said_answers_none {c : RecordStore → RecordStore} (hlaw : s.link.lawful) (halone : s.link.alone)
    (hnone : ∀ x ∈ s.link.buffer, x.inProgress → ¬ (x.kind = k ∧ x.port = p.byte)) :
    (said (answerHeld k p body) rs c p b s).unsentReplies = s.unsentReplies := by
  obtain ⟨-, -, hbuffer, hreplies⟩ := told_lawful (p := p) (b := b) (rs := rs) hlaw halone c
  rw [said, answerHeld_none (hbuffer ▸ hnone), hreplies]

theorem Ending.unsentReports {reason : CloseReason} {ans : State → State} {c : RecordStore → RecordStore}
    (hend : Ending p reason s ans rs c b) (v : State) : (ans v).unsentReports = v.unsentReports := by
  cases hend with
  | record => exact answerHeld_unsentReports
  | nulling => exact answerHeld_unsentReports
  | bare => rfl
  | rest => rfl

/-! ### The pool behind a close (R143) -/

section Closing

variable {r r' : Record}

theorem closing_openRecords_same (hopen : s.openRecords p = [r]) (hstore : t.store = s.store.closing r r') :
    t.openRecords p = [] := by
  rw [State.openRecords, hstore]
  refine List.filterMap_eq_nil_iff.mpr fun slot hslot => ?_
  obtain ⟨old, hold, rfl⟩ := List.mem_map.mp hslot
  split
  next => rfl
  next hother =>
    cases old with
    | free => rfl
    | ready _ => rfl
    | opened x => exact if_neg fun hx => hother (congrArg RecordSlot.opened ((opened_port_iff hopen hold).mp hx))

theorem closing_openRecords_ne (hport : r.port = p) (hq : q ≠ p) (hstore : t.store = s.store.closing r r') :
    t.openRecords q = s.openRecords q := by
  rw [State.openRecords, hstore]
  refine (List.filterMap_map ..).trans (List.filterMap_congr fun slot _ => ?_)
  show RecordSlot.openFor q (if slot = .opened r then .ready r' else slot) = _
  split
  next heq =>
    rw [heq]
    exact (if_neg fun h => hq (h.symm.trans hport)).symm
  next => rfl

theorem closing_readyRecords (hopen : s.openRecords p = [r]) (hstore : t.store = s.store.closing r r') :
    r' ∈ t.readyRecords ∧ ∀ x ∈ s.readyRecords, x ∈ t.readyRecords := by
  have hslot : .opened r ∈ s.store.slots := by
    have hmem : r ∈ s.openRecords p := by rw [hopen]; exact List.mem_singleton_self r
    obtain ⟨slot, hslot, hfor⟩ := List.mem_filterMap.mp hmem
    cases slot with
    | free => cases hfor
    | ready _ => cases hfor
    | opened x =>
      by_cases hx : x.port = p
      · rw [RecordSlot.openFor, if_pos hx] at hfor
        cases hfor
        exact hslot
      · rw [RecordSlot.openFor, if_neg hx] at hfor
        cases hfor
  simp only [mem_readyRecords_iff, hstore]
  exact ⟨List.mem_map.mpr ⟨_, hslot, if_pos rfl⟩, fun x hx => List.mem_map.mpr ⟨_, hx, if_neg nofun⟩⟩

end Closing

theorem openRecords_hasRecord {r : Record} (hpool : PoolLaw s) (hopen : s.openRecords p = [r]) :
    (s.port p).ctl.mode.hasRecord = true := by
  by_contra hmode
  rw [hpool.openRecords_nil_of (Bool.not_eq_true _ ▸ hmode)] at hopen
  cases hopen

/-! ### The raw position at a promotion (R30, R56) -/

theorem settledAt_raw {now : Nat} (h : b.plan.pending = false ∨
    (b.plan.staged.travel.deglitch = b.plan.working.travel.deglitch ∧
      b.travel.quad = { one := b.travel.track1.level, two := b.travel.track2.level })) :
    (b.settledAt now).travel.raw = b.travel.raw := by
  obtain hpending | ⟨hlength, hquad⟩ := h
  · rw [settledAt_of_not_pending hpending]
  unfold PortBlocks.settledAt
  split
  next =>
    by_cases hmode : b.ctl.mode = .off
    · exact (promotedAt_off hmode).2.1
    · obtain ⟨htrack1, htrack2⟩ := promotedAt_tracks now b
      have hstill1 : (b.relengthed now).track1 = b.travel.track1 := if_pos hlength.symm
      have hstill2 : (b.relengthed now).track2 = b.travel.track2 := if_pos hlength.symm
      obtain ⟨-, hstill, -⟩ := promotedAt_decodes (now := now) hmode
      exact (hstill (by rw [htrack1, hstill1, hquad]) (by rw [htrack2, hstill2, hquad])).1
  next => rfl

/-! ### CLOSE_TUBE (R142 to R145) -/

/-- The record a close of ARMED or ACQUIRING leaves keeps what OPEN_TUBE gave it. -/
theorem closedBy_identity (b : PortBlocks) (reason : CloseReason) (r : Record) :
    (r.closedBy b reason).identity = r.identity := by
  rw [closedBy_eq]
  exact keeps_closedWith _ _ _ r

theorem addGap_gridOrigin (g : Gap) (r : Record) : (r.addGap g).gridOrigin = r.gridOrigin := by
  unfold Record.addGap; split <;> rfl

theorem addLandmark_gridOrigin (e : LandmarkEntry) (r : Record) : (r.addLandmark e).gridOrigin = r.gridOrigin := by
  unfold Record.addLandmark; split <;> rfl

theorem addLandmarks_gridOrigin (es : List LandmarkEntry) (r : Record) : (r.addLandmarks es).gridOrigin = r.gridOrigin := by
  unfold Record.addLandmarks
  induction es generalizing r with
  | nil => rfl
  | cons e rest ih => exact (ih _).trans (addLandmark_gridOrigin e r)

theorem judge_gridOrigin (cfg : DetectFields) (curve : List CurvePoint) (w : ClosedWindow) (r : Record) :
    (r.judge cfg curve w).gridOrigin = r.gridOrigin := by
  have marked : (if w.truncated then r.setWindowTruncated else r).gridOrigin = r.gridOrigin := by split <;> rfl
  have listed (i : Indication) (x : Record) : (x.addIndication i).gridOrigin = x.gridOrigin := by
    unfold Record.addIndication; split <;> rfl
  unfold Record.judge
  dsimp only
  split
  next => rfl
  next =>
    split
    next => exact marked
    next => exact (listed _ _).trans marked

theorem classifiedRecord_gridOrigin (w : Plan) (win : ClosedLandmark) (u : LandmarkUnit) (r : Record) :
    (classifiedRecord w win u r).gridOrigin = r.gridOrigin := by
  unfold classifiedRecord
  split
  next => exact addLandmark_gridOrigin _ r
  next => exact addLandmarks_gridOrigin _ r

/-- Steps 1 to 3 of a close leave the grid origin of the header. -/
theorem produced_gridOrigin (b : PortBlocks) (lost : Option Int) (r : Record) : (r.produced b lost).gridOrigin = r.gridOrigin := by
  have judged : (b.judgedAtClose r).gridOrigin = r.gridOrigin := by
    unfold PortBlocks.judgedAtClose
    split
    next => exact judge_gridOrigin _ _ _ r
    next => rfl
    next => rfl
  have landed (x : Record) : (b.classifiedAtClose x).gridOrigin = x.gridOrigin := by
    unfold PortBlocks.classifiedAtClose
    split
    next => exact classifiedRecord_gridOrigin _ _ _ x
    next => rfl
  have counted (x : Record) : (countedLost lost x).gridOrigin = x.gridOrigin := by cases lost <;> rfl
  have ran (run : Option MissedRun) (x : Record) : (b.atListing.runWritten run x).gridOrigin = x.gridOrigin := by
    cases run with
    | none => rfl
    | some m => exact addGap_gridOrigin _ x
  have streamed (x : Record) : (b.stream.gapWritten x).gridOrigin = x.gridOrigin := by
    unfold StreamUnit.gapWritten
    split
    next => exact addGap_gridOrigin _ x
    next => rfl
  unfold Record.produced
  rw [addLandmarks_gridOrigin, streamed, ran, counted, landed, judged]

theorem closedBy_gridOrigin (b : PortBlocks) (reason : CloseReason) (r : Record) :
    (r.closedBy b reason).gridOrigin = r.gridOrigin := by
  rw [closedBy_eq]
  exact produced_gridOrigin b b.waitingPoint r

/-- A record closed in ARMED ends where it began (R128). -/
theorem closedBy_armed (hmode : b.ctl.mode = .armed) (reason : CloseReason) (r : Record) :
    (r.closedBy b reason).finalPos = some r.p0 ∧ (r.closedBy b reason).finalCorrection = some 0 := by
  obtain ⟨-, -, -, -, -, hp0, -⟩ := identity_eq (keeps_produced b b.waitingPoint r)
  have armed : decide (b.ctl.mode = .armed) = true := decide_eq_true hmode
  rw [closedBy_eq]
  refine ⟨?_, ?_⟩
  · show some (if b.ctl.mode = .armed then (r.produced b b.waitingPoint).p0 else _) = _
    rw [if_pos hmode, hp0]
  · show some (if b.ctl.mode = .armed then 0 else _) = _
    rw [if_pos hmode]

/-- CLOSE_TUBE behind a scan in flight. -/
theorem closeRequest_holds (hmode : s.mode p = .armed ∨ s.mode p = .acquiring) (hclose : (s.port p).seq.closeHold = false)
    (hscan : (s.port p).seq.scan.isSome = true) (place : Nat) : closeRequest p place s =
      s.setPort p { s.port p with seq := { (s.port p).seq with closeHold := true } } := by
  have hrecord : (s.mode p).hasRecord = true := by obtain h | h := hmode <;> rw [h] <;> rfl
  rw [closeRequest, hrecord, hclose]
  exact if_pos hscan

/-- CLOSE_TUBE with no scan in flight. -/
theorem closeRequest_closes (hrecord : (s.port p).ctl.mode.hasRecord = true) (hclose : (s.port p).seq.closeHold = false)
    (hscan : (s.port p).seq.scan = none) (place : Nat) : closeRequest p place s = closeToIdle p .host .closeHost s := by
  rw [closeRequest, mode_eq, hrecord, hclose, hscan]
  rfl

/-- Settles O26, by whether a scan is in flight. -/
theorem closeTubeHoldsOrCloses : Obligations.CloseTubeHoldsOrCloses := by
  refine ⟨fun s p tag hlink ha hmode hclose hscan => ?_, fun s p tag r hlink hheld hpool hports ha hopen hclose hscan => ?_⟩
  · have hnext : exec (.closeTube tag p.byte) s = .next (arbitrate ((hold .closeTube tag p.byte s).setPort p
        { s.port p with seq := { (s.port p).seq with closeHold := true } })) :=
      (serveOnPort_taken ha).trans (congrArg (fun u => Host.Outcome.next (arbitrate u))
        (closeRequest_holds (s := hold .closeTube tag p.byte s) hmode hclose hscan (freePlace s.link.buffer)))
    have hlaw : (hold .closeTube tag p.byte s).link.lawful := hold_lawful (linkLaw_iff.mp hlink) (testRequest_room ha)
    have held := arbitrate_keeps (s := (hold .closeTube tag p.byte s).setPort p
      { s.port p with seq := { (s.port p).seq with closeHold := true } }) hlaw mem_hold_self (Eq.refl false)
    refine ⟨_, hnext, fun q hq => ?_, ?_, ?_, ?_, ?_, ?_, ?_, ⟨_, held, rfl, rfl, rfl, rfl⟩⟩
    · rw [arbitrate_sansRing, setPort_port_ne _ hq]
      rfl
    · rw [arbitrate_store]; rfl
    · rw [arbitrate_now]; rfl
    · rw [arbitrate_pending]; rfl
    · rw [arbitrate_sansRing, setPort_port_same]; rfl
    · rw [arbitrate_unsentReplies]; rfl
    · rw [arbitrate_unsentReports]; rfl
  · intro b r'
    have hrecord : (s.port p).ctl.mode.hasRecord = true := openRecords_hasRecord hpool hopen
    have hfirst := no_close_waits hheld hclose
    have tended : Tended s := ⟨linkLaw_iff.mp hlink, hheld.2, hpool, hports⟩
    have taken : Tended (hold .closeTube tag p.byte s) := hold_tended tended (testRequest_room ha) hfirst
    have hcloses : closeToIdle p .host .closeHost (hold .closeTube tag p.byte s) = said
        (answerHeld .closeTube p (.done (.closed r.number .host))) (closeReports p b r.number .host .closeHost)
        (RecordStore.closing r r') p ((b.closedToIdle .closeHost).settledAt s.now) (hold .closeTube tag p.byte s) :=
      closeToIdle_eq .host .closeHost (s := hold .closeTube tag p.byte s) hopen hrecord
    have hnext : exec (.closeTube tag p.byte) s = .next (arbitrate (said
        (answerHeld .closeTube p (.done (.closed r.number .host))) (closeReports p b r.number .host .closeHost)
        (RecordStore.closing r r') p ((b.closedToIdle .closeHost).settledAt s.now) (hold .closeTube tag p.byte s))) :=
      (serveOnPort_taken ha).trans (congrArg (fun u => Host.Outcome.next (arbitrate u))
        ((closeRequest_closes (s := hold .closeTube tag p.byte s) hrecord hclose hscan (freePlace s.link.buffer)).trans hcloses))
    obtain ⟨l, harb, hreplies, hraised⟩ := said_arbitrated (rs := closeReports p b r.number .host .closeHost)
      (c := RecordStore.closing r r') (b := (b.closedToIdle .closeHost).settledAt s.now)
      (body := .done (.closed r.number .host)) taken.link taken.alone (mem_hold_self (tag := tag)) (Eq.refl false) rfl rfl
    rw [harb] at hnext hreplies hraised
    obtain ⟨hnumber, hport, hrow, hcolumn, hsec, hp0, hgeneration⟩ := identity_eq (closedBy_identity b .host r)
    have hmine : r.port = p := openRecords_port (by rw [hopen]; exact List.mem_singleton_self r)
    obtain ⟨hready, hkept⟩ := closing_readyRecords (t := { onStore (RecordStore.closing r r')
      ((hold .closeTube tag p.byte s).setPort p ((b.closedToIdle .closeHost).settledAt s.now)) with link := l }) hopen rfl
    refine ⟨_, hnext, fun q hq => setPort_port_ne _ hq, rfl, rfl, ?_, fun hstill => ?_, rfl, closing_openRecords_same hopen rfl,
      fun q hq => closing_openRecords_ne hmine hq rfl, hready, hkept, hnumber, hport.trans hmine, hrow, hcolumn, hsec, hp0,
      hgeneration, closedBy_gridOrigin b .host r, rfl, fun hmode => closedBy_armed hmode .host r, ⟨_, hreplies⟩, hraised⟩
    · rw [promotedBlocks_eq]
      exact setPort_port_same _
    · have hblocks := congrArg (fun b => b.travel.raw) (setPort_port_same (s := hold .closeTube tag p.byte s) (p := p)
        ((b.closedToIdle .closeHost).settledAt s.now))
      exact hblocks.trans (settledAt_raw (b := b.closedToIdle .closeHost) hstill)

end Sys2Proof.Machine

/-! PROOFS. PORT_DISABLE and the coil fault: how what the port is doing ends, what is answered and what is left of the port
(R6, R7, R10, R89, R143, R144, R160). -/

namespace Sys2Proof.Machine

variable {p q : PortId} {s t u : State} {b e : PortBlocks} {h : HeldRequest} {k : RequestKind} {body : ReplyBody}
  {reason : CloseReason} {ans : State → State} {rs : List Report} {c : RecordStore → RecordStore}

/-! ### How the operation of a port ends (R6 and R10, steps 1 to 4) -/

/-- The record that closes is told; nothing else is. -/
theorem Ending.reports (hend : Ending p reason s ans rs c e) (hpool : PoolLaw s) :
    rs = (s.openRecords p).map fun r => .recordReady p r.number reason := by
  cases hend with
  | record hmode hnumber =>
    obtain ⟨r, hopen⟩ := hpool.exists_open hmode
    rw [openNumber_of_openRecords hopen] at hnumber
    cases hnumber
    rw [hopen]
    rfl
  | nulling hmode => rw [hpool.openRecords_nil_of (by rw [hmode]; rfl)]; rfl
  | bare hmode hnumber =>
    obtain ⟨r, hopen⟩ := hpool.exists_open hmode
    rw [openNumber_of_openRecords hopen] at hnumber
    cases hnumber
  | rest hmode =>
    rw [hpool.openRecords_nil_of (by revert hmode; cases (s.port p).ctl.mode <;> decide)]
    rfl

/-- The pool behind the end of an operation: its record closed, where there is one. -/
theorem Ending.closing (hend : Ending p reason s ans rs c e) (hpool : PoolLaw s) (hstore : u.store = s.store) :
    (∀ r, s.openRecords p = [r] → c u.store = s.store.closing r (r.closedBy (s.port p) reason)) ∧
    (s.openRecords p = [] → c u.store = s.store) := by
  rw [hstore]
  cases hend with
  | record hmode hnumber =>
    obtain ⟨x, hx⟩ := hpool.exists_open hmode
    rw [openNumber_of_openRecords hx] at hnumber
    cases hnumber
    refine ⟨fun r hopen => ?_, fun hnone => by rw [hnone] at hx; cases hx⟩
    rw [hopen] at hx
    cases hx
    rw [closedBy_eq]
    exact congrArg State.store (readied_eq_closing hopen (keeps_closedWith (s.port p) (s.port p).waitingPoint reason)
      (u := s) rfl)
  | nulling hmode =>
    have hnone := hpool.openRecords_nil_of (p := p) (by rw [hmode]; rfl)
    exact ⟨fun r hopen => absurd (hnone.symm.trans hopen) (List.cons_ne_nil _ _).symm, fun _ => rfl⟩
  | bare hmode hnumber =>
    obtain ⟨x, hx⟩ := hpool.exists_open hmode
    rw [openNumber_of_openRecords hx] at hnumber
    cases hnumber
  | rest hmode =>
    have hnone := hpool.openRecords_nil_of (p := p) (by revert hmode; cases (s.port p).ctl.mode <;> decide)
    exact ⟨fun r hopen => absurd (hnone.symm.trans hopen) (List.cons_ne_nil _ _).symm, fun _ => rfl⟩

/-- One answer to a held request, by whether it waits. -/
theorem answerHeld_replies (hlaw : u.link.lawful) (halone : u.link.alone) : ∃ before,
    (answerHeld k p body u).unsentReplies = u.unsentReplies ++ before ∧
    (∀ h ∈ u.link.buffer, h.inProgress → h.kind = k → h.port = p.byte → before = [h.answer body]) ∧
    ((∀ h ∈ u.link.buffer, h.inProgress → ¬ (h.kind = k ∧ h.port = p.byte)) → before = []) := by
  by_cases hwaits : ∃ h ∈ u.link.buffer, h.inProgress ∧ h.kind = k ∧ h.port = p.byte
  · obtain ⟨h, hh, hprogress, hkind, hport⟩ := hwaits
    refine ⟨[h.answer body], ?_, fun x hx hxp hxk hxport => ?_, fun hnone => absurd ⟨hkind, hport⟩ (hnone h hh hprogress)⟩
    · rw [answerHeld_held halone hh hprogress hkind hport, reply_unsentReplies hlaw hh hprogress]
    · rw [halone x hx h hh hxp hprogress (hxk.trans hkind.symm) (hxport.trans hport.symm)]
  · have hnone : ∀ h ∈ u.link.buffer, h.inProgress → ¬ (h.kind = k ∧ h.port = p.byte) :=
      fun h hh hprogress ⟨hkind, hport⟩ => hwaits ⟨h, hh, hprogress, hkind, hport⟩
    refine ⟨[], ?_, fun x hx hxp hxk hxport => absurd ⟨hxk, hxport⟩ (hnone x hx hxp), fun _ => rfl⟩
    rw [answerHeld_none hnone, List.append_nil]

/-- What the end of an operation answers: a held NULL_CHANNELS ABORTED, a held CLOSE_TUBE with its record. -/
theorem Ending.replies (hend : Ending p reason s ans rs c e) (hpool : PoolLaw s) (hlaw : u.link.lawful)
    (halone : u.link.alone)
    (hheld : ∀ h ∈ u.link.buffer, h.inProgress → h.port = p.byte → (h.kind = .nullChannels → s.mode p = .nulling) ∧
      (h.kind = .closeTube → (s.port p).ctl.mode.hasRecord = true)) : ∃ before,
    (ans u).unsentReplies = u.unsentReplies ++ before ∧
    (∀ h ∈ u.link.buffer, h.inProgress → h.port = p.byte → h.kind = .nullChannels →
      before = [h.answer (.refused .aborted none)]) ∧
    (∀ h ∈ u.link.buffer, h.inProgress → h.port = p.byte → h.kind = .closeTube → ∀ r, s.openRecords p = [r] →
      before = [h.answer (.done (.closed r.number reason))]) ∧
    ((∀ h ∈ u.link.buffer, h.inProgress → h.port = p.byte → h.kind ≠ .nullChannels ∧ h.kind ≠ .closeTube) →
      before = []) := by
  have silent (hnull : (s.port p).ctl.mode ≠ .nulling) (hrecord : (s.port p).ctl.mode.hasRecord = false) : ∀ h ∈ u.link.buffer,
      h.inProgress → h.port = p.byte → h.kind ≠ .nullChannels ∧ h.kind ≠ .closeTube := fun h hh hprogress hport => by
    obtain ⟨hnulls, hcloses⟩ := hheld h hh hprogress hport
    exact ⟨fun hkind => hnull (hnulls hkind), fun hkind => Bool.false_ne_true (hrecord.symm.trans (hcloses hkind))⟩
  cases hend with
  | record hmode hnumber =>
    obtain ⟨x, hx⟩ := hpool.exists_open hmode
    rw [openNumber_of_openRecords hx] at hnumber
    cases hnumber
    obtain ⟨before, hreplies, hwaits, hnone⟩ := answerHeld_replies (k := .closeTube) (p := p)
      (body := .done (.closed x.number reason)) hlaw halone
    refine ⟨before, hreplies, fun h hh hprogress hport hkind => ?_, fun h hh hprogress hport hkind r hopen => ?_, fun hquiet => ?_⟩
    · have hnulling : (s.port p).ctl.mode = .nulling := (hheld h hh hprogress hport).1 hkind
      exact absurd hnulling (hasRecord_not_nulling hmode)
    · rw [hopen] at hx
      cases hx
      exact hwaits h hh hprogress hkind hport
    · exact hnone fun h hh hprogress ⟨hkind, hport⟩ => (hquiet h hh hprogress hport).2 hkind
  | nulling hmode =>
    obtain ⟨before, hreplies, hwaits, hnone⟩ := answerHeld_replies (k := .nullChannels) (p := p)
      (body := .refused .aborted none) hlaw halone
    refine ⟨before, hreplies, fun h hh hprogress hport hkind => hwaits h hh hprogress hkind hport,
      fun h hh hprogress hport hkind r hopen => ?_,
      fun hquiet => hnone fun h hh hprogress ⟨hkind, hport⟩ => (hquiet h hh hprogress hport).1 hkind⟩
    rw [hpool.openRecords_nil_of (by rw [hmode]; rfl)] at hopen
    cases hopen
  | bare hmode hnumber =>
    obtain ⟨x, hx⟩ := hpool.exists_open hmode
    rw [openNumber_of_openRecords hx] at hnumber
    cases hnumber
  | rest hmode =>
    have quiet := silent (by rintro heq; rw [heq] at hmode; cases hmode)
      (by revert hmode; cases (s.port p).ctl.mode <;> decide)
    exact ⟨[], (List.append_nil _).symm, fun h hh hprogress hport hkind => absurd hkind (quiet h hh hprogress hport).1,
      fun h hh hprogress hport hkind => absurd hkind (quiet h hh hprogress hport).2, fun _ => rfl⟩

/-- What the law of held requests says of one port. -/
theorem held_on_port (hheld : HeldLaw s) (hports : PortLaw s) : ∀ h ∈ s.link.buffer, h.inProgress → h.port = p.byte →
    (h.kind = .nullChannels → s.mode p = .nulling) ∧ (h.kind = .closeTube → (s.port p).ctl.mode.hasRecord = true) := by
  intro h hh hprogress hport
  obtain ⟨q, hq, hwaits⟩ := hheld.1 h hh hprogress
  obtain rfl := PortId.byte_inj (hport.symm.trans hq)
  obtain ⟨hnull, hmode⟩ | ⟨hclose, hhold⟩ := hwaits
  · exact ⟨fun _ => hmode, fun hkind => absurd (hnull.symm.trans hkind) (by decide)⟩
  · refine ⟨fun hkind => absurd (hclose.symm.trans hkind) (by decide), fun _ => ?_⟩
    obtain ⟨-, -, -, hrecord, -⟩ := hports p
    exact hrecord hhold

/-! ### What is left of a port in OFF (R7) -/

theorem settledAt_of_pending {now : Nat} (h : b.plan.pending = true) : b.settledAt now = b.promotedAt now := if_pos h

/-- A filter that does not run has nothing to pass. -/
theorem relengthed_atInput (input : Bool) (outgoing incoming now : Nat) :
    (TrackFilter.atInput input).relengthed outgoing incoming now = .atInput input := by
  unfold TrackFilter.relengthed
  split <;> rfl

/-- The cleared blocks of a port in OFF, with its pending plan promoted. -/
theorem clearedFrom_settledAt (now : Nat) {x : PortController} (hoff : x.mode = .off) (d : DriveChannel) :
    ClearedFrom b (PortBlocks.settledAt now { b.cleared with ctl := x, drive := d }) := by
  cases hpending : b.plan.pending with
  | false =>
    rw [settledAt_of_not_pending (b := { b.cleared with ctl := x, drive := d }) hpending]
    simp only [ClearedFrom, hpending, Bool.false_eq_true, if_false]
    exact ⟨rfl, rfl, rfl, rfl, rfl, rfl, rfl⟩
  | true =>
    have hpromoted : PortBlocks.promotedAt now { b.cleared with ctl := x, drive := d } =
        PortBlocks.promoted now { b.cleared with ctl := x, drive := d } := if_pos hoff
    rw [settledAt_of_pending (b := { b.cleared with ctl := x, drive := d }) hpending, hpromoted]
    simp only [ClearedFrom, hpending, if_true]
    refine ⟨rfl, rfl, ?_, rfl, rfl, rfl, rfl⟩
    rw [promoted_travel, PortBlocks.relengthed,
      show PortBlocks.travel { b.cleared with ctl := x, drive := d } = b.travel.cleared from rfl]
    simp only [TravelUnit.cleared, relengthed_atInput]
    rfl

/-- However the operation of a port ends, its blocks in OFF are the cleared ones. -/
theorem Ending.disabled (hend : Ending p reason s ans rs c e) : e.disabled = { (s.port p).cleared with
    drive := (s.port p).drive.halt
    ctl := { mode := .off, previous := (s.port p).ctl.mode, lastCause := .disable, runs := zeroRuns, fault := none } } := by
  cases hend <;> rfl

theorem answerHeld_keeps (hlaw : u.link.lawful) (hh : h ∈ u.link.buffer) (hne : h.kind ≠ k) :
    h ∈ (answerHeld k p body u).link.buffer := by
  unfold answerHeld
  cases hfind : heldOn u k p with
  | none => exact hh
  | some x =>
    obtain ⟨hxkind, -, hxwaits⟩ : x.kind = k ∧ x.port = p.byte ∧ x.answered = false := by simpa using List.find?_some hfind
    have hx := List.mem_of_find?_eq_some hfind
    show h ∈ (reply x.place body u).link.buffer
    rw [reply_held hlaw hx hxwaits]
    refine List.mem_map.mpr ⟨h, hh, if_neg fun hplace => ?_⟩
    rw [hlaw.place_inj hh hx hplace] at hne
    exact hne hxkind

theorem Ending.keeps_waiting (hend : Ending p reason s ans rs c e) (hlaw : u.link.lawful) (hh : h ∈ u.link.buffer)
    (hnull : h.kind ≠ .nullChannels) (hclose : h.kind ≠ .closeTube) : h ∈ (ans u).link.buffer := by
  cases hend with
  | record => exact answerHeld_keeps hlaw hh hclose
  | nulling => exact answerHeld_keeps hlaw hh hnull
  | bare => exact hh
  | rest => exact hh

/-- A request answered behind other work of its port, and the transmitter's choice behind it. -/
theorem reply_arbitrated (hlaw : u.link.lawful) (hh : h ∈ u.link.buffer) (hwaits : h.inProgress) (body : ReplyBody) :
    ∃ l, arbitrate (reply h.place body u) = { u with link := l } ∧
      { u with link := l }.unsentReplies = u.unsentReplies ++ [h.answer body] ∧
      { u with link := l }.unsentReports = u.unsentReports := by
  have waiting : (reply h.place body u).link.replies ≠ [] := by
    rw [reply_held hlaw hh hwaits]
    exact List.append_ne_nil_of_right_ne_nil _ (List.cons_ne_nil _ _)
  obtain ⟨l, harb, -, -⟩ := arbitrate_link_only (.inr (.inl waiting))
  have hnext : arbitrate (reply h.place body u) = { u with link := l } := by
    rw [harb, reply_held hlaw hh hwaits]
    rfl
  refine ⟨l, hnext, ?_, ?_⟩
  · rw [← hnext, arbitrate_unsentReplies, reply_unsentReplies hlaw hh hwaits]
  · rw [← hnext, arbitrate_unsentReports, reply_unsentReports]

/-- A request that takes no time waits for no port. -/
theorem none_waits (hheld : HeldLaw s) (hnull : k ≠ .nullChannels) (hclose : k ≠ .closeTube) (port : Byte) :
    ∀ x ∈ s.link.buffer, x.inProgress → ¬ (x.kind = k ∧ x.port = port) := by
  rintro x hx hprogress ⟨hkind, -⟩
  obtain ⟨q, -, ⟨hxnull, -⟩ | ⟨hxclose, -⟩⟩ := hheld.1 x hx hprogress
  · exact hnull (hkind.symm.trans hxnull)
  · exact hclose (hkind.symm.trans hxclose)

/-- Settles O13: the operation ends, the port is cleared, and the request is answered behind what the port held. -/
theorem portDisableClears : Obligations.PortDisableClears := by
  intro s p tag hlink hheld hpool hports ha hon b number
  have tended : Tended s := ⟨linkLaw_iff.mp hlink, hheld.2, hpool, hports⟩
  have taken : Tended (hold .portDisable tag p.byte s) :=
    hold_tended tended (testRequest_room ha) (none_waits hheld (by decide) (by decide) p.byte)
  obtain ⟨ans, rs, c, e, hend⟩ := exists_ending p .disabled (hold .portDisable tag p.byte s)
  have hans := hend.answers
  have hmode : e.ctl.mode = b.ctl.mode := by cases hend <;> rfl
  have hplan : e.plan = b.plan := by cases hend <;> rfl
  have hreports : rs ++ [abortReport p .portOff, stateReport p .off e.ctl.mode .disable number] ++ pendingReport p e.disabled =
      (s.openRecords p).map (fun r => .recordReady p r.number .disabled) ++
        [.driveEvent p { kind := .aborted .portOff none, state := .awaitHalt, queueLength := 0 },
         stateReport p .off (s.mode p) .disable number] ++
        if b.plan.pending then [promotedReport p .off (s.mode p) .stateEntry (b.plan.generation + 1)] else [] := by
    rw [hend.reports taken.pool, hend.disabled, hmode]
    rfl
  generalize htold : (rs ++ [abortReport p .portOff, stateReport p .off e.ctl.mode .disable number] ++
    pendingReport p e.disabled) = told at hreports
  have hserve : disableRequest p (freePlace s.link.buffer) (hold .portDisable tag p.byte s) =
      reply (freePlace s.link.buffer) (.done (.left (s.mode p)))
        (said ans told c p (e.disabled.settledAt s.now) (hold .portDisable tag p.byte s)) := by
    rw [← htold]
    exact (if_neg hon).trans (congrArg (reply _ _) ((disablePort_eq hend).trans (by rw [openNumber_eq]; rfl)))
  have hlawful : (said ans told c p (e.disabled.settledAt s.now) (hold .portDisable tag p.byte s)).link.lawful :=
    (moves_said hend.moves).lawful taken.link
  obtain ⟨hlaw, halone, hbuffer, hsaid⟩ := told_lawful (p := p) (b := e.disabled.settledAt s.now) (rs := told)
    taken.link taken.alone c
  have hx : HeldRequest.mk (freePlace s.link.buffer) .portDisable tag p.byte false ∈
      (said ans told c p (e.disabled.settledAt s.now) (hold .portDisable tag p.byte s)).link.buffer :=
    hend.keeps_waiting hlaw (hbuffer ▸ mem_hold_self) nofun nofun
  obtain ⟨l, harb, hreplies, hquiet⟩ := reply_arbitrated hlawful hx (Eq.refl false) (.done (.left (s.mode p)))
  have hnext : exec (.portDisable tag p.byte) s = .next { said ans told c p (e.disabled.settledAt s.now)
      (hold .portDisable tag p.byte s) with link := l } := by
    rw [← harb]
    exact (serveOnPort_taken ha).trans (congrArg (fun u => Host.Outcome.next (arbitrate u)) hserve)
  obtain ⟨before, hbefore, hnulls, hcloses, hnone⟩ := hend.replies taken.pool hlaw halone (by
    rw [hbuffer]
    intro x hx hprogress hport
    obtain hx | rfl := mem_hold hx
    · exact held_on_port hheld hports x hx hprogress hport
    · exact ⟨nofun, nofun⟩)
  rw [hbuffer] at hnulls hcloses hnone
  have hport : (said ans told c p (e.disabled.settledAt s.now) (hold .portDisable tag p.byte s)).port p =
      e.disabled.settledAt s.now := said_port hans
  have hstore : (said ans told c p (e.disabled.settledAt s.now) (hold .portDisable tag p.byte s)).store = c s.store :=
    said_store hans
  obtain ⟨hclosed, hstands⟩ := hend.closing (u := s) taken.pool rfl
  refine ⟨_, before, freePlace s.link.buffer, hnext, fun q hq => said_port_ne hans hq, said_now hans, said_pending hans, ?_,
    ?_, ?_, fun r hopen => hstore.trans (hclosed r hopen), fun hopen => hstore.trans (hstands hopen), ?_,
    fun h hh hprogress hport hkind => ?_, fun h hh hprogress hport hkind r hopen => ?_, fun hnobody => ?_, fun hroom => ?_⟩
  · refine (congrArg PortBlocks.ctl hport).trans ?_
    rw [settledAt_ctl, hend.disabled]
    rfl
  · refine (congrArg (ClearedFrom b) hport).mpr ?_
    rw [hend.disabled]
    exact clearedFrom_settledAt (x := {
      mode := .off, previous := b.ctl.mode, lastCause := .disable, runs := zeroRuns, fault := none }) s.now rfl _
  · refine (congrArg PortBlocks.drive hport).trans ?_
    rw [settledAt_drive, hend.disabled]
    rfl
  · rw [hreplies, said, hbefore, hsaid]
    rfl
  · rw [hnulls h (List.mem_append_left _ hh) hprogress hport hkind, HeldRequest.answer, hkind, hport]
  · rw [hcloses h (List.mem_append_left _ hh) hprogress hport hkind r hopen, HeldRequest.answer, hkind, hport]
  · refine hnone fun h hh hprogress hport => ?_
    obtain hh | rfl := mem_hold hh
    · exact absurd hport (hnobody h hh hprogress)
    · exact ⟨nofun, nofun⟩
  · rw [hquiet, ← hreports]
    rw [← hreports] at hroom
    exact said_raised hend.unsentReports hroom

end Sys2Proof.Machine

/-! PROOFS. The coil fault (R10, R89, R143, R144, R160) and RESET (R19, R149, R186). -/

namespace Sys2Proof.Machine

variable {p q : PortId} {s t u : State} {b e : PortBlocks} {h : HeldRequest} {k : RequestKind} {body : ReplyBody}
  {reason : CloseReason} {ans : State → State} {rs : List Report} {c : RecordStore → RecordStore}

/-! ### The blocks of a port in FAULT (R3, R10) -/

/-- What a pending promotion leaves of a port, block by block. -/
theorem settledAt_blocks (now : Nat) (b : PortBlocks) : ∃ periods slots duration nulls, b.settledAt now = { b with
    plan := if b.plan.pending then
      { working := b.plan.staged, staged := b.plan.staged, pending := false, generation := b.plan.generation + 1 } else b.plan
    seq := { b.seq with periods := periods, slots := slots, duration := duration }
    chan := { b.chan with nulls := nulls }
    travel := (b.settledAt now).travel } := by
  cases hpending : b.plan.pending with
  | false =>
    rw [settledAt_of_not_pending hpending]
    exact ⟨b.seq.periods, b.seq.slots, b.seq.duration, b.chan.nulls, rfl⟩
  | true =>
    rw [settledAt_of_pending hpending]
    obtain ⟨track1, track2, quad, raw, illegal, heq⟩ := promotedAt_frame now b
    rw [heq]
    exact ⟨_, _, _, _, rfl⟩

/-- However the operation of a port ends, its blocks in FAULT before a promotion. -/
theorem Ending.faulted (hend : Ending p reason s ans rs c e) : e.faulted.ctl = { (s.port p).ctl with
      mode := .fault, previous := (s.port p).ctl.mode, lastCause := .coilFault, runs := zeroRuns } ∧
    e.faulted.seq = (s.port p).seq.stop ∧ e.faulted.chan.held = [] ∧ e.faulted.drive = (s.port p).drive.halt ∧
    e.faulted.plan = (s.port p).plan ∧ e.faulted.travel.raw = (s.port p).travel.raw ∧
    e.faulted.travel.quad = (s.port p).travel.quad ∧ e.faulted.travel.track1 = (s.port p).travel.track1 ∧
    e.faulted.travel.track2 = (s.port p).travel.track2 := by
  have travels (x : PortBlocks) : (x.faulted.travel.raw = x.travel.raw ∧ x.faulted.travel.quad = x.travel.quad) ∧
      x.faulted.travel.track1 = x.travel.track1 ∧ x.faulted.travel.track2 = x.travel.track2 := by
    unfold PortBlocks.faulted PortBlocks.rested
    dsimp only
    split <;> exact ⟨⟨rfl, rfl⟩, rfl, rfl⟩
  obtain ⟨⟨hraw, hquad⟩, htrack1, htrack2⟩ := travels e
  rw [hraw, hquad, htrack1, htrack2]
  cases hend <;> exact ⟨rfl, rfl, rfl, rfl, rfl, rfl, rfl, rfl, rfl⟩

theorem scanning_of_hasRecord {m : PortMode} (h : m.hasRecord = true) : m.scanning = true := by
  revert h; cases m <;> decide

theorem Ending.faulted_nulling (hend : Ending p reason s ans rs c e) (hmode : (s.port p).ctl.mode = .nulling) :
    e.faulted.chan.accum = none ∧ c = id := by
  cases hend with
  | record hrecord => rw [hmode] at hrecord; cases hrecord
  | nulling => exact ⟨rfl, rfl⟩
  | bare hrecord => rw [hmode] at hrecord; cases hrecord
  | rest hrest => rw [hmode] at hrest; cases hrest

/-- A port that goes to FAULT with its record leaves no grid, no window and no correction. -/
theorem Ending.faulted_record (hend : Ending p reason s ans rs c e) (hpool : PoolLaw s)
    (hmode : (s.port p).ctl.mode.hasRecord = true) : e.faulted.travel.grid = none ∧ e.faulted.det = .clear ∧
      e.faulted.land.window = .idle ∧ e.faulted.land.correction = 0 ∧ e.faulted.land.pointer = none ∧
      e.faulted.stream.gap = none := by
  cases hend with
  | record _ hnumber =>
    have hgrid : ((s.port p).scanEnded.afterClose.faulted).travel = (s.port p).scanEnded.afterClose.travel.noGrid := if_pos hmode
    have hland : ((s.port p).scanEnded.afterClose.faulted).land = (s.port p).scanEnded.afterClose.land := rfl
    have hscanning := scanning_of_hasRecord hmode
    have hstream : ((s.port p).scanEnded.afterClose.faulted).stream =
        { (s.port p).scanEnded.afterClose.stream with group := none, miss := false } := if_pos hscanning
    rw [hgrid, hland, hstream, afterClose_land]
    cases hwindow : (s.port p).scanEnded.land.window with
    | opened => exact ⟨rfl, rfl, rfl, rfl, rfl, rfl⟩
    | idle => exact ⟨rfl, rfl, hwindow, rfl, rfl, rfl⟩
  | nulling hnulling => rw [hnulling] at hmode; cases hmode
  | bare _ hnumber =>
    obtain ⟨r, hopen⟩ := hpool.exists_open hmode
    rw [openNumber_of_openRecords hopen] at hnumber
    cases hnumber
  | rest hrest => rw [scanning_of_hasRecord hmode] at hrest; cases hrest

/-! ### The third bad sample (R10) -/

theorem statusOf_cons (f : DriveFault) (found : List DriveFault) : statusOf (f :: found) = match f with
    | .openLead => .openLead
    | .short => .short := by
  cases f <;> rfl

/-- The end of an integrate that declares a fault. -/
theorem endIntegrate_faults {sc : Scan} {x y : Int} {clipped : Bool} {f : DriveFault} {found : List DriveFault}
    (hscan : (s.port p).seq.scan = some sc) (hphase : sc.phase = .integrate) (hrun : (s.port p).ctl.runs[sc.slot]? = some 2) :
    endIntegrate p x y clipped (f :: found) s = coilFault p sc.slot (statusOf (f :: found))
      ((advance sc.phaseEnd s).setPort p { s.port p with
        ctl := { (s.port p).ctl with runs := (s.port p).ctl.runs.set sc.slot 3 } }) := by
  have hruns : runsAfter (sampleOf sc.slot x y clipped (f :: found)) (s.port p).ctl.runs = (s.port p).ctl.runs.set sc.slot 3 := by
    rw [runsAfter_sampleOf, if_neg (List.cons_ne_nil _ _), List.getD_eq_getElem?_getD, hrun]
    rfl
  have hthird : ((s.port p).ctl.runs.set sc.slot 3).getD sc.slot 0 = 3 := by
    rw [List.getD_eq_getElem?_getD, List.getElem?_set_self (List.getElem?_eq_some_iff.mp hrun).1]
    rfl
  rw [endIntegrate, inPhase_eq hscan hphase]
  dsimp only
  unfold deliver
  dsimp only
  rw [onCtl_port_same, advance_port]
  dsimp only
  rw [hruns]
  refine (if_pos ?_).trans ?_
  · exact le_of_eq hthird.symm
  · rw [← hruns]
    rfl

/-- Settles O34: the operation ends, the port is brought to FAULT, and what is told and answered stands in that order. -/
theorem coilFaultDeclared : Obligations.CoilFaultDeclared := by
  intro s p sc x y clipped f found hlink hheld hpool hports hscan hphase hrun b status number
  have hscanning : b.ctl.mode.scanning = true := (hports p).1 (by rw [hscan]; rfl)
  let detail : FaultDetail := { slot := sc.slot, status := status, declaredIn := s.mode p, record := number }
  let u := (advance sc.phaseEnd s).setPort p { b with ctl := { b.ctl with runs := b.ctl.runs.set sc.slot 3 } }
  have hport : u.port p = { b with ctl := { b.ctl with runs := b.ctl.runs.set sc.slot 3 } } := setPort_port_same _
  let v := u.setPort p { u.port p with ctl := { (u.port p).ctl with fault := some (u.faultDetail p sc.slot status) } }
  have hdetail : u.faultDetail p sc.slot status = detail := by
    rw [State.faultDetail, openNumber_eq, mode_eq, hport]
    rfl
  have hvport : v.port p = { b with ctl := { b.ctl with runs := b.ctl.runs.set sc.slot 3, fault := some detail } } := by
    rw [setPort_port_same, hport, hdetail]
  have hvmode : (v.port p).ctl.mode = b.ctl.mode := by rw [hvport]
  have hvpool : PoolLaw v := hpool.congr rfl fun q => by
    by_cases hq : q = p
    · subst hq
      rw [hvmode]
    · rw [setPort_port_ne _ hq, setPort_port_ne _ hq, advance_port]
  obtain ⟨ans, rs, c, e, hend⟩ := exists_ending p .fault v
  have hans := hend.answers
  have hmode : e.ctl.mode = b.ctl.mode := by rw [← hvmode]; cases hend <;> rfl
  obtain ⟨hctl, hseq, hchan, hdrive, hplan, hraw, hquad, htrack1, htrack2⟩ := hend.faulted
  rw [hvport] at hctl hseq hdrive hplan hraw hquad htrack1 htrack2
  have hreports : rs ++ [abortReport p .portFault, coilFaultReport p e.ctl.mode (u.faultDetail p sc.slot status)] ++
      pendingReport p e.faulted = (s.openRecords p).map (fun r => .recordReady p r.number .fault) ++
        [.driveEvent p { kind := .aborted .portFault none, state := .awaitHalt, queueLength := 0 },
         .portEvent {
          port := p, kind := .coilFault, state := .fault, previous := s.mode p, cause := .coilFault, record := number,
          generation := none, slot := some sc.slot, status := some status, declaredIn := some (s.mode p) }] ++
        if b.plan.pending then [promotedReport p .fault (s.mode p) .stateEntry (b.plan.generation + 1)] else [] := by
    rw [hend.reports hvpool, hdetail, hmode, pendingReport, hplan, hctl]
    rfl
  generalize htold : rs ++ [abortReport p .portFault, coilFaultReport p e.ctl.mode (u.faultDetail p sc.slot status)] ++
      pendingReport p e.faulted = told at hreports
  have hfault : endIntegrate p x y clipped (f :: found) s = said ans told c p (e.faulted.settledAt u.now) u := by
    rw [endIntegrate_faults hscan hphase hrun, ← htold]
    exact (congrArg (fun status => coilFault p sc.slot status u) (statusOf_cons f found)).trans (coilFault_eq hend)
  obtain ⟨hlaw, halone, hbuffer, hsaid⟩ := told_lawful (s := u) (p := p) (b := e.faulted.settledAt u.now) (rs := told)
    (linkLaw_iff.mp hlink) hheld.2 c
  obtain ⟨before, hbefore, hnulls, hcloses, hnone⟩ := hend.replies hvpool hlaw halone (by
    rw [hbuffer]
    intro x hx hprogress hport
    have hon := held_on_port hheld hports x hx hprogress hport
    rw [mode_eq, hvport]
    exact hon)
  rw [hbuffer] at hnulls hcloses hnone
  have hreplies : (arbitrate (said ans told c p (e.faulted.settledAt u.now) u)).unsentReplies = s.unsentReplies ++ before := by
    rw [arbitrate_unsentReplies, said, hbefore, hsaid]
    rfl
  have hblocks : ((arbitrate (said ans told c p (e.faulted.settledAt u.now) u)).port p).sansRing =
      (e.faulted.settledAt u.now).sansRing := by rw [arbitrate_sansRing, said_port hans]
  have hstore : (arbitrate (said ans told c p (e.faulted.settledAt u.now) u)).store = c s.store := by
    rw [arbitrate_store, said_store hans]
    rfl
  obtain ⟨hclosed, -⟩ := hend.closing (u := s) hvpool rfl
  obtain ⟨periods, slots, duration, nulls, hset⟩ := settledAt_blocks u.now e.faulted
  have hfinal := hblocks.trans (congrArg PortBlocks.sansRing hset)
  have hfinalSeq : ((arbitrate (said ans told c p (e.faulted.settledAt u.now) u)).port p).seq =
      { b.seq.stop with periods := periods, slots := slots, duration := duration } := (congrArg PortBlocks.seq hfinal).trans
    (congrArg (fun q : Sequencer => { q with periods := periods, slots := slots, duration := duration }) hseq)
  refine ⟨_, congrArg (fun u => Host.Outcome.next (arbitrate u)) hfault, fun q hq => ?_, ?_, ?_,
    (congrArg PortBlocks.ctl hfinal).trans hctl, congrArg Sequencer.scan hfinalSeq, congrArg Sequencer.timer hfinalSeq,
    congrArg Sequencer.owed hfinalSeq, congrArg Sequencer.held hfinalSeq, congrArg Sequencer.closeHold hfinalSeq,
    (congrArg Sequencer.seqNo hfinalSeq).trans rfl, (congrArg (fun b => b.chan.held) hfinal).trans hchan, fun hstill => ?_,
    (congrArg PortBlocks.drive hfinal).trans hdrive, (congrArg PortBlocks.plan hfinal).trans ?_, fun hnulling => ?_,
    fun r hopen => ?_, fun hroom => ?_⟩
  · rw [arbitrate_sansRing, said_port_ne hans hq, setPort_port_ne _ hq, advance_port]
  · rw [arbitrate_pending, said_pending hans]
    rfl
  · rw [arbitrate_now, said_now hans]
    rfl
  · refine (congrArg (fun b => b.travel.raw) hblocks).trans ((settledAt_raw ?_).trans hraw)
    rw [hplan, hquad, htrack1, htrack2]
    exact hstill
  · dsimp only
    rw [hplan]
    rfl
  · obtain ⟨haccum, hid⟩ := hend.faulted_nulling (hvmode.trans hnulling)
    refine ⟨hstore.trans (congrArg (fun c => c s.store) hid), (congrArg (fun b => b.chan.accum) hfinal).trans haccum,
      fun h hh hprogress hkind hport => ?_⟩
    rw [hreplies, hnulls h hh hprogress hport hkind, HeldRequest.answer, hkind, hport]
  · have hrecord := openRecords_hasRecord hpool hopen
    obtain ⟨hgrid, hdet, hwindow, hcorrection, hpointer, hgap⟩ := hend.faulted_record hvpool (hvmode.symm ▸ hrecord)
    refine ⟨hstore.trans ((hclosed r hopen).trans (by rw [hvport]; rfl)), ?_, (congrArg PortBlocks.det hfinal).trans hdet,
      (congrArg (fun b => b.land.window) hfinal).trans hwindow, (congrArg (fun b => b.land.correction) hfinal).trans hcorrection,
      (congrArg (fun b => b.land.pointer) hfinal).trans hpointer, (congrArg (fun b => b.stream.gap) hfinal).trans hgap,
      fun h hh hprogress hkind hport => ?_, fun hnobody => ?_⟩
    · obtain ⟨-, -, -, -, -, -, -, hsettled⟩ := settledAt_frame u.now e.faulted
      exact (congrArg (fun b => b.travel.grid) hblocks).trans (hsettled.trans hgrid)
    · rw [hreplies, hcloses h hh hprogress hport hkind r hopen, HeldRequest.answer, hkind, hport]
    · rw [hreplies, hnone fun h hh hprogress hport => ?_, List.append_nil]
      refine ⟨fun hkind => ?_, fun hkind => hnobody h hh hprogress hkind hport⟩
      exact hasRecord_not_nulling hrecord ((held_on_port hheld hports h hh hprogress hport).1 hkind)
  · rw [arbitrate_unsentReports]
    rw [← hreports] at hroom ⊢
    exact (said_raised (s := u) hend.unsentReports) hroom

end Sys2Proof.Machine

/-! PROOFS. RESET (R19, R149, R186). -/

namespace Sys2Proof.Machine

variable {p q : PortId} {s t u : State} {h : HeldRequest} {rs : List Report}

/-! ### The replies of a RESET (R186) -/

/-- A request already answered is not answered again. -/
theorem reply_answered {body : ReplyBody} (hlaw : u.link.lawful) (hh : h ∈ u.link.buffer) (hdone : h.answered = true) :
    reply h.place body u = u := by
  have hnone : LinkController.replied h.place body u.link = u.link := by
    rw [LinkController.replied, hlaw.find_place hh]
    exact if_pos hdone
  rw [reply_onLink, onLink, hnone]

/-- Answers to held requests one after the other, each where it waits. -/
theorem replies_all (body : ReplyBody) (rest : List HeldRequest) (u : State) (hlaw : u.link.lawful)
    (hheld : ∀ h ∈ rest, h ∈ u.link.buffer) (hnodup : (rest.map HeldRequest.place).Nodup) : ∃ buffer,
    rest.foldl (fun s h => reply h.place body s) u = onLink (fun l => { l with
      replies := l.replies ++ (rest.filter fun h => !h.answered).map (HeldRequest.answer body), buffer := buffer }) u ∧
    (rest.foldl (fun s h => reply h.place body s) u).link.lawful ∧
    ∀ x ∈ u.link.buffer, x.place ∉ rest.map HeldRequest.place → x ∈ buffer := by
  induction rest generalizing u with
  | nil => exact ⟨u.link.buffer, by simp [onLink], hlaw, fun x hx _ => hx⟩
  | cons h rest ih =>
    rw [List.map_cons, List.nodup_cons] at hnodup
    obtain ⟨hfirst, hrest⟩ := hnodup
    have hh := hheld h List.mem_cons_self
    rw [List.foldl_cons]
    by_cases hdone : h.answered = true
    · rw [reply_answered hlaw hh hdone]
      obtain ⟨buffer, hall, hlawful, hkept⟩ := ih u hlaw (fun x hx => hheld x (List.mem_cons_of_mem _ hx)) hrest
      refine ⟨buffer, ?_, hlawful, fun x hx hplace => hkept x hx fun hmem => hplace (List.mem_cons_of_mem _ hmem)⟩
      rw [hall, List.filter_cons_of_neg (by simp [hdone])]
    · have hwaits : h.inProgress := Bool.eq_false_iff.mpr hdone
      have hstep := reply_held hlaw hh hwaits body
      have hlaw' : (reply h.place body u).link.lawful := (moves_reply h.place body).lawful hlaw
      have stands (x : HeldRequest) (hx : x ∈ u.link.buffer) (hne : x.place ≠ h.place) :
          x ∈ (reply h.place body u).link.buffer := by
        rw [hstep]
        exact List.mem_map.mpr ⟨x, hx, if_neg hne⟩
      obtain ⟨buffer, hall, hlawful, hkept⟩ := ih (reply h.place body u) hlaw'
        (fun x hx => stands x (hheld x (List.mem_cons_of_mem _ hx)) fun heq => hfirst (heq ▸ List.mem_map_of_mem hx)) hrest
      refine ⟨buffer, ?_, hlawful, fun x hx hplace => hkept x (stands x hx fun heq => hplace (heq ▸ List.mem_cons_self)) fun hmem =>
        hplace (List.mem_cons_of_mem _ hmem)⟩
      rw [hall, List.filter_cons_of_pos (by simp [hdone]), hstep, List.map_cons]
      simp only [onLink, List.append_assoc, List.singleton_append]

/-- RESET answers every other held request that waits, and goes on waiting itself. -/
theorem abortHeld_eq (hlaw : u.link.lawful) (hh : h ∈ u.link.buffer) : ∃ buffer,
    abortHeld h.place u = onLink (fun l => { l with
      replies := l.replies ++ (u.link.buffer.filter fun x => !x.answered && x.place != h.place).map
        (HeldRequest.answer (.refused .resetAborted none)), buffer := buffer }) u ∧
    (abortHeld h.place u).link.lawful ∧ h ∈ buffer := by
  obtain ⟨buffer, hall, hlawful, hkept⟩ := replies_all (.refused .resetAborted none)
    (u.link.buffer.filter fun x => x.place != h.place) u hlaw (fun x hx => List.mem_of_mem_filter hx)
    (hlaw.distinct.sublist (List.filter_sublist.map _))
  refine ⟨buffer, ?_, hlawful, hkept h hh fun hmem => ?_⟩
  · rw [List.filter_filter] at hall
    exact hall
  · obtain ⟨x, hx, hplace⟩ := List.mem_map.mp hmem
    simp [hplace] at hx

/-! ### The state a RESET leaves -/

/-- Reports told where there is room for them all. -/
theorem tell_room (rs : List Report) (u : State) (hroom : u.link.reports.length + rs.length ≤ Config.reportPlaces) :
    tell rs u = onLink (fun l => { l with reports := l.reports ++ rs }) u := by
  induction rs generalizing u with
  | nil => simp [onLink]
  | cons r rest ih =>
    rw [List.length_cons] at hroom
    have hfirst : report r u = onLink (fun l => { l with reports := l.reports ++ [r] }) u := by
      rw [report_onLink, onLink, LinkController.reported, if_pos (by omega)]
      rfl
    have hrest : tell (r :: rest) u = tell rest (report r u) := rfl
    rw [hrest, ih _ (by rw [hfirst]; simp only [onLink, List.length_append, List.length_singleton]; omega), hfirst]
    simp only [onLink, List.append_assoc, List.singleton_append]

/-- The transmitter takes no turn of the rings while a reply waits. -/
theorem arbitrate_lastServed (hreplies : u.link.replies ≠ []) : (arbitrate u).link.lastServed = u.link.lastServed := by
  unfold arbitrate
  split
  next => rfl
  next =>
    split
    next => rfl
    next hnone => exact absurd hnone hreplies

/-- The state behind the replies of a RESET. -/
def State.resetWith (l : LinkController) (s : State) : State :=
  { s with
    ports := {
      a := (s.port .a).resetOff.settledAt s.now, b := (s.port .b).resetOff.settledAt s.now
      c := (s.port .c).resetOff.settledAt s.now, d := (s.port .d).resetOff.settledAt s.now }
    store := .empty
    link := { l.afterReset with reports := allPorts.map fun p => abortReport p .reset } }

theorem resetWith_port (l : LinkController) : (s.resetWith l).port p = (s.port p).resetOff.settledAt s.now := by
  cases p <;> rfl

/-- A RESET behind its replies. -/
theorem resetPart_onLink (l : LinkController → LinkController) : resetPart (onLink l s) = s.resetWith (l s.link) := by
  have hroom : (onLink LinkController.afterReset (onStore (fun _ => RecordStore.empty)
      (allPorts.foldl resetPort (onLink l s)))).link.reports.length +
        (allPorts.map fun p => abortReport p .reset).length ≤ Config.reportPlaces :=
    show 0 + 4 ≤ Config.reportPlaces by decide
  rw [resetPart_eq, tell_room _ _ hroom, resetPorts_eq]
  rfl

/-- Settles O49: the replies, the ports, the pool and the link controller in turn. -/
theorem resetClearsThePart : Obligations.ResetClearsThePart := by
  intro s tag port hlink ha
  let held : HeldRequest := { place := freePlace s.link.buffer, kind := .reset, tag := tag, port := port, answered := false }
  let others := (s.link.buffer.filter fun x => !x.answered && x.place != held.place).map
    (HeldRequest.answer (.refused .resetAborted none))
  have hlaw : (hold .reset tag port s).link.lawful := hold_lawful (linkLaw_iff.mp hlink) (testRequest_room ha)
  have hmem : held ∈ (hold .reset tag port s).link.buffer := List.mem_append_right _ (List.mem_singleton_self _)
  obtain ⟨buffer, habort, hlawful, hkept⟩ := abortHeld_eq hlaw hmem
  have hwaiting : held ∈ (abortHeld held.place (hold .reset tag port s)).link.buffer := by rw [habort]; exact hkept
  have hothers : ((hold .reset tag port s).link.buffer.filter fun x => !x.answered && x.place != held.place) =
      s.link.buffer.filter fun x => !x.answered && x.place != held.place := by
    refine (List.filter_append ..).trans ?_
    rw [List.filter_cons_of_neg (by simp [held]), List.filter_nil, List.append_nil]
  let l : LinkController := { s.link with
    replies := s.link.replies ++ others ++ [held.answer (.done .nothing)]
    buffer := buffer.map (HeldRequest.markAnswered held.place) }
  have hsaid : reply held.place (.done .nothing) (abortHeld held.place (hold .reset tag port s)) = onLink (fun _ => l) s := by
    rw [reply_held hlawful hwaiting (Eq.refl false), habort, hothers]
    rfl
  have hserve : resetRequest held.place (hold .reset tag port s) = s.resetWith l :=
    (congrArg resetPart hsaid).trans (resetPart_onLink _)
  have hreplies : (s.resetWith l).link.replies ≠ [] := List.append_ne_nil_of_right_ne_nil _ (List.cons_ne_nil _ _)
  obtain ⟨l', harb, hdeframer, hcounters⟩ := arbitrate_link_only (s := s.resetWith l) (.inr (.inl hreplies))
  have hserved := arbitrate_lastServed hreplies
  have hunsent := arbitrate_unsentReplies (s := s.resetWith l)
  have hreports := arbitrate_unsentReports (s := s.resetWith l)
  have hexec : exec (.reset tag port) s = .next { s.resetWith l with link := l' } := by
    rw [← harb]
    exact (serve_taken ha).trans (congrArg (fun u => Host.Outcome.next (arbitrate u)) hserve)
  rw [harb] at hserved hunsent hreports
  refine ⟨_, held.place, hexec, rfl, rfl, fun p => ?_, rfl, hdeframer, hserved, hcounters, ?_, hreports⟩
  · have hport : State.port { s.resetWith l with link := l' } p = (s.port p).resetOff.settledAt s.now := resetWith_port l
    rw [hport]
    refine ⟨settledAt_ctl s.now (s.port p).resetOff, ?_, settledAt_drive s.now (s.port p).resetOff⟩
    exact clearedFrom_settledAt (x := {
      mode := .off, previous := (s.port p).ctl.mode, lastCause := .reset, runs := zeroRuns, fault := none }) s.now rfl _
  · refine hunsent.trans ?_
    show sendingReply s.link.sending ++ (s.link.replies ++ others ++ [_]) = _
    rw [State.unsentReplies, ← List.append_assoc, ← List.append_assoc]
    rfl

end Sys2Proof.Machine

/-! PROOFS. The consumers of a completed scan, each as one change of the blocks and one write to the open record (R83, R94,
R114, R167), and the closes a scan brings (R53, R72, R118). -/

namespace Sys2Proof.Machine

variable {p q : PortId} {s t u : State} {b : PortBlocks} {f g : Record → Record} {c : CalibratedSet}

/-! ### The consumers -/

theorem addGap_onCounters (x : Gap) (d : RecordCounters → RecordCounters) (r : Record) :
    (r.onCounters d).addGap x = (r.addGap x).onCounters d := by
  unfold Record.addGap
  by_cases h : r.gaps.length < Config.gapEntries
  · rw [if_pos h, if_pos (show (r.onCounters d).gaps.length < Config.gapEntries from h)]
    rfl
  · rw [if_neg h, if_neg (show ¬ (r.onCounters d).gaps.length < Config.gapEntries from h)]
    rfl

/-- The stream unit's work depends on the plan, the state of the port and the unit alone. -/
theorem streamScan_act (p : PortId) (c : CalibratedSet) (plan : PlanStore) (m : PortMode) (v : StreamUnit) :
    ∃ x f, Keeps f ∧ (∀ d r, f (Record.onCounters d r) = (f r).onCounters d) ∧ (v.gap = none → f = id) ∧
      ∀ s : State, (s.port p).plan = plan → (s.port p).ctl.mode = m → (s.port p).stream = v →
        streamScan p c s = act p { s.port p with stream := x } f s := by
  by_cases hlisted : plan.working.stream.channels = []
  · refine ⟨v, id, Keeps.id, fun _ _ => rfl, fun _ => rfl, fun s hplan _ hstream => ?_⟩
    have stands : streamScan p c s = s := by
      rw [streamScan, State.working, hplan, hlisted]
      rfl
    rw [stands, ← hstream, act_id]
    exact setPort_self.symm
  let group := groupWith c plan.working.stream.channels v.group
  have listed (s : State) (hplan : (s.port p).plan = plan) : (s.working p).stream.channels ≠ [] := by
    rw [State.working, hplan]
    exact hlisted
  by_cases hshort : group.count < plan.working.stream.decimation
  · refine ⟨{ v with group := some group }, id, Keeps.id, fun _ _ => rfl, fun _ => rfl, fun s hplan _ hstream => ?_⟩
    rw [streamScan_listed (listed s hplan), State.working, hplan, hstream, act_id]
    exact if_pos hshort
  let frame := formFrame p plan.generation plan.working.stream v.miss group
  have offered (s : State) (hplan : (s.port p).plan = plan) (hstream : (s.port p).stream = v) : streamScan p c s =
      offerFrame p frame (s.setPort p { s.port p with stream := { v with group := none, miss := false } }) := by
    rw [streamScan_listed (listed s hplan), State.working, hplan, hstream]
    exact if_neg hshort
  by_cases hroom : v.ring.length < 32
  · refine ⟨{ ring := v.ring ++ [{ frame with lost := min v.lost 255 }], group := none, miss := false, lost := 0
              lastPos := frame.pos, gap := none }, v.gapEnded frame.pos, keeps_gapEnded v frame.pos, fun d r => ?_,
      fun hgap => ?_, fun s hplan _ hstream => ?_⟩
    · unfold StreamUnit.gapEnded
      split
      next => rfl
      next => exact addGap_onCounters _ d r
    · funext r
      simp only [StreamUnit.gapEnded, hgap]
      rfl
    · rw [offered s hplan hstream, offerFrame_stores (by rw [setPort_port_same]; exact hroom), act_setPort, setPort_port_same]
      rfl
  · refine ⟨{ ring := v.ring, group := none, miss := false, lost := satInc v.lost, lastPos := v.lastPos
              gap := if m = .acquiring then some (gapWithDrop v frame.pos) else v.gap }, id, Keeps.id, fun _ _ => rfl,
      fun _ => rfl, fun s hplan hmode hstream => ?_⟩
    rw [offered s hplan hstream, offerFrame_drops (by rw [setPort_port_same]; exact not_lt.mp hroom), setPort_port_same,
      setPort_setPort, mode_eq, setPort_port_same, act_id]
    dsimp only
    rw [hmode]
    rfl

/-- The detector's work depends on the plan and the detector alone. -/
theorem detectScan_act (p : PortId) (c : CalibratedSet) (w : Plan) (d : Detector) : ∃ x f, Keeps f ∧
    (∀ r, detectorWork w c d r = (x, f r)) ∧
    ∀ s : State, s.working p = w → (s.port p).det = d → detectScan p c s = act p { s.port p with det := x } f s := by
  cases hwindow : (d.scan w.detect (c.point w.detect.channel) (c.channel w.detect.channel).saturated).2 with
  | none =>
    refine ⟨(d.scan w.detect (c.point w.detect.channel) (c.channel w.detect.channel).saturated).1, id, Keeps.id,
      fun r => ?_, fun s hwork hdet => ?_⟩
    · have hstep : (d.scan w.detect { x := (c.channel w.detect.channel).x, y := (c.channel w.detect.channel).y
                                      seqNo := c.seqNo, pos := c.pos } (c.channel w.detect.channel).saturated).2 = none := hwindow
      simp only [detectorWork, hstep]
      rfl
    · simp only [detectScan, hwork, hdet, hwindow, act_id]
      rfl
  | some win =>
    refine ⟨(d.scan w.detect (c.point w.detect.channel) (c.channel w.detect.channel).saturated).1,
      Record.judge w.detect w.curve win, keeps_judge _ _ _, fun r => ?_, fun s hwork hdet => ?_⟩
    · have hstep : (d.scan w.detect { x := (c.channel w.detect.channel).x, y := (c.channel w.detect.channel).y
                                      seqNo := c.seqNo, pos := c.pos } (c.channel w.detect.channel).saturated).2 = some win := hwindow
      simp only [detectorWork, hstep]
      rfl
    · simp only [detectScan, hwork, hdet, hwindow, judgeWindow]
      rw [show (onDet p (fun _ => (d.scan w.detect (c.point w.detect.channel) (c.channel w.detect.channel).saturated).1) s).working p
        = w from by rw [← hwork, State.working, onDet_port_same]; rfl]
      rfl

/-- The passing check behind a change of the landmark unit. -/
theorem passing_act {x : LandmarkUnit} (hf : Keeps f) (supports : List Nat) (tolerance : Nat) (pos : Int) :
    onLandEntries p (LandmarkUnit.passing supports tolerance pos) (act p { s.port p with land := x } f s) =
      act p { s.port p with land := (x.passing supports tolerance pos).1 }
        (Record.addLandmarks (x.passing supports tolerance pos).2 ∘ f) s := by
  rw [onLandEntries_eq, act_port_same, act_act hf]

/-- The landmark unit's work depends on the plan and the unit alone. -/
theorem landmarkScan_act (p : PortId) (c : CalibratedSet) (w : Plan) (v : LandmarkUnit) : ∃ x f tube, Keeps f ∧
    (∀ r, landmarkWork w c v r = (x, f r, tube)) ∧
    ∀ s : State, s.working p = w → (s.port p).land = v →
      landmarkScan p c s = (act p { s.port p with land := x } f s, tube) := by
  let step := v.scan w.landmark (c.peak w.landmark.channel) (c.channel w.landmark.channel).saturated
  have scanned : v.scan w.landmark { absX := (c.channel w.landmark.channel).x.natAbs, seqNo := c.seqNo, pos := c.pos }
      (c.channel w.landmark.channel).saturated = step := rfl
  have stepped (s : State) : onLand p (fun _ => step.1) s = act p { s.port p with land := step.1 } id s := act_id.symm
  cases hwindow : step.2 with
  | none =>
    cases hidle : step.1.window with
    | idle =>
      refine ⟨(step.1.passing w.supports w.landmark.tolerance c.pos).1,
        Record.addLandmarks (step.1.passing w.supports w.landmark.tolerance c.pos).2 ∘ id, false,
        (keeps_addLandmarks _).comp Keeps.id, fun r => ?_, fun s hwork hland => ?_⟩
      · simp only [landmarkWork, scanned, hwindow, hidle, if_true]
        rfl
      · simp only [landmarkScan, hwork, hland, show v.scan w.landmark (c.peak w.landmark.channel)
          (c.channel w.landmark.channel).saturated = step from rfl, hwindow, hidle]
        rw [stepped, passing_act Keeps.id]
    | opened =>
      refine ⟨step.1, id, false, Keeps.id, fun r => ?_, fun s hwork hland => ?_⟩
      · simp only [landmarkWork, scanned, hwindow, hidle]
        rfl
      · simp only [landmarkScan, hwork, hland, show v.scan w.landmark (c.peak w.landmark.channel)
          (c.channel w.landmark.channel).saturated = step from rfl, hwindow, hidle]
        rw [stepped]
  | some win =>
    have classifies (s : State) (hwork : s.working p = w) : classifyWindow p win (onLand p (fun _ => step.1) s) =
        act p { s.port p with land := classifiedUnit w win step.1 } (classifiedRecord w win step.1) s := by
      have hw : (onLand p (fun _ => step.1) s).working p = w := by rw [← hwork, State.working, onLand_port_same]; rfl
      rw [classifyWindow_eq, hw, onLand_port_same]
      exact congrArg (onOpen p _) (setPort_setPort _ _)
    cases hidle : step.1.window with
    | idle =>
      refine ⟨((classifiedUnit w win step.1).passing w.supports w.landmark.tolerance c.pos).1,
        Record.addLandmarks ((classifiedUnit w win step.1).passing w.supports w.landmark.tolerance c.pos).2 ∘
          classifiedRecord w win step.1, win.isTubeEnd, (keeps_addLandmarks _).comp (keeps_classifiedRecord w win step.1), fun r => ?_,
        fun s hwork hland => ?_⟩
      · simp only [landmarkWork, scanned, hwindow, hidle, if_true, classified_eq]
        rfl
      · simp only [landmarkScan, hwork, hland, show v.scan w.landmark (c.peak w.landmark.channel)
          (c.channel w.landmark.channel).saturated = step from rfl, hwindow, hidle]
        rw [classifies s hwork, passing_act (keeps_classifiedRecord _ _ _)]
    | opened =>
      refine ⟨classifiedUnit w win step.1, classifiedRecord w win step.1, win.isTubeEnd, keeps_classifiedRecord w win step.1, fun r => ?_, fun s hwork hland => ?_⟩
      · simp only [landmarkWork, scanned, hwindow, hidle, classified_eq]
        rfl
      · simp only [landmarkScan, hwork, hland, show v.scan w.landmark (c.peak w.landmark.channel)
          (c.channel w.landmark.channel).saturated = step from rfl, hwindow, hidle]
        rw [classifies s hwork]

/-! ### The closes a scan brings (R53, R72, R118) -/

/-- A close behind work on one port. -/
theorem closeToIdle_act {r : Record} (reason : CloseReason) (cause : Cause) (hf : Keeps f) (hopen : s.openRecords p = [r])
    (hmode : b.ctl.mode.hasRecord = true) : closeToIdle p reason cause (act p b f s) =
      said (answerHeld .closeTube p (.done (.closed r.number reason))) (closeReports p b r.number reason cause)
        (RecordStore.closing r ((f r).closedBy b reason)) p ((b.closedToIdle cause).settledAt s.now) s := by
  have hopen' : (act p b f s).openRecords p = [f r] := by rw [act_openRecords hf, hopen]; rfl
  have hkeeps := (keeps_closedWith b b.waitingPoint reason).comp hf
  have hslots : (act p b f s).store.slots.map (fun x => (x.onOpen p (Record.closedWith b b.waitingPoint reason)).makeReady p) =
      s.store.slots.map fun x => (x.onOpen p (Record.closedWith b b.waitingPoint reason ∘ f)).makeReady p := by
    refine (List.map_map ..).trans (List.map_congr_left fun x _ => ?_)
    exact congrArg (RecordSlot.makeReady p) (onOpen_slot_comp hf x)
  have hpool : onStore (RecordStore.readied p (Record.closedWith b b.waitingPoint reason) r.number)
      ((act p b f s).setPort p ((b.closedToIdle cause).settledAt s.now)) =
      onStore (RecordStore.closing r ((f r).closedBy b reason)) (s.setPort p ((b.closedToIdle cause).settledAt s.now)) := by
    rw [closedBy_eq]
    refine Eq.trans ?_ (readied_eq_closing (u := s.setPort p ((b.closedToIdle cause).settledAt s.now)) hopen hkeeps rfl)
    have hports : (act p b f s).setPort p ((b.closedToIdle cause).settledAt s.now) =
        onOpen p f (s.setPort p ((b.closedToIdle cause).settledAt s.now)) := congrArg (onOpen p f) (setPort_setPort _ _)
    rw [hports]
    exact congrArg (fun l => { s.setPort p ((b.closedToIdle cause).settledAt s.now) with
      store := { s.store with slots := l, ready := s.store.ready ++ [r.number] } }) hslots
  rw [closeToIdle_some reason cause (openNumber_of_openRecords hopen') (by rw [act_port_same]; exact hmode), hf.number,
    act_port_same, act_now, hpool]
  rfl

/-- A port brought to IDLE by a close takes no further close. -/
theorem exitCheck_idle {kind : ScanKind} {pos : Int} (h : (s.port p).ctl.mode = .idle) : exitCheck p kind pos s = s := by
  refine if_neg ?_
  rw [takesDistance, mode_eq, h]
  simp

theorem heldClose_idle (h : (s.port p).ctl.mode = .idle) : heldClose p s = s := by
  refine if_neg ?_
  rw [mode_eq, h]
  simp [PortMode.hasRecord]

/-- A port brought to IDLE, in which nothing starts, starts nothing. -/
theorem nextStart_idle (h : (s.port p).ctl.mode = .idle) (hseq : (s.port p).seq.still) : nextStart p s = s := by
  obtain ⟨-, -, howed, hheld, -⟩ := hseq
  have stands : onSeq p (fun q => { q with owed := false, held := none }) s = s := by
    rw [onSeq, onPort, ← howed, ← hheld]
    exact setPort_self
  unfold nextStart
  rw [mode_eq, h]
  exact stands

end Sys2Proof.Machine

/-! PROOFS. The completion of a scan: TIME scans of ARMED and NULLING (R46, R47, R49, R86 to R88, R90). -/

namespace Sys2Proof.Machine

variable {p q : PortId} {s t u : State} {b : PortBlocks} {f : Record → Record} {c : CalibratedSet} {sc : Scan}

/-! ### The completion -/

/-- The blocks of a port once the sample that completes its scan is held and its run counted (R9, R75). -/
def PortBlocks.sampled (sc : Scan) (e : Sample) (found : List DriveFault) (b : PortBlocks) : PortBlocks :=
  { b with
    ctl := { b.ctl with runs := b.ctl.runs.set sc.slot (if found = [] then 0 else b.ctl.runs.getD sc.slot 0 + 1) }
    chan := { b.chan with held := b.chan.held ++ [e] } }

/-- The last slot of a scan without a coil fault completes it. -/
theorem endIntegrate_completes {x y : Int} {clipped : Bool} {found : List DriveFault}
    (hscan : (s.port p).seq.scan = some sc) (hphase : sc.phase = .integrate)
    (hlast : sc.slot + 1 = (s.port p).seq.slots.length)
    (h : found = [] ∨ (s.port p).ctl.runs.getD sc.slot 0 + 1 < 3) : endIntegrate p x y clipped found s =
      nextStart p (consume p (((s.port p).sampled sc (sampleOf sc.slot x y clipped found) found).setOf sc)
        ((s.port p).chan.held ++ [sampleOf sc.slot x y clipped found])
        (act p (((s.port p).sampled sc (sampleOf sc.slot x y clipped found) found).completed sc
          (sc.startPos / 100 + (s.port p).land.correction)) sc.noted (advance sc.phaseEnd s))) := by
  have hsampled : onChan p (fun c => { c with held := c.held ++ [sampleOf sc.slot x y clipped found] })
      ((advance sc.phaseEnd s).setPort p { s.port p with
        ctl := { (s.port p).ctl with
          runs := (s.port p).ctl.runs.set sc.slot (if found = [] then 0 else (s.port p).ctl.runs.getD sc.slot 0 + 1) } }) =
      (advance sc.phaseEnd s).setPort p ((s.port p).sampled sc (sampleOf sc.slot x y clipped found) found) := by
    rw [onChan, onPort, setPort_port_same, setPort_setPort]
    rfl
  rw [endIntegrate_passes hscan hphase h, passSample, hsampled, setPort_port_same,
    if_neg (not_lt.mpr (le_of_eq hlast.symm)), completeScan_eq, setPort_port_same, act_setPort]
  rfl

/-! ### The start that follows (R49, R50) -/

/-- The sequencer once an owed or a held start has been acted on, or cleared where the port scans no more. -/
def PortBlocks.nextSeq (now : Nat) (b : PortBlocks) : Sequencer :=
  match b.ctl.mode with
  | .nulling | .armed =>
    if b.seq.owed && !b.seq.closeHold then { b.seq.beginScan now .time b.travel.raw with
      timer := some (now + b.plan.working.travel.period * 40), owed := false } else b.seq
  | .acquiring =>
    match b.seq.held with
    | some pos => Sequencer.beginScan now .distance pos { b.seq with held := none }
    | none => b.seq
  | .off | .idle | .fault => { b.seq with owed := false, held := none }

theorem nextStart_eq : nextStart p s = s.setPort p { s.port p with seq := (s.port p).nextSeq s.now } := by
  have owed : startTimeScan p (onSeq p (fun q => { q with owed := false }) s) = s.setPort p { s.port p with
      seq := { (s.port p).seq.beginScan s.now .time (s.port p).travel.raw with
        timer := some (s.now + (s.port p).plan.working.travel.period * 40), owed := false } } := by
    rw [startTimeScan_eq, onSeq_port_same, onSeq_now]
    exact setPort_setPort _ _
  have held (pos : Int) : startDistanceScan p pos (onSeq p (fun q => { q with held := none }) s) = s.setPort p { s.port p with
      seq := Sequencer.beginScan s.now .distance pos { (s.port p).seq with held := none } } := by
    simp only [startDistanceScan, onSeq, onPort, setPort_port_same, setPort_now, setPort_setPort]
  have stands : s = s.setPort p { s.port p with seq := (s.port p).seq } := setPort_self.symm
  unfold nextStart PortBlocks.nextSeq
  rw [mode_eq]
  cases (s.port p).ctl.mode with
  | nulling =>
    dsimp only
    split
    next => exact owed
    next => exact stands
  | armed =>
    dsimp only
    split
    next => exact owed
    next => exact stands
  | acquiring =>
    dsimp only
    cases (s.port p).seq.held with
    | some pos => exact held pos
    | none => exact stands
  | off => rfl
  | idle => rfl
  | fault => rfl

/-! ### A TIME scan by its consumers -/

theorem takesDistance_time (hkind : c.kind = .time) : takesDistance s p c.kind = false := by
  rw [takesDistance, hkind]
  rfl

/-- A TIME scan goes to the stream unit and to the null accumulation, and then a held close follows (R83, R86). -/
theorem consume_time (hkind : c.kind = .time) (samples : List Sample) : consume p c samples s =
    heldClose p (if (streamScan p c s).mode p = .nulling then nullScan p samples (streamScan p c s) else streamScan p c s) := by
  have exits (v : State) : exitCheck p c.kind c.pos v = v := by
    rw [exitCheck, takesDistance_time hkind]
    rfl
  unfold consume
  dsimp only
  rw [exits, takesDistance_time hkind, takesDistance_time hkind]
  rfl

theorem heldClose_open (h : (s.port p).seq.closeHold = false) : heldClose p s = s := by
  rw [heldClose, h]
  rfl

/-- A null scan before the sixteenth joins the accumulation. -/
theorem nullScan_adds {a : NullAccumulation} {samples : List Sample} (ha : (s.port p).chan.accum = some a)
    (hcount : a.count + 1 < 16) : nullScan p samples s =
      s.setPort p { s.port p with chan := { (s.port p).chan with accum := some (a.add samples) } } := by
  rw [nullScan, ha]
  exact if_pos hcount

theorem nullScan_completes {a : NullAccumulation} {samples : List Sample} (ha : (s.port p).chan.accum = some a)
    (hcount : ¬ a.count + 1 < 16) : nullScan p samples s = completeNull p (a.add samples) s := by
  rw [nullScan, ha]
  exact if_neg hcount

theorem nullScan_none {samples : List Sample} (ha : (s.port p).chan.accum = none) : nullScan p samples s = s := by
  rw [nullScan, ha]

/-! ### The state behind a completion -/

/-- A change of the blocks of one port and the transmitter's choice behind it, the stream unit set aside. -/
theorem arbitrate_port_stream (v : StreamUnit) : { (arbitrate u).port p with stream := v } = { u.port p with stream := v } :=
  congrArg (fun b : PortBlocks => { b with stream := v }) (arbitrate_sansRing (s := u) (q := p))

theorem settledAt_stream (now : Nat) (v : StreamUnit) :
    { b.settledAt now with stream := v } = PortBlocks.settledAt now { b with stream := v } := by
  cases hpending : b.plan.pending with
  | false =>
    rw [settledAt_of_not_pending hpending, settledAt_of_not_pending (b := { b with stream := v }) hpending]
  | true =>
    rw [settledAt_of_pending hpending, settledAt_of_pending (b := { b with stream := v }) hpending]
    unfold PortBlocks.promotedAt
    by_cases hmode : b.ctl.mode = .off
    · rw [if_pos hmode, if_pos (show PortController.mode (PortBlocks.ctl { b with stream := v }) = .off from hmode)]
      rfl
    · rw [if_neg hmode, if_neg (show ¬ PortController.mode (PortBlocks.ctl { b with stream := v }) = .off from hmode)]
      rfl

theorem nextSeq_timed {now : Nat} (hmode : b.ctl.mode = .nulling ∨ b.ctl.mode = .armed) (hclose : b.seq.closeHold = false) :
    b.nextSeq now = if b.seq.owed then { b.seq with
      owed := false, timer := some (now + b.plan.working.travel.period * 40)
      scan := some { kind := .time, startPos := b.travel.raw, slot := 0, phase := .switch, phaseEnd := now + 80 } }
    else b.seq := by
  have howed : (b.seq.owed && !b.seq.closeHold) = b.seq.owed := by rw [hclose]; exact Bool.and_true _
  unfold PortBlocks.nextSeq
  obtain h | h := hmode
  all_goals
    rw [h]
    dsimp only
    rw [howed]
    rfl

/-- The blocks of a port behind the stream unit's turn in a TIME scan (R46, R167). -/
def PortBlocks.timed (sc : Scan) (e : Sample) (found : List DriveFault) (v : StreamUnit) (b : PortBlocks) : PortBlocks :=
  { b.sampled sc e found with
    seq := b.seq.complete
    chan := { b.chan with held := [] }
    stream := v }

/-- The stream unit's turn in a TIME scan that meets no gap. -/
theorem streamScan_time {e : Sample} {found : List DriveFault} {pos : Int} (hkind : sc.kind = .time)
    (hgap : (s.port p).stream.gap = none) (c : CalibratedSet) : ∃ v, streamScan p c
      (act p (((s.port p).sampled sc e found).completed sc pos) sc.noted u) = u.setPort p ((s.port p).timed sc e found v) := by
  obtain ⟨v, f, -, -, hid, hstream⟩ := streamScan_act p c (s.port p).plan (s.port p).ctl.mode (s.port p).stream
  have hnoted : sc.noted = id := by rw [Scan.noted, hkind]
  have hblocks : { ((s.port p).sampled sc e found).completed sc pos with stream := v } = (s.port p).timed sc e found v := by
    unfold PortBlocks.completed
    rw [hkind]
    rfl
  refine ⟨v, ?_⟩
  rw [hstream _ (by rw [act_port_same]; rfl) (by rw [act_port_same]; rfl) (by rw [act_port_same]; rfl), hid hgap, hnoted,
    act_port_same, act_id, act_id, setPort_setPort, hblocks]

/-- Settles O35, by the state of the port and the null scans counted. -/
theorem timeScanCompletes : Obligations.TimeScanCompletes := by
  intro s p sc x y clipped found hscan hphase hkind hlast hquiet hclose hgap b e ctl now next
  have hset : ((b.sampled sc e found).setOf sc).kind = .time := hkind
  obtain ⟨v, hstreamed⟩ := streamScan_time (u := advance sc.phaseEnd s) (e := e) (found := found)
    (pos := sc.startPos / 100 + b.land.correction) hkind hgap ((b.sampled sc e found).setOf sc)
  let streamed := (advance sc.phaseEnd s).setPort p (b.timed sc e found v)
  have hport : streamed.port p = b.timed sc e found v := setPort_port_same _
  have hmode : streamed.mode p = b.ctl.mode := by rw [mode_eq, hport]; rfl
  have hexec : exec (.integrateEnd p x y clipped found) s = .next (arbitrate (nextStart p (heldClose p
      (if streamed.mode p = .nulling then nullScan p (b.chan.held ++ [e]) streamed else streamed)))) := by
    have hcompletes := endIntegrate_completes (x := x) (y := y) (clipped := clipped) hscan hphase hlast hquiet
    rw [consume_time hset, hstreamed] at hcompletes
    exact congrArg (fun u => Host.Outcome.next (arbitrate u)) hcompletes
  have started (c : PortBlocks) (hc : c.seq.closeHold = false) :
      nextStart p (heldClose p ((advance sc.phaseEnd s).setPort p c)) =
        (advance sc.phaseEnd s).setPort p { c with seq := c.nextSeq now } := by
    rw [heldClose_open (by rw [setPort_port_same]; exact hc), nextStart_eq, setPort_port_same, setPort_setPort]
    rfl
  have hstart (c : PortBlocks) (hm : c.ctl.mode = .nulling ∨ c.ctl.mode = .armed) (hc : c.seq = b.seq.complete)
      (htravel : c.travel = b.travel) (hplan : c.plan = b.plan) : c.nextSeq now = next := by
    rw [nextSeq_timed hm (by rw [hc]; exact hclose), hc, htravel, hplan]
    rfl
  by_cases hnulling : s.mode p = .nulling
  · rw [hmode, if_pos (show b.ctl.mode = .nulling from hnulling)] at hexec
    have hnotArmed : s.mode p ≠ .armed := by rw [hnulling]; decide
    cases haccum : b.chan.accum with
    | none =>
      rw [nullScan_none (by rw [hport]; exact haccum), started (b.timed sc e found v) hclose] at hexec
      obtain ⟨-, hothers, hstore, hpending, hnow, -⟩ := eventOn_setPort (s := s) (p := p) sc.phaseEnd
        { b.timed sc e found v with seq := (b.timed sc e found v).nextSeq now }
      exact ⟨_, hexec, hstore, hnow, hpending, hothers, fun h => absurd h hnotArmed,
        fun a _ ha => (by cases ha), fun a h _ ha => (by cases ha)⟩
    | some a =>
      by_cases hcount : a.count + 1 < 16
      · let added := { b.timed sc e found v with
          chan := { (b.timed sc e found v).chan with accum := some (a.add (b.chan.held ++ [e])) } }
        rw [nullScan_adds (by rw [hport]; exact haccum) hcount, hport, setPort_setPort, started added hclose] at hexec
        obtain ⟨hblocks, hothers, hstore, hpending, hnow, hlink, hreports⟩ := eventOn_setPort (s := s) (p := p) sc.phaseEnd
          { added with seq := added.nextSeq now }
        refine ⟨_, hexec, hstore, hnow, hpending, hothers, fun h => absurd h hnotArmed, fun a' _ ha _ => ?_,
          fun a' h _ ha hfull => ?_⟩
        · cases ha
          refine ⟨(congrArg (fun c : PortBlocks => { c with stream := b.stream }) hblocks).trans ?_, hlink, hreports⟩
          rw [hstart added (.inl hnulling) rfl rfl rfl]
          rfl
        · cases ha
          omega
      · let body := ReplyBody.done (.nulled ((nulledTable b.chan.nulls (a.add (b.chan.held ++ [e])).sums).take
          (a.add (b.chan.held ++ [e])).sums.length) (saturatedFrom 0 (a.add (b.chan.held ++ [e])).sums))
        let nulled := { b.timed sc e found v with
          chan := { nulls := nulledTable b.chan.nulls (a.add (b.chan.held ++ [e])).sums, held := [], accum := none } }
        let rested := nulled.rested .idle .nullDone
        let told := stateReport p .idle b.ctl.mode .nullDone none :: pendingReport p rested
        let final := said (answerHeld .nullChannels p body) told id p (rested.settledAt now) streamed
        have hfinal : nullScan p (b.chan.held ++ [e]) streamed = final := by
          rw [nullScan_completes (by rw [hport]; exact haccum) hcount, completeNull_eq, hport]
          rfl
        have hans := answers_answerHeld .nullChannels p body
        have hrest : final.port p = rested.settledAt now := said_port hans
        obtain ⟨hctl, -, hstill, -⟩ := settledAt_frame now rested
        have hidle : (final.port p).ctl.mode = .idle := by
          rw [hrest, hctl]
          rfl
        rw [hfinal, heldClose_idle hidle, nextStart_idle hidle (hrest ▸ hstill (Sequencer.stop_still _))] at hexec
        refine ⟨_, hexec, ?_, ?_, ?_, fun q hq => ?_, fun h => absurd h hnotArmed, fun a' _ ha hfew => ?_,
          fun a' h _ ha _ hlink hheld hh hwaits hkind hbyte => ?_⟩
        · rw [arbitrate_store, said_store hans]
          rfl
        · rw [arbitrate_now, said_now hans]
          rfl
        · rw [arbitrate_pending, said_pending hans]
          rfl
        · rw [arbitrate_sansRing, said_port_ne hans hq, setPort_port_ne _ hq, advance_port]
        · cases ha
          exact absurd hfew hcount
        · cases ha
          have hprevious : b.ctl.mode = .nulling := hnulling
          have hunheld : b.seq.closeHold = false := hclose
          refine ⟨?_, ?_, fun hroom => ?_⟩
          · rw [arbitrate_port_stream, hrest, promotedBlocks_eq, settledAt_stream]
            refine congrArg (PortBlocks.settledAt now) ?_
            simp only [rested, PortBlocks.rested, nulled, PortBlocks.timed, PortBlocks.sampled, hprevious, hunheld]
            rfl
          · rw [arbitrate_unsentReplies]
            refine (said_answers (s := streamed) (linkLaw_iff.mp hlink) hheld.2 hh hwaits hkind hbyte).trans ?_
            rw [HeldRequest.answer, hkind, hbyte]
            rfl
          · rw [arbitrate_unsentReports]
            have htold : told = stateReport p .idle .nulling .nullDone none ::
                if b.plan.pending then [promotedReport p .idle .nulling .stateEntry (b.plan.generation + 1)] else [] := by
              rw [← hprevious]
              rfl
            rw [← htold] at hroom ⊢
            exact said_raised (s := streamed) (fun _ => answerHeld_unsentReports) hroom
  · rw [hmode, if_neg (show ¬ b.ctl.mode = .nulling from hnulling), started (b.timed sc e found v) hclose] at hexec
    obtain ⟨hblocks, hothers, hstore, hpending, hnow, hlink, hreports⟩ := eventOn_setPort (s := s) (p := p) sc.phaseEnd
      { b.timed sc e found v with seq := (b.timed sc e found v).nextSeq now }
    refine ⟨_, hexec, hstore, hnow, hpending, hothers, fun harmed => ?_, fun a h => absurd h hnulling,
      fun a h hn => absurd hn hnulling⟩
    refine ⟨(congrArg (fun c : PortBlocks => { c with stream := b.stream }) hblocks).trans ?_, hlink, hreports⟩
    rw [hstart (b.timed sc e found v) (.inr harmed) rfl rfl rfl]
    rfl

end Sys2Proof.Machine

/-! PROOFS. The completion of a scan of ARMED and ACQUIRING: its consumers, the close it brings and the start that follows
(R46, R49, R50, R53, R72, R83, R114, R118, R144). -/

namespace Sys2Proof.Machine

variable {p q : PortId} {s t u : State} {b : PortBlocks} {f g : Record → Record} {c : CalibratedSet} {sc : Scan} {r : Record}

/-! ### The close a scan brings -/

/-- The close a scan brings, where it brings one. -/
def broughtClose (p : PortId) (closes : Option (CloseReason × Cause)) (s : State) : State :=
  match closes with
  | none => s
  | some (reason, cause) => closeToIdle p reason cause s

/-- A close leaves its port in IDLE, where nothing starts. -/
theorem closeToIdle_rests (reason : CloseReason) (cause : Cause) (hopen : s.openRecords p = [r])
    (hmode : (s.port p).ctl.mode.hasRecord = true) : ((closeToIdle p reason cause s).port p).ctl.mode = .idle ∧
      ((closeToIdle p reason cause s).port p).seq.still := by
  have hclose := closeToIdle_act (b := s.port p) reason cause Keeps.id hopen hmode
  rw [act_id, setPort_self] at hclose
  rw [hclose, said_port (answers_answerHeld ..)]
  obtain ⟨hctl, -, hstill, -⟩ := settledAt_frame s.now ((s.port p).closedToIdle cause)
  exact ⟨congrArg PortController.mode hctl, hstill ⟨rfl, rfl, rfl, rfl, rfl⟩⟩

/-- The close a TIME scan of a record brings is the one held for it. -/
theorem heldClose_brought (hmode : (s.port p).ctl.mode.hasRecord = true) : heldClose p s =
    broughtClose p (if (s.port p).seq.closeHold then some (.host, .closeHost) else none) s := by
  unfold heldClose broughtClose
  rw [mode_eq, hmode, Bool.and_true]
  split <;> rfl

/-- The close a DISTANCE scan brings: of a tube end with auto-close ON, of the exit position, or the one held for it. -/
theorem landmarkTurn_brought {v : State} {tube : Bool} (hscan : landmarkScan p c s = (v, tube)) (hopen : v.openRecords p = [r])
    (hmode : (v.port p).ctl.mode = .acquiring) (hwork : v.working p = s.working p) (pos : Int) :
    heldClose p (exitCheck p .distance pos (landmarkTurn p c s)) =
      broughtClose p (if tube = true ∧ (s.working p).landmark.autoClose = true then some (.tubeEnd, .closeTubeEnd)
        else if pos ≤ (s.working p).landmark.exitPos then some (.exit, .closeExit)
        else if (v.port p).seq.closeHold then some (.host, .closeHost) else none) v := by
  have hrecord : (v.port p).ctl.mode.hasRecord = true := by rw [hmode]; rfl
  have closed (reason : CloseReason) (cause : Cause) :
      heldClose p (exitCheck p .distance pos (closeToIdle p reason cause v)) = closeToIdle p reason cause v ∧
      heldClose p (closeToIdle p reason cause v) = closeToIdle p reason cause v := by
    obtain ⟨hidle, -⟩ := closeToIdle_rests reason cause hopen hrecord
    rw [exitCheck_idle hidle]
    exact ⟨heldClose_idle hidle, heldClose_idle hidle⟩
  have takes : takesDistance v p .distance = true := by
    rw [takesDistance, mode_eq, hmode]
    rfl
  by_cases htube : tube = true ∧ (s.working p).landmark.autoClose = true
  · obtain ⟨htube, hauto⟩ := htube
    have hturn : landmarkTurn p c s = closeToIdle p .tubeEnd .closeTubeEnd v := by
      simp only [landmarkTurn, hscan, htube, hauto]
      rfl
    rw [hturn, if_pos ⟨htube, hauto⟩]
    exact (closed _ _).1
  · have hturn : landmarkTurn p c s = v := by
      simp only [landmarkTurn, hscan]
      exact if_neg fun h => htube ((Bool.and_eq_true _ _).mp h)
    rw [hturn, if_neg htube]
    by_cases hexit : pos ≤ (s.working p).landmark.exitPos
    · have hcheck : exitCheck p .distance pos v = closeToIdle p .exit .closeExit v := by
        refine if_pos ?_
        rw [takes, hwork, decide_eq_true hexit]
        rfl
      rw [hcheck, if_pos hexit]
      exact (closed _ _).2
    · have hcheck : exitCheck p .distance pos v = v := by
        refine if_neg ?_
        rw [takes, hwork, decide_eq_false hexit]
        decide
      rw [hcheck, if_neg hexit, heldClose_brought hrecord]

/-! ### The consumers of a tube's scan -/

/-- A TIME scan of a record goes to the stream unit. -/
theorem consume_tube_time (hkind : c.kind = .time) {samples : List Sample} {v : State} (hstream : streamScan p c s = v)
    (hmode : (v.port p).ctl.mode.hasRecord = true) : consume p c samples s =
      broughtClose p (if (v.port p).seq.closeHold then some (.host, .closeHost) else none) v := by
  rw [consume_time hkind, hstream, if_neg (show ¬ v.mode p = .nulling from hasRecord_not_nulling hmode), heldClose_brought hmode]

/-- A DISTANCE scan of ACQUIRING goes to the stream unit, the detector and the landmark unit. -/
theorem consume_distance (hkind : c.kind = .distance) {samples : List Sample} {v w x : State} {tube : Bool}
    (hstream : streamScan p c s = v) (hdetect : detectScan p c v = w) (hland : landmarkScan p c w = (x, tube))
    (hv : (v.port p).ctl.mode = .acquiring) (hw : (w.port p).ctl.mode = .acquiring) (hx : (x.port p).ctl.mode = .acquiring)
    (hopen : x.openRecords p = [r]) (hwork : x.working p = w.working p) : consume p c samples s =
      broughtClose p (if tube = true ∧ (w.working p).landmark.autoClose = true then some (.tubeEnd, .closeTubeEnd)
        else if c.pos ≤ (w.working p).landmark.exitPos then some (.exit, .closeExit)
        else if (x.port p).seq.closeHold then some (.host, .closeHost) else none) x := by
  have takes {y : State} (hy : (y.port p).ctl.mode = .acquiring) : takesDistance y p .distance = true := by
    rw [takesDistance, mode_eq, hy]
    rfl
  have hnulling : ¬ v.mode p = .nulling := by rw [mode_eq, hv]; decide
  unfold consume
  dsimp only
  rw [hkind, hstream, if_neg hnulling, takes hv, if_pos rfl, hdetect, takes hw, if_pos rfl]
  exact landmarkTurn_brought hland hopen hx hwork c.pos

/-! ### How the completion ends -/

/-- A scan that brings no close: the next start follows. -/
theorem nextStart_act : nextStart p (act p b f s) = act p { b with seq := b.nextSeq s.now } f s := by
  rw [nextStart_eq, act_port_same, setPort_act]
  rfl

/-- A scan that brings a close starts nothing. -/
theorem nextStart_closes (reason : CloseReason) (cause : Cause) (hf : Keeps f) (hopen : s.openRecords p = [r])
    (hmode : b.ctl.mode.hasRecord = true) : nextStart p (broughtClose p (some (reason, cause)) (act p b f s)) =
      said (answerHeld .closeTube p (.done (.closed r.number reason))) (closeReports p b r.number reason cause)
        (RecordStore.closing r ((f r).closedBy b reason)) p ((b.closedToIdle cause).settledAt s.now) s := by
  have hopen' : (act p b f s).openRecords p = [f r] := by rw [act_openRecords hf, hopen]; rfl
  obtain ⟨hidle, hstill⟩ := closeToIdle_rests reason cause hopen' (by rw [act_port_same]; exact hmode)
  exact (nextStart_idle hidle hstill).trans (closeToIdle_act reason cause hf hopen hmode)

/-- The CLOSE_TUBE held for the port, where there is one, is answered. -/
theorem said_closeAnswered {n : Nat} {reason : CloseReason} {rs : List Report} {d : RecordStore → RecordStore}
    (hlink : LinkLaw s) (hheld : HeldLaw s) : CloseAnswered p s
      (said (answerHeld .closeTube p (.done (.closed n reason))) rs d p b s) n reason := by
  refine ⟨fun h hh hwaits hkind hport => ?_, fun hnone => ?_⟩
  · rw [said_answers (linkLaw_iff.mp hlink) hheld.2 hh hwaits hkind hport, HeldRequest.answer, hkind, hport]
  · exact said_answers_none (linkLaw_iff.mp hlink) hheld.2 fun x hx hwaits h => hnone x hx hwaits h.1 h.2

end Sys2Proof.Machine

/-! PROOFS. The completion of a scan of ARMED and ACQUIRING, put together (R46, R138, R142 to R144). -/

namespace Sys2Proof.Machine

variable {p q : PortId} {s t u : State} {b : PortBlocks} {f g : Record → Record} {c : CalibratedSet} {sc : Scan} {r : Record}

/-- The next start behind a scan of a record that brings no close. -/
theorem nextSeq_tube {now : Nat} (hheld : b.seq.held.isSome = true → b.ctl.mode = .acquiring) (hrecord : b.ctl.mode.hasRecord = true) (hclose : b.seq.closeHold = false) :
    b.nextSeq now = if b.ctl.mode = .armed ∧ b.seq.owed = true then { b.seq with
        owed := false, timer := some (now + b.plan.working.travel.period * 40)
        scan := some { kind := .time, startPos := b.travel.raw, slot := 0, phase := .switch, phaseEnd := now + 80 } }
      else match b.seq.held with
        | some pos => { b.seq with
            held := none
            scan := some { kind := .distance, startPos := pos, slot := 0, phase := .switch, phaseEnd := now + 80 } }
        | none => b.seq := by
  cases hmode : b.ctl.mode with
  | armed =>
    rw [nextSeq_timed (.inr hmode) hclose]
    have hnone : b.seq.held = none := by
      cases h : b.seq.held with
      | none => rfl
      | some pos => exact absurd (hmode.symm.trans (hheld (by rw [h]; rfl))) (by decide)
    cases howed : b.seq.owed with
    | true => rfl
    | false =>
      rw [hnone]
      rfl
  | acquiring =>
    unfold PortBlocks.nextSeq
    rw [hmode]
    rfl
  | off => rw [hmode] at hrecord; cases hrecord
  | idle => rw [hmode] at hrecord; cases hrecord
  | nulling => rw [hmode] at hrecord; cases hrecord
  | fault => rw [hmode] at hrecord; cases hrecord

/-- Settles O36: the consumers' work as one change of the blocks and the open record, then the close or the next start. -/
theorem tubeScanCompletes : Obligations.TubeScanCompletes := by
  intro s p sc x y clipped found r gapped hlink hheld hpool hports hopen hscan hphase hlast hquiet hdistance
    b w now e c hgapped counted taken d l work closes started
  have hrecord : b.ctl.mode.hasRecord = true := openRecords_hasRecord hpool hopen
  let u := advance sc.phaseEnd s
  obtain ⟨v, f, hf, hcount, -, hstream⟩ := streamScan_act p c b.plan b.ctl.mode b.stream
  obtain ⟨det, g, hg, hdetect, hdetects⟩ := detectScan_act p c w b.det
  obtain ⟨land, k, tube, hk, hland, hlands⟩ := landmarkScan_act p c w b.land
  have hstreams := hstream s rfl rfl rfl
  have hv : ((streamScan p c s).port p).stream = v := by rw [hstreams, act_port_same]
  have hfr : gapped = f r := by
    rw [hstreams, act_openRecords hf, hopen] at hgapped
    exact (List.head_eq_of_cons_eq hgapped).symm
  have hl : l = (land, k (g taken), tube) := by
    show landmarkWork w c b.land (detectorWork w c b.det taken).2 = _
    rw [hdetect, hland]
  have key : ∃ F, Keeps F ∧ F r = work.2 ∧ work.1.ctl.mode = b.ctl.mode ∧ work.1.plan = b.plan ∧ work.1.travel.raw = b.travel.raw ∧
      work.1.seq = { b.seq with scan := none, seqNo := b.seq.seqNo + 1 } ∧ exec (.integrateEnd p x y clipped found) s =
        .next (arbitrate (nextStart p (broughtClose p closes (act p work.1 F u)))) := by
    have hcompletes := endIntegrate_completes (x := x) (y := y) (clipped := clipped) hscan hphase hlast hquiet
    cases hkind : sc.kind with
    | time =>
      have hwork : work = (counted, gapped) := if_neg (by rw [hkind]; decide)
      have hcloses : closes = if b.seq.closeHold = true then some (.host, .closeHost) else none :=
        (if_neg (by rw [hkind]; exact fun h => nomatch h.1)).trans (if_neg (by rw [hkind]; exact fun h => nomatch h.1))
      have hblocks : { (b.sampled sc e found).completed sc (sc.startPos / 100 + b.land.correction) with stream := v } = counted := by
        unfold PortBlocks.completed
        rw [hkind]
        exact congrArg (fun z => { counted with stream := z }) hv.symm
      have hnoted : sc.noted = id := by rw [Scan.noted, hkind]
      have hturn := hstream (act p ((b.sampled sc e found).completed sc (sc.startPos / 100 + b.land.correction)) id u)
        (by rw [act_port_same]; rfl) (by rw [act_port_same]; rfl) (by rw [act_port_same]; rfl)
      rw [act_port_same, act_act Keeps.id, hblocks] at hturn
      refine ⟨f, hf, ?_, ?_, ?_, ?_, ?_, ?_⟩
      · rw [hwork, hfr]
      · rw [hwork]
      · rw [hwork]
      · rw [hwork]
      · rw [hwork]
      · rw [hwork, hcloses]
        refine congrArg (fun u => Host.Outcome.next (arbitrate u)) (hcompletes.trans (congrArg (nextStart p) ?_))
        rw [hnoted]
        refine (consume_tube_time hkind hturn (by rw [act_port_same]; exact hrecord)).trans ?_
        rw [act_port_same]
        rfl
    | distance =>
      obtain ⟨hacquiring, -⟩ := hdistance hkind
      let noted := { counted with travel := { b.travel with lastScan := some { trigger := sc.startPos, corrected := c.pos } } }
      have hwork : work = ({ noted with det := det, land := land }, k (g taken)) := by
        have hd : d.1 = det := congrArg Prod.fst (hdetect taken)
        refine (if_pos hkind).trans ?_
        rw [hl, hd]
      have hcloses : closes = if tube = true ∧ w.landmark.autoClose = true then some (.tubeEnd, .closeTubeEnd)
          else if c.pos ≤ w.landmark.exitPos then some (.exit, .closeExit)
          else if b.seq.closeHold = true then some (.host, .closeHost) else none := by
        simp only [closes, hl, hkind, true_and]
      have hblocks : { (b.sampled sc e found).completed sc (sc.startPos / 100 + b.land.correction) with stream := v } = noted := by
        unfold PortBlocks.completed
        rw [hkind]
        exact congrArg (fun z => { noted with stream := z }) hv.symm
      have hnoted : sc.noted = Record.countScan := by rw [Scan.noted, hkind]
      have hcountScan : Keeps Record.countScan := keeps_onCounters _
      have hturn := hstream (act p ((b.sampled sc e found).completed sc (sc.startPos / 100 + b.land.correction)) Record.countScan u)
        (by rw [act_port_same]; rfl) (by rw [act_port_same]; rfl) (by rw [act_port_same]; rfl)
      rw [act_port_same, act_act hcountScan, hblocks] at hturn
      have hdetected := hdetects (act p noted (f ∘ Record.countScan) u) (act_working ..) (by rw [act_port_same])
      have hkeeps := hf.comp hcountScan
      rw [act_port_same, act_act hkeeps] at hdetected
      have hlanded := hlands (act p { noted with det := det } (g ∘ f ∘ Record.countScan) u) (act_working ..) (by rw [act_port_same])
      rw [act_port_same, act_act (hg.comp hkeeps)] at hlanded
      have hkept := hk.comp (hg.comp hkeeps)
      have hbecomes : k (g (f r.countScan)) = work.2 := by
        rw [hwork, show taken = (f r).countScan from congrArg Record.countScan hfr]
        exact congrArg (fun z => k (g z)) (hcount _ r)
      refine ⟨_, hkept, hbecomes, ?_, ?_, ?_, ?_, ?_⟩
      · rw [hwork]
      · rw [hwork]
      · rw [hwork]
      · rw [hwork]
      · rw [hwork, hcloses]
        refine congrArg (fun u => Host.Outcome.next (arbitrate u)) (hcompletes.trans (congrArg (nextStart p) ?_))
        rw [hnoted]
        have hstill (y : PortBlocks) (h : Record → Record) (hy : y.ctl.mode = b.ctl.mode) :
            ((act p y h u).port p).ctl.mode = .acquiring := by rw [act_port_same, hy]; exact hacquiring
        have hlast' := consume_distance hkind (samples := b.chan.held ++ [e]) hturn hdetected hlanded (hstill _ _ rfl)
          (hstill _ _ rfl) (hstill _ _ rfl) (by rw [act_openRecords hkept]; exact congrArg (List.map _) hopen)
          (by rw [act_working, act_working])
        rw [act_port_same, act_working] at hlast'
        exact hlast'
  obtain ⟨F, hF, hFr, hmode, hplan, hraw, hseq, hexec⟩ := key
  cases hcloses : closes with
  | none =>
    have hhold : b.seq.closeHold = false := by
      cases h : b.seq.closeHold with
      | false => rfl
      | true =>
        have hbrings : closes ≠ none := by
          simp only [closes, h, if_true]
          split_ifs <;> nofun
        exact absurd hcloses hbrings
    have hstarted : work.1.nextSeq u.now = started := by
      obtain ⟨-, -, hheldLaw, -⟩ := hports p
      rw [nextSeq_tube (by rw [hseq, hmode]; exact hheldLaw) (by rw [hmode]; exact hrecord) (by rw [hseq]; exact hhold),
        hmode, hplan, hraw]
      have howed : work.1.seq.owed = b.seq.owed := by rw [hseq]
      have hstart : work.1.seq.held = b.seq.held := by rw [hseq]
      rw [howed, hstart]
      rfl
    rw [hcloses, broughtClose, nextStart_act, hstarted] at hexec
    refine ⟨_, hexec, ?_, ?_, fun q hq => ?_, ?_, fun q hq => ?_, fun _ => ⟨?_, ?_, ?_, ?_, ?_, ?_⟩, nofun⟩
    · rw [arbitrate_now]
      rfl
    · rw [arbitrate_pending]
      rfl
    · rw [arbitrate_sansRing, act_port_ne hq, advance_port]
    · rw [arbitrate_store]
      rfl
    · rw [State.openRecords, arbitrate_store]
      exact act_openRecords_ne hF hq
    · rw [arbitrate_sansRing, act_port_same]
    · rw [State.openRecords, arbitrate_store]
      exact (act_openRecords (s := u) hF).trans ((congrArg (List.map F) hopen).trans (congrArg (fun z => [z]) hFr))
    · rw [State.readyRecords, arbitrate_store]
      exact act_readyRecords
    · rw [arbitrate_store]
      rfl
    · exact ⟨arbitrate_unsentReplies, arbitrate_deframer, arbitrate_counters⟩
    · rw [arbitrate_unsentReports]
      rfl
  | some brings =>
    obtain ⟨reason, cause⟩ := brings
    have hrecords : work.1.ctl.mode.hasRecord = true := by rw [hmode]; exact hrecord
    rw [hcloses, nextStart_closes (s := u) reason cause hF hopen hrecords, hFr] at hexec
    have hans := answers_answerHeld .closeTube p (.done (.closed r.number reason))
    have hmine : r.port = p := openRecords_port (by rw [hopen]; exact List.mem_singleton_self r)
    refine ⟨_, hexec, ?_, ?_, fun q hq => ?_, ?_, fun q hq => ?_, nofun, fun reason' cause' h => ?_⟩
    · rw [arbitrate_now, said_now hans]
      rfl
    · rw [arbitrate_pending, said_pending hans]
      rfl
    · rw [arbitrate_sansRing, said_port_ne hans hq, advance_port]
    · rw [arbitrate_store, said_store hans]
      rfl
    · refine closing_openRecords_ne (s := s) (r' := work.2.closedBy work.1 reason) hmine hq ?_
      rw [arbitrate_store, said_store hans]
      rfl
    · cases h
      refine ⟨?_, ?_, ?_, fun hroom => ?_⟩
      · rw [arbitrate_sansRing, said_port hans, promotedBlocks_eq]
        rfl
      · rw [arbitrate_store, said_store hans]
        rfl
      · unfold CloseAnswered
        rw [arbitrate_unsentReplies]
        exact said_closeAnswered (s := u) hlink hheld
      · have hreports : closeReports p work.1 r.number reason cause = closeReports p b r.number reason cause := by
          rw [closeReports, hmode, hplan]
          rfl
        rw [arbitrate_unsentReports, hreports]
        exact said_raised (s := u) (fun _ => answerHeld_unsentReports) hroom

end Sys2Proof.Machine

/-! PROOFS. The power series in fixed point: how near the sine and the cosine of `fixSin` and `fixCos` are to the true ones
(R78). -/

namespace Sys2Proof.Machine

/-! ### The Taylor series of the sine and the cosine -/

/-- The alternating Taylor series at `x` of `fuel` terms, two degrees apart, from degree `n` on. -/
noncomputable def taylorSum (x : ℝ) (n fuel : Nat) : ℝ :=
  ∑ j ∈ Finset.range fuel, (-1) ^ j * (x ^ (n + 2 * j) / (n + 2 * j).factorial)

theorem taylorSum_succ (x : ℝ) (n fuel : Nat) :
    taylorSum x n (fuel + 1) = x ^ n / n.factorial - taylorSum x (n + 2) fuel := by
  have shifted (j : Nat) : (-1 : ℝ) ^ (j + 1) * (x ^ (n + 2 * (j + 1)) / (n + 2 * (j + 1)).factorial) =
      -((-1) ^ j * (x ^ (n + 2 + 2 * j) / (n + 2 + 2 * j).factorial)) := by
    rw [show n + 2 * (j + 1) = n + 2 + 2 * j by ring, pow_succ]
    ring
  rw [taylorSum, Finset.sum_range_succ', Finset.sum_congr rfl fun j _ => shifted j, Finset.sum_neg_distrib, taylorSum]
  simp only [pow_zero, mul_zero, add_zero, one_mul]
  ring

/-- The terms of the series fall. -/
theorem taylor_terms_antitone {x : ℝ} (h0 : 0 ≤ x) (h1 : x ≤ 1) (n : Nat) :
    Antitone fun j : Nat => x ^ (n + 2 * j) / ((n + 2 * j).factorial : ℝ) := by
  refine antitone_nat_of_succ_le fun j => ?_
  have hle : n + 2 * j ≤ n + 2 * (j + 1) := by omega
  have hfactorial : ((n + 2 * j).factorial : ℝ) ≤ ((n + 2 * (j + 1)).factorial : ℝ) := by exact_mod_cast Nat.factorial_le hle
  exact div_le_div₀ (pow_nonneg h0 _) (pow_le_pow_of_le_one h0 h1 hle) (by exact_mod_cast Nat.factorial_pos _) hfactorial

theorem taylor_terms_summable (x : ℝ) (n : Nat) : Summable fun j : Nat => x ^ (n + 2 * j) / ((n + 2 * j).factorial : ℝ) :=
  (Real.summable_pow_div_factorial x).comp_injective (i := fun j => n + 2 * j) fun a b h => by
    dsimp only at h
    omega

/-- Fourteen terms miss the limit by less than the last place of a fixed-point number. -/
theorem taylorSum_tail {x l : ℝ} {n : Nat} (h0 : 0 ≤ x) (h1 : x ≤ 1)
    (hl : ∑' j : Nat, (-1) ^ j * (x ^ (n + 2 * j) / ((n + 2 * j).factorial : ℝ)) = l) :
    |fixOne * l - fixOne * taylorSum x n 14| ≤ 1 := by
  have hbound := alternating_series_error_bound _ (taylor_terms_antitone h0 h1 n) (taylor_terms_summable x n) 14
  have hlast : x ^ (n + 2 * 14) / ((n + 2 * 14).factorial : ℝ) ≤ 1 / (28).factorial := by
    have hfactorial : ((28 : Nat).factorial : ℝ) ≤ ((n + 2 * 14).factorial : ℝ) := by
      exact_mod_cast Nat.factorial_le (by omega)
    exact div_le_div₀ zero_le_one (pow_le_one₀ h0 h1) (by exact_mod_cast Nat.factorial_pos _) hfactorial
  have hone : (fixOne : ℝ) * (1 / (28).factorial) ≤ 1 := by
    rw [mul_one_div, div_le_one (by exact_mod_cast Nat.factorial_pos _)]
    exact_mod_cast (by decide : fixOne ≤ (28).factorial)
  have hpos : (0 : ℝ) ≤ fixOne := Nat.cast_nonneg _
  rw [← mul_sub, abs_mul, abs_of_nonneg hpos]
  rw [hl] at hbound
  calc (fixOne : ℝ) * |l - taylorSum x n 14| ≤ fixOne * (1 / (28).factorial) :=
        mul_le_mul_of_nonneg_left (hbound.trans hlast) hpos
    _ ≤ 1 := hone

theorem sin_taylor (x : ℝ) :
    ∑' j : Nat, (-1) ^ j * (x ^ (1 + 2 * j) / ((1 + 2 * j).factorial : ℝ)) = Real.sin x := by
  rw [← (Real.hasSum_sin x).tsum_eq]
  exact tsum_congr fun j => by rw [add_comm 1, mul_div_assoc]

theorem cos_taylor (x : ℝ) :
    ∑' j : Nat, (-1) ^ j * (x ^ (0 + 2 * j) / ((0 + 2 * j).factorial : ℝ)) = Real.cos x := by
  rw [← (Real.hasSum_cos x).tsum_eq]
  exact tsum_congr fun j => by rw [zero_add, mul_div_assoc]

/-! ### The series in fixed point -/

theorem fixSeries_le (x2 fuel n term : Nat) : fixSeries x2 fuel n term ≤ term := by
  cases fuel with
  | zero => exact Nat.zero_le _
  | succ fuel => exact Nat.sub_le _ _

theorem nextTerm_le {x2 n term : Nat} (hx2 : x2 ≤ fixOne) : term * x2 / fixOne / ((n + 1) * (n + 2)) ≤ term :=
  (Nat.div_le_self _ _).trans (Nat.div_le_of_le_mul (by rw [mul_comm fixOne]; exact Nat.mul_le_mul_left _ hx2))

/-- What a whole-number division loses. -/
theorem div_error (a b : Nat) : (a : ℝ) / b - 1 ≤ (a / b : Nat) ∧ ((a / b : Nat) : ℝ) ≤ a / b := by
  refine ⟨?_, Nat.cast_div_le⟩
  have h := Nat.lt_floor_add_one ((a : ℝ) / b)
  rw [Nat.floor_div_eq_div] at h
  linarith

section Series

variable {x : ℝ} {x2 : Nat}

/-- A term of the series within 7 places brings the next one within 7 places. -/
theorem nextTerm_error {n term : Nat} (h0 : 0 ≤ x) (h1 : x ≤ 1) (hx2 : x2 ≤ fixOne) (hsquare : |(x2 : ℝ) - fixOne * x ^ 2| ≤ 4)
    (hterm : |(term : ℝ) - fixOne * (x ^ n / n.factorial)| ≤ 7) :
    |((term * x2 / fixOne / ((n + 1) * (n + 2)) : Nat) : ℝ) - fixOne * (x ^ (n + 2) / (n + 2).factorial)| ≤ 7 := by
  have hone : (0 : ℝ) < fixOne := by norm_num [fixOne]
  have ht0 : 0 ≤ x ^ n / (n.factorial : ℝ) := div_nonneg (pow_nonneg h0 n) (Nat.cast_nonneg _)
  have ht1 : x ^ n / (n.factorial : ℝ) ≤ 1 :=
    div_le_one_of_le₀ ((pow_le_one₀ h0 h1).trans (by exact_mod_cast n.factorial_pos)) (Nat.cast_nonneg _)
  have hm : (2 : ℝ) ≤ ((n + 1) * (n + 2) : Nat) := by exact_mod_cast Nat.mul_le_mul (Nat.le_add_left 1 n) (Nat.le_add_left 2 n)
  have hmpos : (0 : ℝ) < ((n + 1) * (n + 2) : Nat) := by linarith
  have htaylor : x ^ (n + 2) / ((n + 2).factorial : ℝ) = x ^ n / n.factorial * x ^ 2 / ((n + 1) * (n + 2) : Nat) := by
    rw [Nat.factorial_succ, Nat.factorial_succ, pow_add]
    push_cast
    field_simp
    ring
  have hratio : |(x2 : ℝ) / fixOne| ≤ 1 := by
    rw [abs_of_nonneg (by positivity)]
    exact div_le_one_of_le₀ (by exact_mod_cast hx2) hone.le
  have hproduct : |(term : ℝ) * x2 / fixOne - fixOne * (x ^ n / n.factorial * x ^ 2)| ≤ 11 := by
    have hsplit : (term : ℝ) * x2 / fixOne - fixOne * (x ^ n / n.factorial * x ^ 2) =
        (term - fixOne * (x ^ n / n.factorial)) * (x2 / fixOne) + x ^ n / n.factorial * (x2 - fixOne * x ^ 2) := by
      field_simp
      ring
    rw [hsplit]
    refine (abs_add_le _ _).trans ?_
    rw [abs_mul, abs_mul, abs_of_nonneg ht0]
    have hfirst := mul_le_mul hterm hratio (abs_nonneg _) (by norm_num)
    have hsecond := mul_le_mul ht1 hsquare (abs_nonneg _) zero_le_one
    linarith
  have hquotient : |(term : ℝ) * x2 / (fixOne * ((n + 1) * (n + 2) : Nat)) - fixOne * (x ^ (n + 2) / (n + 2).factorial)| ≤ 11 / 2 := by
    have hsplit : (term : ℝ) * x2 / (fixOne * ((n + 1) * (n + 2) : Nat)) - fixOne * (x ^ (n + 2) / (n + 2).factorial) =
        ((term : ℝ) * x2 / fixOne - fixOne * (x ^ n / n.factorial * x ^ 2)) / ((n + 1) * (n + 2) : Nat) := by
      rw [htaylor, sub_div, div_div, mul_div_assoc fixOne.cast]
    rw [hsplit, abs_div, abs_of_pos hmpos]
    exact div_le_div₀ (by norm_num) hproduct (by norm_num) hm
  obtain ⟨hlow, hhigh⟩ := div_error (term * x2) (fixOne * ((n + 1) * (n + 2)))
  rw [Nat.div_div_eq_div_mul]
  rw [Nat.cast_mul term, Nat.cast_mul fixOne] at hlow hhigh
  rw [abs_le] at hquotient ⊢
  constructor <;> linarith

/-- The series in fixed point errs by 7 places a term. -/
theorem fixSeries_error (h0 : 0 ≤ x) (h1 : x ≤ 1) (hx2 : x2 ≤ fixOne) (hsquare : |(x2 : ℝ) - fixOne * x ^ 2| ≤ 4) (fuel : Nat) :
    ∀ n term : Nat, |(term : ℝ) - fixOne * (x ^ n / n.factorial)| ≤ 7 →
      |(fixSeries x2 fuel n term : ℝ) - fixOne * taylorSum x n fuel| ≤ 7 * fuel := by
  induction fuel with
  | zero =>
    intro n term _
    simp [fixSeries, taylorSum]
  | succ fuel ih =>
    intro n term hterm
    have hnext := ih (n + 2) _ (nextTerm_error h0 h1 hx2 hsquare hterm)
    have hle : fixSeries x2 fuel (n + 2) (term * x2 / fixOne / ((n + 1) * (n + 2))) ≤ term :=
      (fixSeries_le _ _ _ _).trans (nextTerm_le hx2)
    rw [taylorSum_succ, fixSeries, Nat.cast_sub hle]
    rw [abs_le] at hterm hnext ⊢
    push_cast
    constructor <;> linarith

end Series

/-! ### The angle in fixed point -/

/-- An angle of `h` twentieths of a degree in radians. -/
noncomputable def radians (h : Nat) : ℝ := h * Real.pi / 3600

theorem radians_nonneg (h : Nat) : 0 ≤ radians h :=
  div_nonneg (mul_nonneg (Nat.cast_nonneg _) Real.pi_pos.le) (by norm_num)

theorem radians_le {h : Nat} (hh : h ≤ 900) : radians h ≤ 4 / 5 := by
  have hcast : (h : ℝ) ≤ 900 := by exact_mod_cast hh
  have hpi := Real.pi_lt_d2
  have hmul : (h : ℝ) * Real.pi ≤ 900 * 3.15 := mul_le_mul hcast hpi.le Real.pi_pos.le (by norm_num)
  rw [radians, div_le_iff₀ (by norm_num)]
  linarith

theorem fixPi_error : |(fixPi : ℝ) - fixOne * Real.pi| ≤ 1 := by
  have hlow := Real.pi_gt_d20
  have hhigh := Real.pi_lt_d20
  rw [abs_le, fixPi, fixOne]
  push_cast
  constructor <;> linarith

theorem fixAngle_error {h : Nat} (hh : h ≤ 900) : |(fixAngle h : ℝ) - fixOne * radians h| ≤ 5 / 4 := by
  have hcast : (h : ℝ) ≤ 900 := by exact_mod_cast hh
  have hscaled : |(h : ℝ) * fixPi / 3600 - fixOne * radians h| ≤ 1 / 4 := by
    have hsplit : (h : ℝ) * fixPi / 3600 - fixOne * radians h = h * (fixPi - fixOne * Real.pi) / 3600 := by
      rw [radians]
      ring
    rw [hsplit, abs_div, abs_mul, abs_of_nonneg (Nat.cast_nonneg (α := ℝ) h), abs_of_nonneg (by norm_num : (0 : ℝ) ≤ 3600),
      div_le_iff₀ (by norm_num)]
    have hmul := mul_le_mul hcast fixPi_error (abs_nonneg _) (by norm_num)
    linarith
  obtain ⟨hlow, hhigh⟩ := div_error (h * fixPi) 3600
  rw [fixAngle]
  rw [Nat.cast_mul h, Nat.cast_ofNat] at hlow hhigh
  rw [abs_le] at hscaled ⊢
  constructor <;> linarith

theorem fixAngle_le {h : Nat} (hh : h ≤ 900) : fixAngle h ≤ fixOne := by
  refine (Nat.div_le_div_right (Nat.mul_le_mul_right fixPi hh)).trans ?_
  decide

/-- The square of an angle in fixed point. -/
theorem square_error {h : Nat} (hh : h ≤ 900) :
    |((fixAngle h * fixAngle h / fixOne : Nat) : ℝ) - fixOne * radians h ^ 2| ≤ 4 := by
  have hone : (0 : ℝ) < fixOne := by norm_num [fixOne]
  have hangle := fixAngle_error hh
  have hsum : |(fixAngle h : ℝ) + fixOne * radians h| ≤ 2 * fixOne := by
    have hle : (fixAngle h : ℝ) ≤ fixOne := by exact_mod_cast fixAngle_le hh
    have hradians := mul_le_mul_of_nonneg_left ((radians_le hh).trans (by norm_num : (4 / 5 : ℝ) ≤ 1)) hone.le
    rw [abs_of_nonneg (add_nonneg (Nat.cast_nonneg _) (mul_nonneg hone.le (radians_nonneg h)))]
    linarith
  have hexact : |(fixAngle h : ℝ) * fixAngle h / fixOne - fixOne * radians h ^ 2| ≤ 5 / 2 := by
    have hsplit : (fixAngle h : ℝ) * fixAngle h / fixOne - fixOne * radians h ^ 2 =
        (fixAngle h - fixOne * radians h) * (fixAngle h + fixOne * radians h) / fixOne := by
      field_simp
      ring
    rw [hsplit, abs_div, abs_mul, abs_of_pos hone, div_le_iff₀ hone]
    have hmul := mul_le_mul hangle hsum (abs_nonneg _) (by norm_num)
    linarith
  obtain ⟨hlow, hhigh⟩ := div_error (fixAngle h * fixAngle h) fixOne
  rw [Nat.cast_mul] at hlow hhigh
  rw [abs_le] at hexact ⊢
  constructor <;> linarith

theorem square_le {h : Nat} (hh : h ≤ 900) : fixAngle h * fixAngle h / fixOne ≤ fixOne :=
  Nat.div_le_of_le_mul (Nat.mul_le_mul (fixAngle_le hh) (fixAngle_le hh))

theorem fixSin_error {h : Nat} (hh : h ≤ 900) : |(fixSin h : ℝ) - fixOne * Real.sin (radians h)| ≤ 100 := by
  have h1 : radians h ≤ 1 := (radians_le hh).trans (by norm_num)
  have hangle := fixAngle_error hh
  have hseries := fixSeries_error (radians_nonneg h) h1 (square_le hh) (square_error hh) 14 1 (fixAngle h) (by
    rw [pow_one, Nat.factorial_one, Nat.cast_one, div_one]
    linarith)
  have htail := taylorSum_tail (radians_nonneg h) h1 (sin_taylor (radians h))
  rw [fixSin]
  rw [abs_le] at hseries htail ⊢
  push_cast at hseries
  constructor <;> linarith

theorem fixCos_error {h : Nat} (hh : h ≤ 900) : |(fixCos h : ℝ) - fixOne * Real.cos (radians h)| ≤ 100 := by
  have h1 : radians h ≤ 1 := (radians_le hh).trans (by norm_num)
  have hseries := fixSeries_error (radians_nonneg h) h1 (square_le hh) (square_error hh) 14 0 fixOne (by
    rw [pow_zero, Nat.factorial_zero, Nat.cast_one, div_one, mul_one, sub_self, abs_zero]
    norm_num)
  have htail := taylorSum_tail (radians_nonneg h) h1 (cos_taylor (radians h))
  rw [fixCos]
  rw [abs_le] at hseries htail ⊢
  push_cast at hseries
  constructor <;> linarith

end Sys2Proof.Machine

/-! PROOFS. The sine table (R78): every entry is the nearest integer. -/

namespace Sys2Proof.Machine

/-! ### The rounding of an entry -/

/-- Whether 16,384 times a fixed-point value lies further from every half than 100 places can shift it. -/
def clearOfHalf (v : Nat) : Bool :=
  decide (1638400 ≤ (16384 * v + fixOne / 2) % fixOne ∧ (16384 * v + fixOne / 2) % fixOne + 1638400 ≤ fixOne)

/-- No entry of the table rounds near a half. -/
theorem table_clearOfHalf : ∀ a < 451, clearOfHalf (fixSin (2 * a)) = true ∧ clearOfHalf (fixCos (2 * a)) = true := by
  decide +kernel

theorem fixEntry_nearest {v : Nat} {x : ℝ} (hclear : clearOfHalf v = true) (hv : |(v : ℝ) - fixOne * x| ≤ 100) :
    |16384 * x - (fixEntry v : ℝ)| ≤ 1 / 2 := by
  obtain ⟨hlow, hhigh⟩ := of_decide_eq_true hclear
  have hdiv := Nat.div_add_mod (16384 * v + fixOne / 2) fixOne
  rw [show (16384 * v + fixOne / 2) / fixOne = fixEntry v from rfl] at hdiv
  generalize (16384 * v + fixOne / 2) % fixOne = m at hdiv hlow hhigh
  have hhalf : ((fixOne / 2 : Nat) : ℝ) = 9223372036854775808 := by norm_num [fixOne]
  have hdiv' := congrArg (Nat.cast (R := ℝ)) hdiv
  rw [Nat.cast_add, Nat.cast_mul, Nat.cast_add, Nat.cast_mul, hhalf, Nat.cast_ofNat] at hdiv'
  have hlow' : (1638400 : ℝ) ≤ m := by exact_mod_cast hlow
  have hhigh' : (m : ℝ) + 1638400 ≤ fixOne := by exact_mod_cast hhigh
  have hone : (fixOne : ℝ) = 18446744073709551616 := by norm_num [fixOne]
  rw [hone] at hdiv' hhigh' hv
  rw [abs_le] at hv ⊢
  constructor <;> linarith

/-! ### The entries of the first quadrant -/

theorem radians_twice (a : Nat) : radians (2 * a) = a * Real.pi / 1800 := by
  rw [radians]
  push_cast
  ring

theorem sineQuadrant_nearest {a : Nat} (ha : a ≤ 900) : |16384 * Real.sin (a * Real.pi / 1800) - (sineQuadrant a : ℝ)| ≤ 1 / 2 := by
  unfold sineQuadrant
  split
  next hlow =>
    obtain ⟨hclear, -⟩ := table_clearOfHalf a (by omega)
    rw [← radians_twice]
    exact fixEntry_nearest hclear (fixSin_error (by omega))
  next hhigh =>
    obtain ⟨-, hclear⟩ := table_clearOfHalf (900 - a) (by omega)
    have hangle : Real.sin (a * Real.pi / 1800) = Real.cos (radians (2 * (900 - a))) := by
      rw [radians_twice, ← Real.cos_pi_div_two_sub, Nat.cast_sub ha]
      refine congrArg Real.cos ?_
      push_cast
      ring
    rw [hangle]
    exact fixEntry_nearest hclear (fixCos_error (by omega))

/-! ### The whole table -/

theorem sineEntry_nearest {a : Nat} (ha : a < 3600) : |16384 * Real.sin (a * Real.pi / 1800) - (sineEntry a : ℝ)| ≤ 1 / 2 := by
  have mirrored {x y : ℝ} (h : |16384 * x - y| ≤ 1 / 2) : |16384 * -x - -y| ≤ 1 / 2 := by
    rwa [show 16384 * -x - -y = -(16384 * x - y) by ring, abs_neg]
  unfold sineEntry
  split_ifs with h1 h2 h3
  · exact_mod_cast sineQuadrant_nearest h1.le
  · have hangle : Real.sin (a * Real.pi / 1800) = Real.sin ((1800 - a : Nat) * Real.pi / 1800) := by
      rw [← Real.sin_pi_sub, Nat.cast_sub h2.le]
      refine congrArg Real.sin ?_
      push_cast
      ring
    rw [hangle]
    exact_mod_cast sineQuadrant_nearest (a := 1800 - a) (by omega)
  · have hangle : Real.sin (a * Real.pi / 1800) = -Real.sin ((a - 1800 : Nat) * Real.pi / 1800) := by
      rw [← Real.sin_add_pi, Nat.cast_sub (not_lt.mp h2)]
      refine congrArg Real.sin ?_
      push_cast
      ring
    rw [hangle]
    have h := mirrored (sineQuadrant_nearest (a := a - 1800) (by omega))
    exact_mod_cast h
  · have hangle : Real.sin (a * Real.pi / 1800) = -Real.sin ((3600 - a : Nat) * Real.pi / 1800) := by
      rw [← Real.sin_neg, ← Real.sin_sub_two_pi, Nat.cast_sub ha.le]
      refine congrArg Real.sin ?_
      push_cast
      ring
    rw [hangle]
    have h := mirrored (sineQuadrant_nearest (a := 3600 - a) (by omega))
    exact_mod_cast h

theorem cosineEntry_nearest {a : Nat} (ha : a < 3600) : |16384 * Real.cos (a * Real.pi / 1800) - (cosineEntry a : ℝ)| ≤ 1 / 2 := by
  have hangle : Real.cos (a * Real.pi / 1800) = Real.sin (((a + 900) % 3600 : Nat) * Real.pi / 1800) := by
    rw [← Real.sin_add_pi_div_two]
    by_cases hwraps : a + 900 < 3600
    · rw [Nat.mod_eq_of_lt hwraps]
      refine congrArg Real.sin ?_
      push_cast
      ring
    · have hmod : (a + 900) % 3600 = a - 2700 := by omega
      rw [hmod, ← Real.sin_sub_two_pi, Nat.cast_sub (by omega)]
      refine congrArg Real.sin ?_
      push_cast
      ring
  rw [hangle]
  exact sineEntry_nearest (Nat.mod_lt _ (by decide))

end Sys2Proof.Machine

/-! PROOFS. The phase (R104): the comparisons of `aboveHalf` are the exact ones, and the angle is the nearest. -/

namespace Sys2Proof.Machine

/-! ### The fractions about a tangent -/

/-- Two fractions, one below and one above the tangent of an angle. -/
structure Bracket where
  lowTop : Nat
  lowBottom : Nat
  highTop : Nat
  highBottom : Nat

/-- Both fractions moved toward the tangent `sine / cosine`, with no denominator above 65,535. -/
def Bracket.narrowed (sine cosine : Nat) (r : Bracket) : Bracket :=
  let high := r.highTop * cosine - r.highBottom * sine
  let n := min ((r.lowBottom * sine - r.lowTop * cosine) / high) ((65535 - r.lowBottom) / r.highBottom)
  let top := r.lowTop + n * r.highTop
  let bottom := r.lowBottom + n * r.highBottom
  let m := min (high / (bottom * sine - top * cosine)) ((65535 - r.highBottom) / bottom)
  { lowTop := top, lowBottom := bottom, highTop := r.highTop + m * top, highBottom := r.highBottom + m * bottom }

/-- The fractions about a tangent of 0 to 1, by the turns of Euclid's algorithm. -/
def Bracket.around (sine cosine : Nat) : Nat → Bracket
  | 0 => { lowTop := 0, lowBottom := 1, highTop := 1, highBottom := 1 }
  | turns + 1 => (Bracket.around sine cosine turns).narrowed sine cosine

/-- Whether the fractions are neighbours with no fraction of a denominator up to 65,535 between them, and lie on their
sides of the tangent by more than 100 places of sine and cosine can shift it. -/
def Bracket.parts (sine cosine : Nat) (r : Bracket) : Bool :=
  decide (r.lowBottom * r.highTop = r.lowTop * r.highBottom + 1 ∧ 65535 < r.lowBottom + r.highBottom ∧
    r.lowTop * cosine + 100 * (r.lowTop + r.lowBottom) ≤ r.lowBottom * sine ∧
    r.highBottom * sine + 100 * (r.highTop + r.highBottom) ≤ r.highTop * cosine)

/-- No vector of a window lies too near one of the 450 angles between two phases of the first octant. -/
theorem brackets_part : ∀ k < 450, (Bracket.around (fixSin (2 * k + 1)) (fixCos (2 * k + 1)) 12).parts
    (fixSin (2 * k + 1)) (fixCos (2 * k + 1)) = true := by decide +kernel

/-- A fraction of a denominator up to 65,535 lies beyond one of two neighbours. -/
theorem beyond_neighbours {a b c d u v : Nat} (hneighbours : b * c = a * d + 1) (hwide : 65535 < b + d) (hu : u ≤ 65535) :
    v * b ≤ a * u ∨ c * u ≤ v * d := by
  by_contra h
  obtain ⟨hlow, hhigh⟩ := not_or.mp h
  have hlow' : a * u + 1 ≤ v * b := not_le.mp hlow
  have hhigh' : v * d + 1 ≤ c * u := not_le.mp hhigh
  have hlowd := Nat.mul_le_mul_right d hlow'
  have hhighb := Nat.mul_le_mul_right b hhigh'
  have hu' : b * c * u = (a * d + 1) * u := congrArg (· * u) hneighbours
  nlinarith

/-- On either side of a bracketed tangent the comparison in fixed point and the exact one agree. -/
theorem compares_of_parts {r : Bracket} {sine cosine u v : Nat} {x y : ℝ} (hparts : r.parts sine cosine = true)
    (hx : |(sine : ℝ) - fixOne * x| ≤ 100) (hy : |(cosine : ℝ) - fixOne * y| ≤ 100) (hy0 : 0 ≤ y) (hpos : 0 < u) (hu : u ≤ 65535) :
    (u * sine < v * cosine → u * x ≤ v * y) ∧ (v * cosine ≤ u * sine → v * y ≤ u * x) := by
  obtain ⟨hneighbours, hwide, hlow, hhigh⟩ := of_decide_eq_true hparts
  obtain ⟨a, b, c, d⟩ := r
  dsimp only at hneighbours hwide hlow hhigh
  have hb : 0 < b := Nat.pos_of_ne_zero fun h => by rw [h] at hneighbours; omega
  have hd (h : c * u ≤ v * d) : 0 < d := Nat.pos_of_ne_zero fun h0 => by
    rw [h0, Nat.mul_zero] at hneighbours h
    have hc : 0 < c := Nat.pos_of_ne_zero fun h => by rw [h] at hneighbours; omega
    exact absurd h (not_le.mpr (Nat.mul_pos hc hpos))
  have hone : (fixOne : ℝ) = 18446744073709551616 := by norm_num [fixOne]
  rw [hone] at hx hy
  obtain ⟨hx1, hx2⟩ := abs_le.mp hx
  obtain ⟨hy1, hy2⟩ := abs_le.mp hy
  obtain hbelow | habove := beyond_neighbours hneighbours hwide hu (v := v)
  · have hexact : (a : ℝ) * y ≤ b * x := by
      have hcast : (a : ℝ) * cosine + 100 * (a + b) ≤ b * sine := by exact_mod_cast hlow
      have ha := mul_le_mul_of_nonneg_left hy1 (Nat.cast_nonneg (α := ℝ) a)
      have hb := mul_le_mul_of_nonneg_left hx2 (Nat.cast_nonneg (α := ℝ) b)
      linarith
    refine ⟨fun h => absurd h (not_lt.mpr ?_), fun _ => ?_⟩
    · have hscaled := Nat.mul_le_mul_left u hlow
      have hcosine := Nat.mul_le_mul_right cosine hbelow
      exact Nat.le_of_mul_le_mul_right (by nlinarith : v * cosine * b ≤ u * sine * b) hb
    · have hbelow' : (v : ℝ) * b ≤ a * u := by exact_mod_cast hbelow
      have hscaled := mul_le_mul_of_nonneg_left hexact (Nat.cast_nonneg (α := ℝ) u)
      have hcosine := mul_le_mul_of_nonneg_right hbelow' hy0
      refine le_of_mul_le_mul_right (a := (b : ℝ)) ?_ (by exact_mod_cast hb)
      linarith
  · have hexact : (d : ℝ) * x ≤ c * y := by
      have hcast : (d : ℝ) * sine + 100 * (c + d) ≤ c * cosine := by exact_mod_cast hhigh
      have hc := mul_le_mul_of_nonneg_left hy2 (Nat.cast_nonneg (α := ℝ) c)
      have hd := mul_le_mul_of_nonneg_left hx1 (Nat.cast_nonneg (α := ℝ) d)
      linarith
    refine ⟨fun _ => ?_, fun h => absurd h (not_le.mpr ?_)⟩
    · have habove' : (c : ℝ) * u ≤ v * d := by exact_mod_cast habove
      have hscaled := mul_le_mul_of_nonneg_left hexact (Nat.cast_nonneg (α := ℝ) u)
      have hcosine := mul_le_mul_of_nonneg_right habove' hy0
      refine le_of_mul_le_mul_right (a := (d : ℝ)) ?_ (by exact_mod_cast hd habove)
      linarith
    · have hscaled := Nat.mul_le_mul_left u hhigh
      have hcosine := Nat.mul_le_mul_right cosine habove
      have hmargin : 0 < u * (100 * (c + d)) := Nat.mul_pos hpos (by have := hd habove; omega)
      exact Nat.lt_of_mul_lt_mul_right (a := d) (by nlinarith : u * sine * d < v * cosine * d)

theorem cos_radians_nonneg {h : Nat} (hh : h ≤ 900) : 0 ≤ Real.cos (radians h) :=
  Real.cos_nonneg_of_neg_pi_div_two_le_of_le (by linarith [radians_nonneg h, Real.pi_pos])
    (by linarith [radians_le hh, Real.pi_gt_three])

/-- The comparison of a vector of a window with the angle half a tenth below phase `k` is the exact one. -/
theorem aboveHalf_exact {u v k : Nat} (hpos : 0 < u) (hu : u ≤ 65535) (hk : 1 ≤ k) (hk' : k ≤ 450) :
    (aboveHalf u v k = true → u * Real.sin (radians (2 * k - 1)) ≤ v * Real.cos (radians (2 * k - 1))) ∧
    (aboveHalf u v k = false → v * Real.cos (radians (2 * k - 1)) ≤ u * Real.sin (radians (2 * k - 1))) := by
  have hodd : 2 * (k - 1) + 1 = 2 * k - 1 := by omega
  have hparts := brackets_part (k - 1) (by omega)
  rw [hodd] at hparts
  obtain ⟨habove, hbelow⟩ := compares_of_parts (v := v) hparts (fixSin_error (by omega)) (fixCos_error (by omega))
    (cos_radians_nonneg (by omega)) hpos hu
  exact ⟨fun h => habove (of_decide_eq_true h), fun h => hbelow (not_lt.mp (of_decide_eq_false h))⟩

/-! ### The search for the phase in the first octant -/

/-- The search ends at a `k` that passes, or 0, whose next one does not pass, or is above 450. -/
theorem octantBits_between {u v : Nat} (bits : Nat) : ∀ k : Nat, k ≤ 450 → (k = 0 ∨ aboveHalf u v k = true) →
    (450 < k + 2 ^ bits ∨ aboveHalf u v (k + 2 ^ bits) = false) →
    octantBits u v bits k ≤ 450 ∧ (octantBits u v bits k = 0 ∨ aboveHalf u v (octantBits u v bits k) = true) ∧
      (450 < octantBits u v bits k + 1 ∨ aboveHalf u v (octantBits u v bits k + 1) = false) := by
  induction bits with
  | zero => exact fun k hk hlow hhigh => ⟨hk, hlow, hhigh⟩
  | succ bits ih =>
    intro k hk hlow hhigh
    rw [octantBits]
    split
    next h =>
      obtain ⟨hle, habove⟩ := (Bool.and_eq_true _ _).mp h
      refine ih _ (of_decide_eq_true hle) (.inr habove) ?_
      rwa [add_assoc, ← two_mul, ← pow_succ']
    next h =>
      refine ih k hk hlow ?_
      simpa only [Bool.and_eq_true, decide_eq_true_eq, not_and_or, not_le, Bool.not_eq_true] using h

/-! ### Angles -/

/-- A vector at angle `θ` that does not lie beyond `α` in sine and cosine does not lie beyond it. -/
theorem angle_le_of {l θ α : ℝ} (hl : 0 < l) (hnear : θ - α < Real.pi)
    (h : l * Real.sin θ * Real.cos α ≤ l * Real.cos θ * Real.sin α) : θ ≤ α := by
  by_contra hlt
  have hsin := mul_pos hl (Real.sin_pos_of_pos_of_lt_pi (sub_pos.mpr (not_le.mp hlt)) hnear)
  rw [Real.sin_sub] at hsin
  linarith

theorem le_angle_of {l θ α : ℝ} (hl : 0 < l) (hnear : α - θ < Real.pi)
    (h : l * Real.cos θ * Real.sin α ≤ l * Real.sin θ * Real.cos α) : α ≤ θ := by
  by_contra hlt
  have hsin := mul_pos hl (Real.sin_pos_of_pos_of_lt_pi (sub_pos.mpr (not_le.mp hlt)) hnear)
  rw [Real.sin_sub] at hsin
  linarith

/-- A vector has the direction of an angle within half a tenth of a degree of phase `q`. -/
def PhaseNear (x y : ℝ) (q : ℝ) : Prop :=
  ∃ length angle : ℝ, 0 < length ∧ x = length * Real.cos angle ∧ y = length * Real.sin angle ∧
    |angle - q * Real.pi / 1800| ≤ Real.pi / 3600

/-- A vector of the first octant. -/
theorem octantPhase_near {u v : Nat} (hpos : 0 < u) (hu : u ≤ 65535) (hv : v ≤ u) :
    octantPhase u v ≤ 450 ∧ PhaseNear u v (octantPhase u v) := by
  have hpi := Real.pi_pos
  let z : ℂ := ⟨u, v⟩
  have hz : z ≠ 0 := fun h => by
    have hre : (u : ℝ) = 0 := congrArg Complex.re h
    exact absurd (Nat.cast_eq_zero.mp hre) hpos.ne'
  have hlength : 0 < ‖z‖ := norm_pos_iff.mpr hz
  have hx : (u : ℝ) = ‖z‖ * Real.cos z.arg := (Complex.norm_mul_cos_arg z).symm
  have hy : (v : ℝ) = ‖z‖ * Real.sin z.arg := (Complex.norm_mul_sin_arg z).symm
  have hlow : 0 ≤ z.arg := Complex.arg_nonneg_iff.mpr (Nat.cast_nonneg v)
  have hhigh : z.arg ≤ Real.pi := Complex.arg_le_pi z
  have hquarter : z.arg ≤ Real.pi / 4 := by
    refine angle_le_of hlength (by linarith) ?_
    rw [← hx, ← hy, Real.sin_pi_div_four, Real.cos_pi_div_four]
    exact mul_le_mul_of_nonneg_right (by exact_mod_cast hv) (by positivity)
  obtain ⟨hle, habove, hbelow⟩ := octantBits_between (u := u) (v := v) 9 0 (by decide) (.inl rfl) (.inl (by decide))
  change octantPhase u v ≤ 450 at hle
  change octantPhase u v = 0 ∨ aboveHalf u v (octantPhase u v) = true at habove
  change 450 < octantPhase u v + 1 ∨ aboveHalf u v (octantPhase u v + 1) = false at hbelow
  generalize octantPhase u v = k at hle habove hbelow ⊢
  refine ⟨hle, ‖z‖, z.arg, hlength, hx, hy, ?_⟩
  have hfrom : k * Real.pi / 1800 - Real.pi / 3600 ≤ z.arg := by
    obtain rfl | habove := habove
    · rw [Nat.cast_zero]
      linarith
    by_cases hk : k = 0
    · rw [hk, Nat.cast_zero]
      linarith
    have hangle : radians (2 * k - 1) = k * Real.pi / 1800 - Real.pi / 3600 := by
      rw [radians, Nat.cast_sub (by omega)]
      push_cast
      ring
    rw [← hangle]
    have hsmall := radians_le (h := 2 * k - 1) (by omega)
    refine le_angle_of hlength (by linarith [Real.pi_gt_three]) ?_
    rw [← hx, ← hy]
    exact (aboveHalf_exact hpos hu (by omega) hle).1 habove
  have hto : z.arg ≤ k * Real.pi / 1800 + Real.pi / 3600 := by
    obtain htop | hbelow := hbelow
    · have hk : k = 450 := by omega
      rw [hk]
      push_cast
      linarith
    by_cases hk : k = 450
    · rw [hk]
      push_cast
      linarith
    have hangle : radians (2 * (k + 1) - 1) = k * Real.pi / 1800 + Real.pi / 3600 := by
      rw [radians, Nat.cast_sub (by omega)]
      push_cast
      ring
    rw [← hangle]
    refine angle_le_of hlength (by linarith [radians_nonneg (2 * (k + 1) - 1)]) ?_
    rw [← hx, ← hy]
    exact (aboveHalf_exact hpos hu (by omega) (by omega)).2 hbelow
  rw [abs_le]
  constructor <;> linarith

/-- A vector of the first quadrant. -/
theorem quadrantPhase_near {u v : Nat} (hu : u ≤ 65535) (hv : v ≤ 65535) (hsome : ¬ (u = 0 ∧ v = 0)) :
    quadrantPhase u v ≤ 900 ∧ PhaseNear u v (quadrantPhase u v) := by
  unfold quadrantPhase
  split
  next h =>
    obtain ⟨hle, hnear⟩ := octantPhase_near (u := u) (by omega) hu h
    exact ⟨by omega, hnear⟩
  next h =>
    obtain ⟨hle, l, θ, hl, hx, hy, hnear⟩ := octantPhase_near (u := v) (v := u) (by omega) hv (by omega)
    refine ⟨by omega, l, Real.pi / 2 - θ, hl, ?_, ?_, ?_⟩
    · rw [Real.cos_pi_div_two_sub, hy]
    · rw [Real.sin_pi_div_two_sub, hx]
    · rw [Nat.cast_sub (by omega)]
      rw [abs_le] at hnear ⊢
      push_cast
      constructor <;> linarith

/-! ### The whole circle -/

/-- The vector mirrored at the Y axis. -/
theorem PhaseNear.mirrorX {x y q : ℝ} (h : PhaseNear x y q) : PhaseNear (-x) y (1800 - q) := by
  obtain ⟨l, θ, hl, hx, hy, hnear⟩ := h
  refine ⟨l, Real.pi - θ, hl, by rw [Real.cos_pi_sub, hx]; ring, by rw [Real.sin_pi_sub, hy], ?_⟩
  rw [abs_le] at hnear ⊢
  constructor <;> linarith

/-- The vector mirrored at the X axis. -/
theorem PhaseNear.mirrorY {x y q : ℝ} (h : PhaseNear x y q) : PhaseNear x (-y) (-q) := by
  obtain ⟨l, θ, hl, hx, hy, hnear⟩ := h
  refine ⟨l, -θ, hl, by rw [Real.cos_neg, hx], by rw [Real.sin_neg, hy]; ring, ?_⟩
  rw [abs_le] at hnear ⊢
  constructor <;> linarith

/-- A turn by the whole circle. -/
theorem PhaseNear.turn {x y q : ℝ} (h : PhaseNear x y q) : PhaseNear x y (q + 3600) := by
  obtain ⟨l, θ, hl, hx, hy, hnear⟩ := h
  refine ⟨l, θ + 2 * Real.pi, hl, by rw [Real.cos_add_two_pi, hx], by rw [Real.sin_add_two_pi, hy], ?_⟩
  rw [abs_le] at hnear ⊢
  constructor <;> linarith

theorem phaseOf_near {dx dy : Int} (hx : dx.natAbs ≤ 65535) (hy : dy.natAbs ≤ 65535) (hsome : ¬ (dx = 0 ∧ dy = 0)) :
    phaseOf dx dy < 3600 ∧ PhaseNear dx dy (phaseOf dx dy) := by
  obtain ⟨hle, hnear⟩ := quadrantPhase_near hx hy (by omega)
  have right (h : 0 ≤ dx) : (dx.natAbs : ℝ) = dx := by rw [← Int.cast_natCast, Int.natAbs_of_nonneg h]
  have left (h : dx < 0) : -(dx.natAbs : ℝ) = dx := by
    exact_mod_cast (by omega : -(dx.natAbs : Int) = dx)
  have up (h : 0 ≤ dy) : (dy.natAbs : ℝ) = dy := by rw [← Int.cast_natCast, Int.natAbs_of_nonneg h]
  have down (h : dy < 0) : -(dy.natAbs : ℝ) = dy := by
    exact_mod_cast (by omega : -(dy.natAbs : Int) = dy)
  unfold phaseOf
  dsimp only
  rw [if_neg hsome]
  generalize quadrantPhase dx.natAbs dy.natAbs = q at hle hnear
  split_ifs with hdy hdx hdx
  · rw [right hdx, up hdy] at hnear
    exact ⟨by omega, hnear⟩
  · refine ⟨by omega, ?_⟩
    have hmirror := hnear.mirrorX
    rw [left (by omega), up hdy] at hmirror
    rw [Nat.cast_sub (by omega)]
    exact_mod_cast hmirror
  · refine ⟨by omega, ?_⟩
    have hmirror := hnear.mirrorX.mirrorY.turn
    rw [left hdx, down (by omega)] at hmirror
    rw [show ((1800 + q : Nat) : ℝ) = -(1800 - q) + 3600 by push_cast; ring]
    exact hmirror
  · refine ⟨Nat.mod_lt _ (by decide), ?_⟩
    have hmirror := hnear.mirrorY
    rw [right (by omega), down (by omega)] at hmirror
    by_cases hq : q = 0
    · rw [hq] at hmirror ⊢
      simpa using hmirror
    · rw [Nat.mod_eq_of_lt (by omega), show ((3600 - q : Nat) : ℝ) = -q + 3600 by rw [Nat.cast_sub (by omega)]; push_cast; ring]
      exact hmirror.turn

/-- Settles O23: the table by its error in fixed point, the phase by the fractions about each tangent. -/
theorem anglesAreNearest : Obligations.AnglesAreNearest :=
  ⟨fun _ ha => ⟨sineEntry_nearest ha, cosineEntry_nearest ha⟩, rfl, fun _ _ hx hy hsome => phaseOf_near hx hy hsome⟩

end Sys2Proof.Machine
